-- ==== Sys2Proof/Word.lean ====
section
/-! DEFINITION. The byte of the link and the few fixed numbers the manual names. -/

namespace Sys2Proof

/-- One byte on a segment's line (1.3). -/
abbrev Byte := BitVec 8

/-- The ceiling of any fare, in minor units (Conventions, Money). -/
def fareMax : Nat := 9999999

/-- The largest value of a 16-bit counter. -/
def max16 : Nat := 65535

/-- The largest value of a 32-bit counter. -/
def max32 : Nat := 4294967295

/-- The largest value of a 48-bit amount. -/
def max48 : Nat := 281474976710655

end Sys2Proof
end

