-- ==== Sys2Proof/Syntax.lean ====
section
/-! DEFINITION. The commands of the Izjen 740: one constructor of `Instr` for each row of
spec/opcode_table.json, and the names and operand records they carry. An enumerated field that a
frame may carry with a code the manual does not name is an `Option`: `none` is such a code, or data
whose layout does not fit the entry. -/

namespace Sys2Proof

/-! ### Nodes, roles and frame kinds (chapters 0 and 1) -/

/-- The two segments of the cab link, and the port that drives each. -/
inductive Seg | front | rear
  deriving DecidableEq, Repr, Inhabited

/-- A node address: a segment and a node number 0–7 (Conventions). -/
structure NodeAddr where
  seg : Seg
  num : Nat
  deriving DecidableEq, Repr, Inhabited

/-- The named roles of the role table (R17). -/
inductive Role | console | modem | service | reader | paxDisplay
  deriving DecidableEq, Repr, Inhabited

/-- One node's entry in the role table (R17). -/
inductive RoleEntry
  | none
  | generic
  | named (r : Role)
  deriving DecidableEq, Repr, Inhabited

/-- The rows of the frame-kind table (1.3). -/
inductive FrameKind
  | poll | empty | data | consoleReq | consoleResp | fareView | viewAck | payOffer | offerAck
  | payWithdraw | payReq | payResp | advice | adviceAck | shiftReport | mgmtReq | mgmtResp
  | notice | audio
  deriving DecidableEq, Repr, Inhabited

/-- A source or destination selector of a forwarding entry (R14). -/
inductive Selector
  | role (r : Role)
  | addr (a : NodeAddr)
  | any
  deriving DecidableEq, Repr, Inhabited

/-- A kind selector as a WRITE of FORWARDING carries it: a code or ANY (R16). -/
inductive KindCode
  | code (c : Nat)
  | any
  deriving DecidableEq, Repr, Inhabited

/-- The action of a forwarding entry (R14). -/
inductive Action | pass | drop | payment
  deriving DecidableEq, Repr, Inhabited

/-- The content a WRITE of FORWARDING gives an entry (R16). -/
inductive FwdData
  | unused
  | entry (src dst : Selector) (kind : KindCode) (action : Action)
  deriving DecidableEq, Repr, Inhabited

/-- The operation, object and index fields of a MGMT_REQ as received, which the response repeats (R24). A
command carries what the model reads of them by name; 1.3 gives the names no codes. -/
structure Echo where
  op : Nat
  object : Nat
  index : Nat
  deriving DecidableEq, Repr, Inhabited

/-- The fields a CONSOLE_REQ does not carry (R94). -/
def Echo.none : Echo := ⟨0, 0, 0⟩

/-- The sender of a management or console request, the tag it chose, and what a management response
repeats of it (R24, R94). -/
structure Req where
  src : NodeAddr
  tag : Nat
  echo : Echo
  deriving DecidableEq, Repr, Inhabited

/-! ### Notices (2.5) -/

/-- The notice kinds of R40. -/
inductive NoticeKind
  | restarted | timeInvalid | nodeLost | nodeFound | portDegraded | portRecovered
  | emergencyOn | emergencyOff | shiftLimit | logNearFull | logFull | adviceFull
  | tariffApplied | calibrationApplied | metrologyOpen | lampOpen | lampShort | micStuck
  | overrate | supplyLow | wake
  deriving DecidableEq, Repr, Inhabited

/-- The class of a notice (R38). -/
inductive NoticeClass | urgent | routine
  deriving DecidableEq, Repr, Inhabited

/-- The route of a notice (R40). -/
inductive Route | console | modem | both
  deriving DecidableEq, Repr, Inhabited

/-- One entry of the notice class table (R40). -/
structure ClassRoute where
  cls : NoticeClass
  route : Route
  deriving DecidableEq, Repr, Inhabited

/-- The index of NOTICE_CLASS: a notice kind, 255 for the queue status, or another number. -/
inductive NoticeIndex
  | kind (k : NoticeKind)
  | status
  | other
  deriving DecidableEq, Repr, Inhabited

/-! ### Objects (2.2) -/

/-- The object a management request names, with its index as that object reads it. -/
inductive Target
  | none
  | forwarding (i : Nat)
  | roles (a : NodeAddr)
  | signTable (i : Nat)
  | prompts (i : Nat)
  | promptMap (i : Nat)
  | intercomSet (i : Nat)
  | payLimits (i : Nat)
  | noticeClass (i : NoticeIndex)
  | powerSet (i : Nat)
  | tariffSet (part : Nat)
  | calibration (part : Nat)
  | totalizers
  | shift (i : Nat)
  | lastShift (i : Nat)
  | trip (low : Nat)
  | advice (pos : Nat)
  | portStatus (i : Nat)
  | nodeTable (a : NodeAddr)
  | meterStatus
  | time
  | restartInfo
  | unknown
  deriving DecidableEq, Repr, Inhabited

/-- The copy of a metrology object that a READ selects (R26). -/
inductive Copy | active | pending | staging
  deriving DecidableEq, Repr, Inhabited

/-- What the data bytes of a READ select. -/
inductive ReadSel
  | none
  | copy (c : Option Copy)
  | part (n : Nat)
  | stored
  | trip (high : Nat) (part : Nat)
  deriving DecidableEq, Repr, Inhabited

/-! ### Metrology (chapters 3, 4 and 5) -/

/-- How distance and time combine into progress (R75). -/
inductive Basis | max | sum | dist | time
  deriving DecidableEq, Repr, Inhabited

/-- A tariff part (R69). `basis` is `none` for a staged code that names no basis. DESIGN CHOICE, log entry 47:
a staged follow-band flag is yes or no. -/
structure Tariff where
  flagFall : Nat
  included : Nat
  stepDm : Nat
  stepDs : Nat
  increment : Nat
  basis : Option Basis
  followBand : Bool
  deriving DecidableEq, Repr, Inhabited

/-- The eight day types (R50). -/
inductive DayType | mon | tue | wed | thu | fri | sat | sun | holiday
  deriving DecidableEq, Repr, Inhabited

/-- A band part (R50). -/
structure Band where
  days : List DayType
  startMin : Nat
  stopMin : Nat
  default : Nat
  allowed : List Nat
  deriving DecidableEq, Repr, Inhabited

/-- A holiday part; the year `none` is EVERY (R50). -/
structure Holiday where
  year : Option Nat
  month : Nat
  day : Nat
  deriving DecidableEq, Repr, Inhabited

/-- An extras part; `inPay` is allowed states HIRED_AND_PAY (R71). DESIGN CHOICE, log entry 47: staged allowed
states are one of the two. -/
structure Extra where
  amount : Nat
  maxCount : Nat
  permitted : List Nat
  inPay : Bool
  deriving DecidableEq, Repr, Inhabited

/-- The general part: correction window in s, resume limit in min, version (R70). -/
structure General where
  correction : Nat
  resumeLimit : Nat
  version : Nat
  deriving DecidableEq, Repr, Inhabited

/-- The time trim: its interval N and whether its sign is + (R43). -/
structure Trim where
  n : Nat
  plus : Bool
  deriving DecidableEq, Repr, Inhabited

/-- The one part of CALIBRATION (chapter 4). -/
structure Calibration where
  k : Nat
  pMax : Nat
  sMin : Nat
  trim : Trim
  deriving DecidableEq, Repr, Inhabited

/-- The new content a WRITE_PART gives: fields, UNDEFINED, or data that fits no part (R30). -/
inductive PartData
  | general (g : General)
  | tariff (t : Tariff)
  | band (b : Band)
  | holiday (h : Holiday)
  | extra (e : Extra)
  | calibration (c : Calibration)
  | undefined
  | malformed
  deriving DecidableEq, Repr, Inhabited

/-! ### Sign (chapter 7) -/

/-- The role of a lamp channel (R118). -/
inductive LampRole | vacant | hired | offDuty | emergExt | aux1 | aux2
  deriving DecidableEq, Repr, Inhabited

/-- Whose instructions a lamp channel follows (R118). -/
inductive LampOwner | sign | aux
  deriving DecidableEq, Repr, Inhabited

/-- A composed value, pattern value or AUX latch (R122). -/
inductive LampValue | off | on | flashA | flashB
  deriving DecidableEq, Repr, Inhabited

/-- A channel entry of SIGN_TABLE, currents in mA (R118). -/
structure ChannelEntry where
  role : LampRole
  owner : LampOwner
  minMa : Nat
  maxMa : Nat
  deriving DecidableEq, Repr, Inhabited

/-- The five patterns of R120. -/
inductive PatternName | off | vacant | hired | pay | emergency
  deriving DecidableEq, Repr, Inhabited

/-- A pattern or a test: for channels 1–6 in order, the value of a channel in the mask, `none` for a
channel outside it (R120). -/
abbrev Pattern := List (Option LampValue)

/-- The brightness part (R127). -/
structure Brightness where
  tLow : Nat
  tHigh : Nat
  day : Nat
  dusk : Nat
  night : Nat
  deriving DecidableEq, Repr, Inhabited

/-! ### Intercom (chapter 8) -/

/-- The two sides of the partition, each with a microphone and a speaker. -/
inductive Side | drv | pax
  deriving DecidableEq, Repr, Inhabited

/-- The speakers a prompt plays on (R145). -/
inductive PromptDest | pax | drv | both
  deriving DecidableEq, Repr, Inhabited

/-- One segment of a prompt: a frequency in Hz (0 is silence) and a duration in ms (R145). -/
structure Tone where
  freq : Nat
  ms : Nat
  deriving DecidableEq, Repr, Inhabited

/-- A defined PROMPTS entry (R145). -/
structure PromptEntry where
  dest : PromptDest
  level : Nat
  tones : List Tone
  deriving DecidableEq, Repr, Inhabited

/-- The content a WRITE of PROMPTS gives (R145). -/
inductive PromptData
  | undefined
  | entry (e : PromptEntry)
  deriving DecidableEq, Repr, Inhabited

/-- The content a WRITE of PROMPT_MAP gives (R147). -/
inductive MapData
  | unmapped
  | prompt (i : Nat)
  deriving DecidableEq, Repr, Inhabited

/-- The settings part of INTERCOM_SET (R137). -/
structure IntercomSettings where
  gainD2P : Nat
  gainP2D : Nat
  closedLevel : Nat
  duck : Nat
  margin : Nat
  eMin : Nat
  hangover : Nat
  tie : Side
  driverPriority : Bool
  testLevel : Nat
  testThreshold : Nat
  deriving DecidableEq, Repr, Inhabited

/-! ### Payment, accounting and power (chapters 9 to 11) -/

/-- The limits part of PAY_LIMITS (R158). `floors` holds classes 0–3 in order. -/
structure PayLimits where
  tipPercent : Nat
  floors : List Nat
  offlineCap : Nat
  authTime : Nat
  deriving DecidableEq, Repr, Inhabited

/-- POWER_SET: thresholds in 10 mV, park delay in s, shift limit in min (R199). -/
structure PowerSettings where
  low : Nat
  restore : Nat
  parkDelay : Nat
  shiftLimit : Nat
  deriving DecidableEq, Repr, Inhabited

/-- A payment reference: boot epoch, trip number, tender index (R157). -/
structure Ref where
  epoch : Nat
  trip : Nat
  index : Nat
  deriving DecidableEq, Repr, Inhabited

/-- The reader's authorization request (R164). -/
structure PayReq where
  requestId : Nat
  claimed : Nat
  tip : Nat
  cardClass : Nat
  card : List Byte
  deriving DecidableEq, Repr, Inhabited

/-- The result of a modem response; `other` is any result R167 does not take. -/
inductive ModemResult | approved | declined | other
  deriving DecidableEq, Repr, Inhabited

/-- The modem's authorization response (R167). -/
structure PayResp where
  ref : Ref
  result : ModemResult
  authCode : List Byte
  deriving DecidableEq, Repr, Inhabited

/-- The kinds of advice (R172). -/
inductive AdviceKind | offline | disputed | unclaimed | inDoubt
  deriving DecidableEq, Repr, Inhabited

/-- The tariff a HIRE names (R99). -/
inductive HireTariff
  | auto
  | number (t : Nat)
  deriving DecidableEq, Repr, Inhabited

/-- The destinations of fare views (R112). -/
inductive ViewDest | console | paxDisplay
  deriving DecidableEq, Repr, Inhabited

/-! ### The commands -/

/-- The commands of spec/opcode_table.json, one constructor a row, in the table's order. A request
carries its sender and tag (`Req`), a frame its addresses, a sampled input its sample. -/
inductive Instr
  | frameReceived (port : Seg) (body : List Byte)
  | pollReplyEmpty (port : Seg)
  | dataFrame (port : Seg) (src dst : NodeAddr) (payload : List Byte)
  | pollStart (port : Seg)
  | pollReplyTimeout (port : Seg)
  | repollDue (node : NodeAddr)
  | frameSent (port : Seg)
  | lineWakeBurst (port : Seg)
  | loopback (rq : Req) (setting : Option (Seg × Bool))
  | loopbackTimerExpiry (port : Seg)
  | read (rq : Req) (target : Target) (sel : ReadSel)
  | write (rq : Req) (target : Target)
  | forwardingWrite (rq : Req) (index : Nat) (data : Option FwdData)
  | rolesWrite (rq : Req) (node : NodeAddr) (data : Option RoleEntry)
  | noticeClassWrite (rq : Req) (index : NoticeIndex) (data : Option ClassRoute)
  | signChannelWrite (rq : Req) (index : Nat) (data : Option ChannelEntry)
  | signPatternWrite (rq : Req) (pattern : PatternName) (data : Option Pattern)
  | brightnessWrite (rq : Req) (data : Option Brightness)
  | promptsWrite (rq : Req) (index : Nat) (data : Option PromptData)
  | promptMapWrite (rq : Req) (index : Nat) (data : Option MapData)
  | intercomSetWrite (rq : Req) (index : Nat) (data : Option IntercomSettings)
  | payLimitsWrite (rq : Req) (index : Nat) (data : Option PayLimits)
  | powerSetWrite (rq : Req) (index : Nat) (data : Option PowerSettings)
  | tableWriteComplete
  | openLoad (rq : Req) (target : Target)
  | writePart (rq : Req) (target : Target) (data : PartData)
  | commit (rq : Req) (target : Target)
  | abortLoad (rq : Req) (target : Target)
  | loadWindowExpiry
  | pendingCommitStored
  | applicationComplete
  | metrologySwitchOpen
  | metrologySwitchClose
  | meterInterval
  | trimCountExpiry
  | secondEvent
  | minuteEvent
  | setTime (rq : Req) (t : Nat)
  | backupLoss
  | odometerEdge (capture : BitVec 32)
  | holdoffExpiry
  | onDuty (rq : Req)
  | offDuty (rq : Req)
  | hire (rq : Req) (tariff : HireTariff)
  | pay (rq : Req)
  | resume (rq : Req)
  | extra (rq : Req) (code : Nat)
  | endUnpaid (rq : Req)
  | closeUpdateComplete
  | correctionWindowExpiry
  | viewHoldoffExpiry (dest : ViewDest)
  | viewAck (src : NodeAddr) (seq : Nat) (fare : Nat)
  | auxLamp (rq : Req) (channel : Nat) (value : Option LampValue)
  | signTest (rq : Req) (duration : Nat) (values : Option Pattern)
  | signTestExpiry
  | ambientSample (sample : Nat)
  | lampCheck (channel : Nat) (current : Nat)
  | clearLamp (rq : Req) (channel : Nat)
  | emergencySwitchClose
  | emergencySwitchOpen
  | emergencyHoldExpiry
  | emergencyClear (rq : Req)
  | codecFrame (drv pax : BitVec 16)
  | promptEnd
  | monitorFrameComplete
  | blockBoundary
  | prompt (rq : Req) (index : Nat)
  | speakerTest (rq : Req) (side : Option Side)
  | speakerTestEnd
  | payCard (rq : Req) (amount : Option Nat)
  | offerAck (src : NodeAddr) (trip : Nat) (index : Nat)
  | payCancel (rq : Req)
  | cash (rq : Req) (amount : Nat)
  | payReq (src dst : NodeAddr) (data : PayReq)
  | payResp (src dst : NodeAddr) (data : PayResp)
  | authTimerExpiry
  | adviceAckTimeout
  | adviceAck (src : NodeAddr) (ref : Ref) (kind : Option AdviceKind)
  | shiftOpen (rq : Req) (driver : Nat)
  | shiftOpenUpdateComplete
  | shiftClose (rq : Req)
  | shiftCloseUpdateComplete
  | shiftLimitReached
  | ackTrips (rq : Req) (n : Nat)
  | ackTripsWriteComplete
  | supplySample (sample : Nat)
  | holdupSaveComplete
  | supplyGone
  | ignitionOff
  | ignitionOn
  | parkDelayExpiry
  | checkpointTimerExpiry
  | checkpointComplete
  | restart (rq : Req)
  | restartSaveComplete (ambient : Nat)
  | coldStart (sample ambient : Nat)
  | pinReset (ambient : Nat)
  | startDelimiterSeen (port : Seg)
  | receivedCodeViolation (port : Seg)
  | overlengthAbort (port : Seg)
  | lineIdleResume (port : Seg)
  deriving DecidableEq, Repr, Inhabited

end Sys2Proof
end

