-- ==== Sys2Proof/Decode.lean ====
section
/-! DEFINITION. Words of the opcode table. No row of spec/opcode_table.json gives bits: the commands of
this part are events and requests, not words, and none is decoded from a number. The frames of the link
are read by `Machine.checkFrame`. -/

namespace Sys2Proof

/-- The command a word spells by the table's bits: none, for the table gives no row any bits (DEDUCED, log
entry 12). -/
def decodeTableWord (_nbits _w : Nat) : Option Instr := none

end Sys2Proof
end

