-- ==== Sys2Proof/Machine/Records.lean ====
section
/-! DEFINITION. The records the part keeps and sends: trips, tenders, advice, shifts, notices, the
status data that READs return, and the frames of the two segments. Plain data throughout. -/

namespace Sys2Proof.Machine

open Sys2Proof

/-! ### State names -/

/-- Presence of a node (R8). -/
inductive Presence | absent | probing | present | lost
  deriving DecidableEq, Repr, Inhabited

/-- Line health (R4). -/
inductive Health | good | degraded
  deriving DecidableEq, Repr, Inhabited

/-- Meter states (R93). -/
inductive MeterState | offDuty | vacant | hired | pay
  deriving DecidableEq, Repr, Inhabited

/-- Engine modes (R72). -/
inductive EngineMode | idle | running | held
  deriving DecidableEq, Repr, Inhabited

/-- Payment session states (R156). -/
inductive SessionState | idle | offered | presented | authWait
  deriving DecidableEq, Repr, Inhabited

/-- Power states of chapter 11; `off` is the part without supply, between its loss and the next cold
start. -/
inductive PowerState | run | restarting | holdup | parked | off
  deriving DecidableEq, Repr, Inhabited

/-- Start-up causes (R209). -/
inductive Cause | cold | coldAfterHoldup | pin | request
  deriving DecidableEq, Repr, Inhabited

/-- Wake sources (R206). -/
inductive WakeSource | ignition | emergencySwitch | frontLine | rearLine | shiftLimit
  deriving DecidableEq, Repr, Inhabited

/-- What cleared an emergency (R133). -/
inductive ClearCause
  | switch
  | requester (a : NodeAddr)
  deriving DecidableEq, Repr, Inhabited

/-- Results of management requests (R24). -/
inductive MgmtResult
  | ok | busy | refusedState | badObject | badValue | notAuthorised | locked | pending | full
  deriving DecidableEq, Repr, Inhabited

/-- The operations of R25, and a code that names none of them. -/
inductive OpName
  | read | write | openLoad | writePart | commit | abortLoad | setTime | ackTrips
  | emergencyClear | clearLamp | signTest | speakerTest | loopback | restart | unknown
  deriving DecidableEq, Repr, Inhabited

/-- The console request names of R94, and a name outside that table, as received (the response repeats it). -/
inductive ConsoleName
  | onDuty | offDuty | hire | pay | resume | extra | endUnpaid | payCard | payCancel | cash
  | shiftOpen | shiftClose | auxLamp | prompt
  | unknown (received : Nat)
  deriving DecidableEq, Repr, Inhabited

/-- Results of console requests, ACCEPTED or a refusal code (R94 and the deciding rules). -/
inductive ConsoleResult
  | accepted | badValue | busy | power | refusedState | noShift | shiftLimit | metrologyOpen
  | notCalibrated | timeInvalid | noBand | tariffNotAllowed | logFull | correctionClosed
  | extraNotAllowed | extraLimit | full | nothingDue | noReader | tenderFull
  deriving DecidableEq, Repr, Inhabited

/-- Results of replies to the reader (R168). -/
inductive ReaderResult | approved | approvedOffline | declined | noSession | notReady | busy
  deriving DecidableEq, Repr, Inhabited

/-! ### Trips, tenders and advice -/

/-- One fare segment of a trip (R74). -/
structure FareSegment where
  tariff : Nat
  start : Nat
  charged : Nat
  free : Nat
  metres : Nat
  intervals : Nat
  deriving DecidableEq, Repr, Inhabited

/-- One record of the extras list (R89). -/
structure ExtraRecord where
  code : Nat
  count : Nat
  amount : Nat
  deriving DecidableEq, Repr, Inhabited

/-- The seven trip flags (R111). -/
structure TripFlags where
  powerInterrupted : Bool
  supplyDip : Bool
  saturated : Bool
  segmentLimit : Bool
  emergency : Bool
  unpaid : Bool
  resumed : Bool
  deriving DecidableEq, Repr, Inhabited

/-- The statuses of a tender (R157). -/
inductive TenderStatus
  | authWait | approved | declined | offlineAccepted | offlineDisputed | inDoubt | cash
  deriving DecidableEq, Repr, Inhabited

/-- Why a card tender was declined (R157). -/
inductive DeclineReason | issuer | offlineRefused
  deriving DecidableEq, Repr, Inhabited

/-- The advice state of a tender (R157). -/
inductive AdviceState | none | queued | acknowledged | notQueued
  deriving DecidableEq, Repr, Inhabited

/-- The card fields of a tender, absent for CASH (R157). -/
structure CardFields where
  cardClass : Nat
  ref : Ref
  requestId : Nat
  authCode : Option (List Byte)
  deriving DecidableEq, Repr, Inhabited

/-- A tender (R157): CARD when `card` is present, CASH otherwise. -/
structure Tender where
  index : Nat
  amount : Nat
  tip : Nat
  card : Option CardFields
  status : TenderStatus
  reason : Option DeclineReason
  advice : AdviceState
  deriving DecidableEq, Repr, Inhabited

/-- The trip record (R111). Its hired distance and hired time are the sums over its segments; its
reported mark is read from the reported-through number (R190). -/
structure TripRecord where
  number : Nat
  shift : Nat
  epoch : Nat
  start : Nat
  stop : Nat
  segments : List FareSegment
  flagFall : Nat
  fare : Nat
  extras : List ExtraRecord
  tenders : List Tender
  unpaid : Nat
  flags : TripFlags
  deriving DecidableEq, Repr, Inhabited

/-- An advice record (R172); the in-flight mark is working state. -/
structure AdviceRecord where
  kind : AdviceKind
  ref : Ref
  shift : Nat
  amount : Nat
  tip : Nat
  cardClass : Nat
  time : Nat
  inFlight : Bool
  deriving DecidableEq, Repr, Inhabited

/-- An entry of the late match list (R170). -/
structure LateEntry where
  ref : Ref
  amount : Nat
  tip : Nat
  cardClass : Nat
  accepted : Bool
  shift : Nat
  deriving DecidableEq, Repr, Inhabited

/-! ### Shifts and totalizers -/

/-- The shift record (R182). Hired time is in deciseconds. -/
structure ShiftRecord where
  number : Nat
  driver : Nat
  limit : Nat
  opened : Nat
  closed : Nat
  elapsed : Nat
  hiredDs : Nat
  trips : Nat
  unpaidTrips : Nat
  hiredM : Nat
  unhiredM : Nat
  fares : Nat
  extras : Nat
  card : Nat
  offline : Nat
  cash : Nat
  tips : Nat
  unpaid : Nat
  lateDispute : Nat
  pendingAdvice : Nat
  interruptions : Nat
  emergencies : Nat
  deriving DecidableEq, Repr, Inhabited

/-- The mark of one role's SHIFT_REPORT (R188). -/
inductive ReportMark | notSent | offered | partially
  deriving DecidableEq, Repr, Inhabited

/-- The last shift record with its report marks (R181). -/
structure LastShift where
  record : ShiftRecord
  console : ReportMark
  modem : ReportMark
  deriving DecidableEq, Repr, Inhabited

/-- The shift as the accounting unit holds it: the record while a shift is open, and SHIFT_LIMIT. -/
structure ShiftHold where
  record : Option ShiftRecord
  limitSet : Bool
  deriving DecidableEq, Repr, Inhabited

/-- The seven totalizers (R194). -/
structure Totals where
  totalM : Nat
  hiredM : Nat
  trips : Nat
  steps : Nat
  fares : Nat
  powerInterrupts : Nat
  metrology : Nat
  deriving DecidableEq, Repr, Inhabited

/-- The contributions of a trip whose close update has not completed (R186). -/
structure Contribution where
  unpaidTrips : Nat
  hiredM : Nat
  hiredDs : Nat
  fare : Nat
  extras : Nat
  card : Nat
  offline : Nat
  cash : Nat
  unpaid : Nat
  tips : Nat
  deriving DecidableEq, Repr, Inhabited

/-! ### Tables -/

/-- A kind selector of a stored forwarding entry (R14). -/
inductive KindSel
  | kind (k : FrameKind)
  | any
  deriving DecidableEq, Repr, Inhabited

/-- A forwarding entry in use (R14); its hit counter is kept beside the table. -/
structure FwdEntry where
  src : Selector
  dst : Selector
  kind : KindSel
  action : Action
  deriving DecidableEq, Repr, Inhabited

/-- The role table: nodes 1–7 of each segment in order (R17). -/
structure RoleTable where
  front : List RoleEntry
  rear : List RoleEntry
  deriving DecidableEq, Repr, Inhabited

/-- The direct tables (2.2), held as working values and, one record an entry, in the store. Lists are
indexed from their first entry. -/
structure Tables where
  forwarding : List (Option FwdEntry)
  roles : RoleTable
  channels : List ChannelEntry
  patterns : List Pattern
  brightness : Brightness
  prompts : List (Option PromptEntry)
  promptMap : List (Option Nat)
  intercom : IntercomSettings
  payLimits : PayLimits
  noticeClass : List ClassRoute
  power : PowerSettings
  deriving DecidableEq, Repr, Inhabited

/-- TARIFF_SET (2.2): the general part, tariffs 1–8, bands 1–12, holidays 1–24, extras 1–16. -/
structure TariffSet where
  general : General
  tariffs : List (Option Tariff)
  bands : List (Option Band)
  holidays : List (Option Holiday)
  extras : List (Option Extra)
  deriving DecidableEq, Repr, Inhabited

/-- An application record (R34): counter value, time, and the TIME_INVALID mark. -/
structure AppRecord where
  counter : Nat
  time : Nat
  timeInvalid : Bool
  deriving DecidableEq, Repr, Inhabited

/-- The metrology in force and its application records (2.3). -/
structure Metrology where
  tariffSet : TariffSet
  calibration : Calibration
  tariffApp : Option AppRecord
  calibrationApp : Option AppRecord
  deriving DecidableEq, Repr, Inhabited

/-- The pending commit slot: at most one copy of each object (2.3). -/
structure PendingSlot where
  tariffSet : Option TariffSet
  calibration : Option Calibration
  deriving DecidableEq, Repr, Inhabited

/-! ### Notices -/

/-- A notice with the parameters its raising rule names (2.5). -/
inductive Notice
  | restarted (cause : Cause) (epoch : Nat)
  | timeInvalid
  | nodeLost (a : NodeAddr)
  | nodeFound (a : NodeAddr)
  | portDegraded (p : Seg)
  | portRecovered (p : Seg)
  | emergencyOn (time trip : Nat)
  | emergencyOff (time : Nat) (cause : ClearCause)
  | shiftLimit (shift elapsed : Nat)
  | logNearFull (count oldest : Nat)
  | logFull (oldest : Nat)
  | adviceFull (ref : Ref) (freeEntries : Nat)
  | tariffApplied (counter version : Nat)
  | calibrationApplied (counter : Nat)
  | metrologyOpen
  | lampOpen (channel : Nat) (role : LampRole) (current : Nat)
  | lampShort (channel : Nat) (role : LampRole) (current : Nat)
  | micStuck (mic : Side)
  | overrate (raw pMax counter : Nat)
  | supplyLow (sample low : Nat)
  | wake (sources : List WakeSource)
  deriving DecidableEq, Repr, Inhabited

/-- The mark of one role in an entry's route; `unrouted` when the route leaves the role out (2.5). -/
inductive RouteMark | unrouted | pending | sent | skipped
  deriving DecidableEq, Repr, Inhabited

/-- An entry of the notice queue (2.5). -/
structure NoticeEntry where
  seq : Nat
  notice : Notice
  cls : NoticeClass
  console : RouteMark
  modem : RouteMark
  time : Nat
  deriving DecidableEq, Repr, Inhabited

/-! ### Small state records that READs return as they stand -/

/-- Fault state of a lamp channel (R129, R130). -/
inductive LampFault | ok | opened | short
  deriving DecidableEq, Repr, Inhabited

/-- A channel's check timer: stopped, or running its first 50 ms or a later 500 ms (R129). -/
inductive CheckTimer | stopped | first | later
  deriving DecidableEq, Repr, Inhabited

/-- The running state of one lamp channel (chapter 7). -/
structure Lamp where
  latch : LampValue
  fault : LampFault
  lowChecks : Nat
  composed : LampValue
  emergency : Bool
  lit : Bool
  duty : Nat
  check : CheckTimer
  current : Nat
  deriving DecidableEq, Repr, Inhabited

/-- Ambient levels (R128). -/
inductive AmbientLevel | day | dusk | night
  deriving DecidableEq, Repr, Inhabited

/-- The ambient sampler (R128). -/
structure Ambient where
  level : AmbientLevel
  sample : Nat
  candidate : AmbientLevel
  count : Nat
  deriving DecidableEq, Repr, Inhabited

/-- An active lamp test and its remaining meter intervals (R125). -/
structure LampTest where
  values : Pattern
  remaining : Nat
  deriving DecidableEq, Repr, Inhabited

/-- The emergency switch's hold state; the target of TIMING is 2 s or 10 s (R132). -/
inductive HoldState
  | released
  | timing (target : Nat)
  | spent
  deriving DecidableEq, Repr, Inhabited

/-- The emergency state and the time of its last change (R133). -/
structure Emergency where
  active : Bool
  time : Nat
  deriving DecidableEq, Repr, Inhabited

/-- Sign conditions (R121). -/
inductive SignCondition | dark | parkedOff | parkedEmergency | off | vacant | hired | pay
  deriving DecidableEq, Repr, Inhabited

/-- Intercom run states (R136). -/
inductive RunState | running | muted | stopped
  deriving DecidableEq, Repr, Inhabited

/-- Intercom modes (R139). -/
inductive IntercomMode | closed | arbiter
  deriving DecidableEq, Repr, Inhabited

/-- States of the direction arbiter (R143). -/
inductive Arbiter | idle | driver | passenger
  deriving DecidableEq, Repr, Inhabited

/-- The kind of a path's target (R139). -/
inductive TargetKind | opened | closed
  deriving DecidableEq, Repr, Inhabited

/-- A speech path: its attenuation and its target (R139). -/
structure Path where
  a : Nat
  kind : TargetKind
  target : Nat
  deriving DecidableEq, Repr, Inhabited

/-- A voice detector (R140 to R142). `sum` and `peak` are of the block in progress; `energies` holds
the last 16 block energies, newest first. -/
structure Detector where
  floor : Option Nat
  active : Bool
  hangover : Nat
  stuckCount : Nat
  stuck : Bool
  sum : Nat
  peak : Nat
  energies : List Nat
  deriving DecidableEq, Repr, Inhabited

/-- A prompt being played: a copy of its entry, segment from 0, samples left in it, phase (R146). With no
sample left it has ended, and the player is idle (R148). -/
structure Playing where
  index : Nat
  entry : PromptEntry
  segment : Nat
  left : Nat
  phase : Nat
  deriving DecidableEq, Repr, Inhabited

/-- States of the monitor builder (R149). -/
inductive MonitorState | off | running | paused
  deriving DecidableEq, Repr, Inhabited

/-- The monitor builder: samples oldest first, next sequence number, start mark (R149, R150). -/
structure Monitor where
  state : MonitorState
  samples : List Int
  seq : Nat
  startMark : Bool
  deriving DecidableEq, Repr, Inhabited

/-- A speaker test in flight with its request (R151); `started` from the block boundary at which its tone begins,
`played` tone samples made, `phase` of its tone. -/
structure SpeakerTest where
  side : Side
  rq : Req
  started : Bool
  played : Nat
  phase : Nat
  level : Nat
  threshold : Nat
  deriving DecidableEq, Repr, Inhabited

/-- The payment session (R156); in IDLE the fields are 0 and clear. -/
structure Session where
  state : SessionState
  offer : Nat
  tipCap : Nat
  index : Nat
  offerAck : Bool
  viewMatch : Bool
  deriving DecidableEq, Repr, Inhabited

/-- A timer counted in whole seconds: stopped, or running with its remaining time. -/
inductive Timer
  | stopped
  | running (left : Nat)
  deriving DecidableEq, Repr, Inhabited

/-- The seven counters of chapter 9, each 16-bit and saturating. -/
structure PayCounters where
  amountMismatch : Nat
  staleResponse : Nat
  unmatchedResponse : Nat
  foreignSource : Nat
  ignoredAck : Nat
  unmatchedAdviceAck : Nat
  replyOverflow : Nat
  deriving DecidableEq, Repr, Inhabited

/-- Progress of the holdup save (11). -/
inductive SaveProgress | none | writing | complete
  deriving DecidableEq, Repr, Inhabited

/-- The holdup save mark (11). -/
inductive SaveMark | freshHoldup | freshRequest | consumed
  deriving DecidableEq, Repr, Inhabited

/-- The park delay timer (R204). -/
inductive ParkTimer
  | stopped
  | running (left : Nat)
  | waiting
  deriving DecidableEq, Repr, Inhabited

/-- The wake record (R205, R206). -/
structure WakeRecord where
  sources : List (WakeSource × Nat)
  entered : Option Nat
  woken : Option Nat
  deriving DecidableEq, Repr, Inhabited

/-- How the restored trip came out (R212). -/
inductive RestartOutcome | hired | pay | none | logged
  deriving DecidableEq, Repr, Inhabited

/-- The restart cause record (R212); `fromSave` is the source HOLDUP_SAVE. -/
structure CauseRecord where
  cause : Cause
  epoch : Nat
  time : Nat
  fromSave : Bool
  recordTime : Nat
  outage : Nat
  trip : Nat
  outcome : RestartOutcome
  deriving DecidableEq, Repr, Inhabited

/-! ### What READs return -/

/-- The port states of PORT_STATUS (R23). -/
inductive PortShown | up | degraded | loopback
  deriving DecidableEq, Repr, Inhabited

/-- PORT_STATUS of one port; the monitor fields are present on the front port (R23). -/
structure PortStatus where
  state : PortShown
  health : Health
  window : Nat
  quiet : Nat
  loopRemaining : Nat
  queued : Nat
  monitorQueued : Option Nat
  violations : Nat
  crcErrors : Nat
  formatErrors : Nat
  overflow : Nat
  monitorDrop : Option Nat
  deriving DecidableEq, Repr, Inhabited

/-- METER_STATUS (R68, R91, R116). -/
structure MeterStatus where
  k : Nat
  pMax : Nat
  sMin : Nat
  lastRaw : Nat
  lastP : Nat
  residual : Nat
  acceptedEdges : Nat
  glitches : Nat
  overrate : Nat
  distanceRunning : Bool
  mode : EngineMode
  active : Option Nat
  q : Nat
  pa : Nat
  fs : Nat
  segmentCount : Nat
  current : Option FareSegment
  fare : Nat
  extrasTotal : Nat
  flags : TripFlags
  state : MeterState
  closing : Bool
  tripNumber : Nat
  lastAssigned : Nat
  lastClosed : Nat
  snapshot : Nat
  remainingDue : Nat
  correction : Nat
  hiredM : Nat
  hiredDs : Nat
  band : Option Nat
  timeInvalid : Bool
  metrologyOpen : Bool
  shiftLimit : Bool
  consoleMark : Bool
  paxMark : Bool
  lastAck : Option (Nat × Nat)
  deriving DecidableEq, Repr, Inhabited

/-- TIME (R54). -/
structure TimeStatus where
  counter : Nat
  invalid : Bool
  year : Nat
  month : Nat
  day : Nat
  weekday : Nat
  minute : Nat
  dayType : DayType
  band : Option Nat
  staged : Option Nat
  trim : Trim
  deriving DecidableEq, Repr, Inhabited

/-- The sign status (R134): per channel its entry and running state. -/
structure SignStatus where
  condition : SignCondition
  channels : List (ChannelEntry × Lamp)
  emergency : Emergency
  switchClosed : Bool
  hold : HoldState
  test : Option LampTest
  ambient : Ambient
  deriving DecidableEq, Repr, Inhabited

/-- What the intercom status shows of a detector (R154). -/
structure DetectorStatus where
  floor : Option Nat
  lastE : Nat
  active : Bool
  hangover : Nat
  stuckCount : Nat
  stuck : Bool
  deriving DecidableEq, Repr, Inhabited

/-- The intercom status (R154). `playing` is the prompt's index and its segment, 1–6; `test` the side and the
samples played. -/
structure IntercomStatus where
  run : RunState
  mode : IntercomMode
  arbiter : Arbiter
  d2p : Path
  p2d : Path
  drv : DetectorStatus
  pax : DetectorStatus
  playing : Option (Nat × Nat)
  queue : List Nat
  drops : Nat
  monitor : MonitorState
  monitorSamples : Nat
  monitorSeq : Nat
  test : Option (Side × Nat)
  deriving DecidableEq, Repr, Inhabited

/-- The payment status (R179). -/
structure PayStatus where
  session : Session
  auth : Timer
  held : Bool
  tenders : List Tender
  remainingDue : Nat
  late : Nat
  adviceCount : Nat
  adviceFree : Nat
  inFlight : Option Ref
  adviceTimer : Timer
  epoch : Nat
  counters : PayCounters
  deriving DecidableEq, Repr, Inhabited

/-- RESTART_INFO (R212). -/
structure RestartInfo where
  cause : Option CauseRecord
  power : PowerState
  sample : Nat
  lowCount : Nat
  progress : SaveProgress
  mark : SaveMark
  park : ParkTimer
  checkpoint : Timer
  wake : WakeRecord
  checkpointTime : Nat
  deriving DecidableEq, Repr, Inhabited

/-- A part of TARIFF_SET as a READ returns it; `none` inside is UNDEFINED (2.2). -/
inductive PartView
  | general (g : General)
  | tariff (t : Option Tariff)
  | band (b : Option Band)
  | holiday (h : Option Holiday)
  | extra (e : Option Extra)
  deriving DecidableEq, Repr, Inhabited

/-- Part 0 of a trip record, with hired distance, hired time and reported mark (R193). -/
structure TripHead where
  number : Nat
  shift : Nat
  epoch : Nat
  start : Nat
  stop : Nat
  hiredM : Nat
  hiredDs : Nat
  flagFall : Nat
  fare : Nat
  unpaid : Nat
  flags : TripFlags
  reported : Bool
  deriving DecidableEq, Repr, Inhabited

/-- Part 1 of a shift record: identity, time, trips and distance (R188). Hired time in seconds. -/
structure ShiftPart1 where
  number : Nat
  driver : Nat
  limit : Nat
  opened : Nat
  closed : Nat
  elapsed : Nat
  hiredS : Nat
  trips : Nat
  unpaidTrips : Nat
  hiredM : Nat
  unhiredM : Nat
  deriving DecidableEq, Repr, Inhabited

/-- Part 2 of a shift record: amounts and the other group (R188). -/
structure ShiftPart2 where
  number : Nat
  fares : Nat
  extras : Nat
  card : Nat
  offline : Nat
  cash : Nat
  tips : Nat
  unpaid : Nat
  lateDispute : Nat
  pendingAdvice : Nat
  interruptions : Nat
  emergencies : Nat
  deriving DecidableEq, Repr, Inhabited

/-- One part of a shift record as a frame or a READ carries it (R188, R189). -/
inductive ShiftView
  | part1 (p : ShiftPart1)
  | part2 (p : ShiftPart2)
  deriving DecidableEq, Repr, Inhabited

/-- The data of an accepted READ (R26 and the objects' owners). -/
inductive ReadData
  | forwarding (e : Option FwdEntry) (hits : Nat)
  | roles (t : RoleTable)
  | brightness (b : Brightness)
  | channel (c : ChannelEntry)
  | pattern (p : Pattern)
  | sign (st : SignStatus)
  | prompt (e : Option PromptEntry)
  | promptMap (i : Option Nat)
  | intercomSettings (s : IntercomSettings)
  | intercom (st : IntercomStatus)
  | payLimits (l : PayLimits)
  | pay (st : PayStatus)
  | noticeClass (c : ClassRoute)
  | notices (urgent routine drops nextSeq : Nat)
  | power (p : PowerSettings)
  | tariffPart (v : PartView) (app : Option (Option AppRecord))
  | calibration (c : Calibration) (app : Option (Option AppRecord))
  | totals (t : Totals) (storedAt : Option Nat)
  | shift (v : ShiftView) (limitSet : Bool)
  | lastShift (v : ShiftView) (lateDispute : Nat) (console modem : ReportMark)
  | tripHead (h : TripHead)
  | tripSegments (l : List FareSegment)
  | tripExtras (l : List ExtraRecord)
  | tripTenders (l : List Tender)
  | logStatus (records unreported oldest newest reportedThrough : Nat)
  | advice (r : AdviceRecord)
  | port (st : PortStatus)
  | engine (noMatch actionErrors localRejects : Nat)
  | node (e : RoleEntry) (p : Presence) (missed : Nat)
  | meter (st : MeterStatus)
  | time (st : TimeStatus)
  | restart (st : RestartInfo)
  deriving DecidableEq, Repr, Inhabited

/-! ### Frames -/

/-- The outcome of a speaker test (R152, R153). -/
inductive TestOutcome | passed | failed | aborted
  deriving DecidableEq, Repr, Inhabited

/-- The data a management response carries beside its result (R24). -/
inductive RespData
  | none
  | read (d : ReadData)
  | badPart (index : Nat)
  | time (t : Nat)
  | trips (reportedThrough unreported : Nat)
  | test (o : TestOutcome) (average threshold : Nat)
  deriving DecidableEq, Repr, Inhabited

/-- A MGMT_RESP: the tag, operation, object and index as received, and the result with its data (R24). `op`
and `target` are what the part read of the request. -/
structure MgmtResp where
  tag : Nat
  echo : Echo
  op : OpName
  target : Target
  result : MgmtResult
  data : RespData
  deriving DecidableEq, Repr, Inhabited

/-- How a PROMPT was disposed of (R147). -/
inductive Disposition | alreadyWaiting | queued
  deriving DecidableEq, Repr, Inhabited

/-- The data a console response carries beside its result (R94 and the deciding rules). -/
inductive ConsoleData
  | none
  | trip (number tariff : Nat)
  | amount (n : Nat)
  | offer (amount tipCap : Nat)
  | cash (amount due : Nat)
  | disposition (d : Disposition)
  | shift (number : Nat)
  deriving DecidableEq, Repr, Inhabited

/-- A CONSOLE_RESP (R94). -/
structure ConsoleResp where
  tag : Nat
  name : ConsoleName
  result : ConsoleResult
  data : ConsoleData
  deriving DecidableEq, Repr, Inhabited

/-- A FARE_VIEW (R114). -/
structure FareView where
  seq : Nat
  state : MeterState
  closing : Bool
  trip : Nat
  active : Option Nat
  band : Option Nat
  fare : Nat
  extrasTotal : Nat
  remainingDue : Nat
  offer : Nat
  hiredM : Nat
  hiredDs : Nat
  saturated : Bool
  segmentLimit : Bool
  resumed : Bool
  deriving DecidableEq, Repr, Inhabited

/-- A stamped authorization request (R165). -/
structure StampedReq where
  ref : Ref
  shift : Nat
  amount : Nat
  tip : Nat
  cardClass : Nat
  requestId : Nat
  card : List Byte
  deriving DecidableEq, Repr, Inhabited

/-- The decided tender's fields in a reply to the reader (R168). -/
structure ReplyTender where
  ref : Ref
  amount : Nat
  tip : Nat
  authCode : Option (List Byte)
  deriving DecidableEq, Repr, Inhabited

/-- The payload of a frame the part originates. -/
inductive Content
  | consoleResp (r : ConsoleResp)
  | fareView (v : FareView)
  | payOffer (amount tipCap trip index : Nat)
  | payWithdraw (trip index : Nat)
  | payReq (r : StampedReq)
  | payResp (requestId : Nat) (result : ReaderResult) (tender : Option ReplyTender)
  | advice (r : AdviceRecord)
  | shiftReport (number part : Nat) (v : ShiftView)
  | mgmtResp (r : MgmtResp)
  | notice (seq : Nat) (n : Notice) (cls : NoticeClass) (time : Nat)
  | audio (seq : Nat) (startMark : Bool) (samples : List Int)
  deriving DecidableEq, Repr, Inhabited

/-- A frame in a queue: one the part originates, sent from node 0 of `seg` (R5), or one it passes or
echoes with its body unchanged. -/
inductive Frame
  | own (seg : Seg) (dst : NodeAddr) (content : Content)
  | relay (body : List Byte)
  deriving DecidableEq, Repr, Inhabited

end Sys2Proof.Machine
end

