-- ==== Sys2Proof/Config.lean ====
section
/-! DEFINITION. What an implementation fixes and the manual does not: byte layouts of payloads, and the
free values. Every constant is opaque: it has no body, and no proof can learn a value of it. -/

namespace Sys2Proof.Config

open Sys2Proof Sys2Proof.Machine

/-! ### Payload layouts

DESIGN CHOICE (log entry 2). 1.3 gives no byte layout below the header: "The payload of each kind is
given as named fields". These constants are those layouts. -/

/-- The request a received MGMT_REQ payload spells, as its operation's row of `Instr` carries it. -/
inductive MgmtOp
  | read (target : Target) (sel : ReadSel)
  | write (target : Target)
  | forwardingWrite (index : Nat) (data : Option FwdData)
  | rolesWrite (node : NodeAddr) (data : Option RoleEntry)
  | noticeClassWrite (index : NoticeIndex) (data : Option ClassRoute)
  | signChannelWrite (index : Nat) (data : Option ChannelEntry)
  | signPatternWrite (pattern : PatternName) (data : Option Pattern)
  | brightnessWrite (data : Option Brightness)
  | promptsWrite (index : Nat) (data : Option PromptData)
  | promptMapWrite (index : Nat) (data : Option MapData)
  | intercomSetWrite (index : Nat) (data : Option IntercomSettings)
  | payLimitsWrite (index : Nat) (data : Option PayLimits)
  | powerSetWrite (index : Nat) (data : Option PowerSettings)
  | openLoad (target : Target)
  | writePart (target : Target) (data : PartData)
  | commit (target : Target)
  | abortLoad (target : Target)
  | setTime (t : Nat)
  | ackTrips (n : Nat)
  | emergencyClear
  | clearLamp (channel : Nat)
  | signTest (duration : Nat) (values : Option Pattern)
  | speakerTest (side : Option Side)
  | loopback (setting : Option (Seg × Bool))
  | restart
  | unknown (target : Target)
  deriving DecidableEq, Repr, Inhabited

/-- The request a received CONSOLE_REQ payload spells; `malformed` is a name outside R94's table or
data that does not fit, under the name it carries, which the response repeats. -/
inductive ConsoleOp
  | onDuty
  | offDuty
  | hire (t : HireTariff)
  | pay
  | resume
  | extra (code : Nat)
  | endUnpaid
  | payCard (amount : Option Nat)
  | payCancel
  | cash (amount : Nat)
  | shiftOpen (driver : Nat)
  | shiftClose
  | auxLamp (channel : Nat) (value : Option LampValue)
  | prompt (index : Nat)
  | malformed (name : ConsoleName)
  deriving DecidableEq, Repr, Inhabited

/-- The tag of a MGMT_REQ payload, the fields its response repeats, and the operation it spells. -/
opaque readMgmt : List Byte → Nat × Echo × MgmtOp

/-- The tag and the request of a CONSOLE_REQ payload. -/
opaque readConsole : List Byte → Nat × ConsoleOp

/-- The view sequence number and the fare of a VIEW_ACK payload. -/
opaque readViewAck : List Byte → Nat × Nat

/-- The trip number and tender index of an OFFER_ACK payload. -/
opaque readOfferAck : List Byte → Nat × Nat

/-- The reference and kind of an ADVICE_ACK payload. -/
opaque readAdviceAck : List Byte → Ref × Option AdviceKind

/-- The fields of a PAY_REQ payload. -/
opaque readPayReq : List Byte → PayReq

/-- The fields of a PAY_RESP payload. -/
opaque readPayResp : List Byte → PayResp

/-- The payload bytes of a received PAY_REQ with these fields. -/
opaque payReqBytes : PayReq → List Byte

/-- The payload bytes of a received PAY_RESP with these fields. -/
opaque payRespBytes : PayResp → List Byte

/-- The payload bytes of a frame the part originates. -/
opaque contentBytes : Content → List Byte

/-! ### Free values -/

/-- DESIGN CHOICE (log entry 3). In which order the attempts of one departure from the front transmit
queue are taken; R10: they "may be taken in any order". Read modulo 6. -/
opaque departureOrder : Nat → Nat

/-- DESIGN CHOICE (log entry 4). How many of the oldest writes that no row of the table completes had
completed when a pin reset or a loss of supply interrupted the rest (R36). -/
opaque silentWritesDone : Nat → Nat

/-- DESIGN CHOICE (log entry 5). What a 32-bit number holds after it would pass its largest value,
where no rule says whether it wraps or holds. Read modulo 2^32. -/
opaque past32 : Nat → Nat

/-- DESIGN CHOICE (log entry 11). By how many seconds, beyond the first one past the resume limit, the
outage is recorded when the counter (second argument) stands more than 120 s below the record's time
(first argument); R211 says only that it is beyond the limit. -/
opaque outageBelow : Nat → Nat → Nat

end Sys2Proof.Config
end

