-- ==== Sys2Proof/Machine/State.lean ====
section
/-! DEFINITION. The whole state of the part as plain data, its factory content, and the state right
after the first start-up. Counts are `Nat` with the widths the manual gives kept by the operations
that change them; marks of a departure from the manual name their log entry. -/

namespace Sys2Proof.Machine

open Sys2Proof

/-! ### Stops -/

/-- Faults: there is none. No rule of the manual stops the part at a command, and no meaning needs to. -/
inductive Fault
  deriving DecidableEq, Repr

/-- Refusals. -/
inductive Refusal
  /-- Raised by `exec` alone, for a command that has no meaning yet; safe: the model stops. -/
  | notModelled (mnemonic : String)
  deriving DecidableEq, Repr

/-! ### The cab link (chapter 1) -/

/-- Port modes (R19). -/
inductive PortMode | normal | loopback
  deriving DecidableEq, Repr, Inhabited

/-- One node's row of the node table: presence, missed polls 0–3, and whether the 200 ms re-poll time
of a LOST node has passed (R6, R8). -/
structure NodeEntry where
  presence : Presence
  missed : Nat
  repollDue : Bool
  deriving DecidableEq, Repr, Inhabited

/-- The poll exchange in progress: the polled node, and whether its reply has begun (R7). -/
structure Exchange where
  node : Nat
  replying : Bool
  deriving DecidableEq, Repr, Inhabited

/-- The receiver: waiting for a start delimiter, receiving a frame, or ignoring the line after an
aborted frame (R2). -/
inductive RxState | waiting | receiving | ignoring
  deriving DecidableEq, Repr, Inhabited

/-- The queues a port sends from; `echo` is the echo of LOOPBACK (R9, R19). -/
inductive TxOrigin | transmit | monitor | echo
  deriving DecidableEq, Repr, Inhabited

/-- The frame being sent, where it came from, and whether it still stands at the head of that queue. -/
structure Sending where
  frame : Frame
  origin : TxOrigin
  queued : Bool
  deriving DecidableEq, Repr, Inhabited

/-- One port (chapter 1). `loopWanted` is an ON accepted during a poll exchange, `loopLeaving` an end
of LOOPBACK that waits for its pending echo (R19, R20). `nodes` are nodes 1–7 in order. -/
structure PortState where
  running : Bool
  mode : PortMode
  loopTimer : Nat
  loopWanted : Bool
  loopLeaving : Bool
  echo : Option (List Byte)
  health : Health
  window : Nat
  quiet : Nat
  violations : Nat
  crcErrors : Nat
  formatErrors : Nat
  overflow : Nat
  nodes : List NodeEntry
  pointer : Nat
  exchange : Option Exchange
  rx : RxState
  sending : Option Sending
  queue : List Frame
  deriving DecidableEq, Repr, Inhabited

/-- The front port's turn mark (R9). -/
inductive Turn | transmit | monitor
  deriving DecidableEq, Repr, Inhabited

/-- The link: both ports, the front port's monitor queue and turn mark, the forwarding engine's
counters and the hit counters of entries 0–31. -/
structure Link where
  front : PortState
  rear : PortState
  monitor : List Frame
  turn : Turn
  monitorDrop : Nat
  hits : List Nat
  noMatch : Nat
  actionErrors : Nat
  localRejects : Nat
  deriving DecidableEq, Repr, Inhabited

/-! ### Management (chapter 2) -/

/-- A whole copy of one metrology object. -/
inductive Staged
  | tariffSet (t : TariffSet)
  | calibration (c : Calibration)
  deriving DecidableEq, Repr, Inhabited

/-- The open load window: staging area (which tells its object), holder, idle seconds left (2.3). -/
structure LoadWindow where
  staging : Staged
  holder : NodeAddr
  idle : Nat
  deriving DecidableEq, Repr, Inhabited

/-- The management unit's working state: load window, objects in force, pending commit slot. -/
structure Management where
  window : Option LoadWindow
  metrology : Metrology
  slot : PendingSlot
  deriving DecidableEq, Repr, Inhabited

/-- The notice queue, oldest entry first (2.5). -/
structure NoticeQueue where
  entries : List NoticeEntry
  drops : Nat
  nextSeq : Nat
  deriving DecidableEq, Repr, Inhabited

/-! ### Time base (chapter 3) -/

/-- The backup domain. `cycle` is the crystal cycle count within the period, 0 at every command;
`length` the length of the period in progress; `alive` is clear between a backup loss and the next
power-up. -/
structure Backup where
  cycle : Nat
  position : Nat
  length : Nat
  trim : Trim
  trimCount : Nat
  inSecond : Nat
  phaseA : Bool
  counter : Nat
  timeInvalid : Bool
  keptBand : Option Nat
  alive : Bool
  deriving DecidableEq, Repr, Inhabited

/-- A SET_TIME value waiting for the next second event, with its request (R48). -/
structure StagedTime where
  t : Nat
  rq : Req
  deriving DecidableEq, Repr, Inhabited

/-- The time base; `newTrim` is a trim handed over by an application and not yet taken (R43). The
calendar is derived from the counter. -/
structure TimeBase where
  backup : Backup
  newTrim : Option Trim
  band : Option Nat
  staged : Option StagedTime
  deriving DecidableEq, Repr, Inhabited

/-! ### Distance and fare (chapters 4 and 5) -/

/-- The distance input; `holdoff` holds the capture time of the last accepted edge while the filter is
in HOLDOFF, `incoming` a calibration handed over and not yet in use (R64). -/
structure Distance where
  running : Bool
  capture : BitVec 32
  holdoff : Option (BitVec 32)
  count : Nat
  residual : Nat
  k : Nat
  pMax : Nat
  sMin : Nat
  incoming : Option Calibration
  overrateMark : Bool
  edges : Nat
  glitches : Nat
  overrate : Nat
  lastRaw : Nat
  lastP : Nat
  deriving DecidableEq, Repr, Inhabited

/-- The fare engine: mode, active tariff, segment constants Q, u_d, u_t and A, PA and FS. -/
structure Engine where
  mode : EngineMode
  active : Option Nat
  q : Nat
  uD : Nat
  uT : Nat
  inc : Nat
  pa : Nat
  fs : Nat
  deriving DecidableEq, Repr, Inhabited

/-! ### Meter (chapter 6) -/

/-- A fare view destination's mark, hold-off and next sequence number (R112, R113). -/
structure ViewState where
  mark : Bool
  holdoff : Bool
  seq : Nat
  deriving DecidableEq, Repr, Inhabited

/-- Where a trip close stands: none, its close update begun, step 3 to be gone on with, or an
application of step 3 in progress (R109). -/
inductive CloseStage | none | updating | goOn | applying
  deriving DecidableEq, Repr, Inhabited

/-- The meter controller; `correction` is 0 when the correction window timer is stopped. -/
structure Meter where
  state : MeterState
  closing : Bool
  stage : CloseStage
  trip : Option TripRecord
  snapshot : Option Nat
  correction : Nat
  lastAssigned : Nat
  lastClosed : Nat
  console : ViewState
  pax : ViewState
  lastAck : Option (Nat × Nat)
  deriving DecidableEq, Repr, Inhabited

/-! ### Sign and intercom (chapters 7 and 8) -/

/-- The sign controller; `lamps` are channels 1–6 in order. -/
structure Sign where
  lamps : List Lamp
  test : Option LampTest
  ambient : Ambient
  emergency : Emergency
  hold : HoldState
  deriving DecidableEq, Repr, Inhabited

/-- The intercom; `position` counts the samples of the block in progress, 128 while a full block waits for
its boundary; `drvSpk` and `paxSpk` are the speaker samples sent in the next codec frame. -/
structure Intercom where
  run : RunState
  mode : IntercomMode
  d2p : Path
  p2d : Path
  drv : Detector
  pax : Detector
  position : Nat
  arbiter : Arbiter
  playing : Option Playing
  queue : List Nat
  drops : Nat
  monitor : Monitor
  test : Option SpeakerTest
  drvSpk : Int
  paxSpk : Int
  deriving DecidableEq, Repr, Inhabited

/-! ### Payment and accounting (chapters 9 and 10) -/

/-- The payment controller; `authExpired` is an authorization expiry that fell in HOLDUP (R166),
`held` a stamped request waiting for its checkpoint (R165), `ackTimer` the advice sender's. -/
structure Payment where
  session : Session
  tenders : List Tender
  late : List LateEntry
  auth : Timer
  authExpired : Bool
  held : Option StampedReq
  advice : List AdviceRecord
  ackTimer : Timer
  epoch : Nat
  counters : PayCounters
  deriving DecidableEq, Repr, Inhabited

/-- The accounting unit; `entry` is the pending close entry, `unwritten` a shift closed before a pin
reset whose SHIFT_CLOSE update had not completed (R197). -/
structure Accounting where
  shift : ShiftHold
  lastNumber : Nat
  last : Option LastShift
  entry : Option Contribution
  unwritten : Bool
  reportedThrough : Nat
  totals : Totals
  deriving DecidableEq, Repr, Inhabited

/-! ### Power and pins (chapter 11) -/

/-- The supply and power controller. -/
structure Power where
  state : PowerState
  sample : Nat
  lowCount : Nat
  progress : SaveProgress
  park : ParkTimer
  wake : WakeRecord
  checkpoint : Timer
  deriving DecidableEq, Repr, Inhabited

/-- The levels of the three switch inputs. -/
structure Pins where
  ignition : Bool
  emergencyClosed : Bool
  metrologyOpen : Bool
  deriving DecidableEq, Repr, Inhabited

/-! ### The store (2.4) -/

/-- An open trip as a checkpoint or a holdup save holds it (R202). -/
structure SavedTrip where
  record : TripRecord
  pa : Nat
  fs : Nat
  active : Option Nat
  deriving DecidableEq, Repr, Inhabited

/-- The fields a holdup save and a checkpoint share (R202, R207). -/
structure SaveRecord where
  time : Nat
  timeInvalid : Bool
  meter : MeterState
  trip : Option SavedTrip
  emergency : Emergency
  shiftOpen : Bool
  limitSet : Bool
  deriving DecidableEq, Repr, Inhabited

/-- What every write of the shift record carries; `last` when a closed shift goes with it, `report`
when its completion decides the SHIFT_REPORT (R195, R197). -/
structure ShiftCarry where
  shift : ShiftHold
  lastNumber : Nat
  last : Option LastShift
  report : Bool
  deriving DecidableEq, Repr, Inhabited

/-- What begins a metrology application: a COMMIT that is answered, or a trip close (R34). -/
inductive AppOrigin
  | commit (rq : Req) (target : Target)
  | close
  deriving DecidableEq, Repr, Inhabited

/-- One entry of a direct table, as one store record (R27). Positions count from 0. -/
inductive TableEntry
  | forwarding (i : Nat) (e : Option FwdEntry)
  | role (a : NodeAddr) (e : RoleEntry)
  | channel (i : Nat) (e : ChannelEntry)
  | pattern (i : Nat) (p : Pattern)
  | brightness (b : Brightness)
  | prompt (i : Nat) (e : Option PromptEntry)
  | promptMap (i : Nat) (e : Option Nat)
  | intercom (s : IntercomSettings)
  | payLimits (l : PayLimits)
  | noticeClass (i : Nat) (c : ClassRoute)
  | power (p : PowerSettings)
  deriving DecidableEq, Repr, Inhabited

/-- The store writes. Each of the first group is completed by a row of the command table; those of the
second are completed by none, in their turn (R36). -/
inductive StoreWrite
  | table (e : TableEntry) (rq : Req) (target : Target)
  | pendingCopy (s : Staged) (rq : Req) (target : Target)
  | application (s : Staged) (app : AppRecord) (totals : Totals) (time : Nat) (origin : AppOrigin)
  | closeUpdate (r : TripRecord) (carry : ShiftCarry) (totals : Totals) (time lastAssigned : Nat)
  | shiftOpen (carry : ShiftCarry) (rq : Req) (number : Nat)
  | shiftClose (carry : ShiftCarry) (totals : Totals) (time : Nat) (rq : Req) (number : Nat)
  | ackTrips (n unreported : Nat) (rq : Req)
  | save (mark : SaveMark) (r : SaveRecord) (carry : ShiftCarry) (totals : Totals)
  | checkpoint (r : SaveRecord) (lastAssigned : Nat) (carry : ShiftCarry) (totals : Totals)
      (releases : Option Ref)
  | adviceSet (r : AdviceRecord)
  | adviceRemove (ref : Ref)
  | markConsumed
  | cause (c : CauseRecord)
  | lastShift (l : LastShift)
  | totals (carry : ShiftCarry) (totals : Totals) (time : Nat)
  | slotRemove (tariff : Bool)
  deriving DecidableEq, Repr, Inhabited

/-- The completed content of the store. `checkpointLater` says that the stored checkpoint completed
after the stored holdup save (R209); `lastAssigned` is the value in the last completed checkpoint or
close update (R101); `totalsTime` is the time of the write that stored the totalizers (R196). -/
structure Store where
  tables : Tables
  metrology : Metrology
  slot : PendingSlot
  log : List TripRecord
  reportedThrough : Nat
  advice : List AdviceRecord
  shift : ShiftHold
  lastNumber : Nat
  last : Option LastShift
  totals : Totals
  totalsTime : Nat
  checkpoint : SaveRecord
  lastAssigned : Nat
  save : SaveRecord
  mark : SaveMark
  checkpointLater : Bool
  epoch : Nat
  cause : Option CauseRecord
  deriving DecidableEq, Repr, Inhabited

/-! ### The whole machine -/

/-- The state of the part. `pending` is the queue of waiting commands, `writes` the store writes begun
and not completed, in the order begun, `free` the model's own count of free values drawn. -/
structure State where
  pending : List Instr
  link : Link
  tables : Tables
  mgmt : Management
  notices : NoticeQueue
  time : TimeBase
  distance : Distance
  engine : Engine
  meter : Meter
  sign : Sign
  intercom : Intercom
  pay : Payment
  acct : Accounting
  power : Power
  pins : Pins
  store : Store
  writes : List StoreWrite
  free : Nat
  deriving DecidableEq, Repr, Inhabited

/-! ### Factory content -/

/-- The factory tables: R16, R17, R118, R120, R127, R145, R147, R137, R158, R40 and R199. -/
def Tables.factory : Tables where
  forwarding :=
    [some ⟨.role .reader, .any, .kind .payReq, .payment⟩,
     some ⟨.role .modem, .any, .kind .payResp, .payment⟩,
     some ⟨.any, .any, .kind .data, .pass⟩] ++ List.replicate 29 none
  roles :=
    { front := [.named .console, .named .modem, .none, .none, .none, .none, .named .service]
      rear := [.named .reader, .named .paxDisplay, .none, .none, .none, .none, .none] }
  channels :=
    [⟨.vacant, .sign, 150, 1500⟩, ⟨.hired, .sign, 150, 1500⟩, ⟨.offDuty, .sign, 150, 1500⟩,
     ⟨.emergExt, .sign, 150, 1500⟩, ⟨.aux1, .aux, 100, 1500⟩, ⟨.aux2, .aux, 100, 1500⟩]
  patterns :=
    [[none, none, some .on, none, none, none],
     [some .on, none, none, none, none, none],
     [none, some .on, none, none, none, none],
     [none, some .flashA, none, none, none, none],
     [none, none, none, some .flashA, none, none]]
  brightness := ⟨400, 1600, 255, 160, 90⟩
  prompts :=
    [some ⟨.both, 8000, [⟨880, 150⟩, ⟨0, 50⟩, ⟨660, 200⟩]⟩,
     some ⟨.pax, 8000, [⟨1000, 300⟩]⟩,
     some ⟨.pax, 8000, [⟨660, 150⟩, ⟨880, 150⟩]⟩,
     some ⟨.pax, 8000, [⟨400, 500⟩]⟩,
     some ⟨.drv, 6000, [⟨1200, 100⟩, ⟨0, 100⟩, ⟨1200, 100⟩]⟩] ++ List.replicate 11 none
  promptMap := [some 0, some 1, some 1, some 2, some 2, some 3, none, some 4]
  intercom := ⟨256, 256, 16, 64, 16, 10000, 25, .drv, true, 8000, 200000⟩
  payLimits := ⟨15, [5000, 3000, 0, 0], 20000, 30⟩
  noticeClass :=
    [⟨.routine, .both⟩, ⟨.urgent, .both⟩, ⟨.routine, .both⟩, ⟨.routine, .both⟩,
     ⟨.routine, .modem⟩, ⟨.routine, .modem⟩, ⟨.urgent, .modem⟩, ⟨.urgent, .modem⟩,
     ⟨.urgent, .both⟩, ⟨.routine, .both⟩, ⟨.urgent, .both⟩, ⟨.urgent, .both⟩,
     ⟨.routine, .both⟩, ⟨.routine, .both⟩, ⟨.urgent, .both⟩, ⟨.routine, .both⟩,
     ⟨.urgent, .both⟩, ⟨.routine, .both⟩, ⟨.routine, .modem⟩, ⟨.urgent, .both⟩,
     ⟨.routine, .modem⟩]
  power := ⟨900, 1050, 30, 0⟩

/-- A TARIFF_SET that has never been written (2.2, R70). -/
def TariffSet.factory : TariffSet :=
  ⟨⟨10, 15, 0⟩, List.replicate 8 none, List.replicate 12 none, List.replicate 24 none,
   List.replicate 16 none⟩

/-- A CALIBRATION that has never been written (R63). The sign of a trim that never acts: DESIGN CHOICE
+ (log entry 7). -/
def factoryCalibration : Calibration := ⟨0, 255, 50, ⟨0, true⟩⟩

/-- Metrology never applied (2.2). -/
def Metrology.factory : Metrology := ⟨.factory, factoryCalibration, none, none⟩

/-- No pending copy. -/
def PendingSlot.empty : PendingSlot := ⟨none, none⟩

/-- Every totalizer 0 (R194). -/
def Totals.zero : Totals := ⟨0, 0, 0, 0, 0, 0, 0⟩

/-- No flag set (R111). -/
def TripFlags.clear : TripFlags := ⟨false, false, false, false, false, false, false⟩

/-- No shift open and SHIFT_LIMIT clear. -/
def ShiftHold.none : ShiftHold := ⟨Option.none, false⟩

/-- The checkpoint of a store that has never been written (R209), at time 0 (DEDUCED, log entry 31).
DESIGN CHOICE, log entry 44: the time of the last emergency change. -/
def SaveRecord.factory : SaveRecord := ⟨0, false, .offDuty, none, ⟨false, 0⟩, false, false⟩

/-- A store that has never been written (R22, R36, R176, R209). DEDUCED, log entry 31: the records no write
has made. DESIGN CHOICE, log entry 44: the write time of the stored totalizers (R196). -/
def Store.factory : Store where
  tables := .factory
  metrology := .factory
  slot := .empty
  log := []
  reportedThrough := 0
  advice := []
  shift := .none
  lastNumber := 0
  last := none
  totals := .zero
  totalsTime := 0
  checkpoint := .factory
  lastAssigned := 0
  save := .factory
  mark := .consumed
  checkpointLater := true
  epoch := 0
  cause := none

/-! ### Values after a start-up -/

/-- A node of the table right after its port starts (R22). -/
def NodeEntry.start (e : RoleEntry) : NodeEntry :=
  match e with
  | .none => ⟨.absent, 0, false⟩
  | _ => ⟨.probing, 0, false⟩

/-- A port right after a start-up, for the role entries of its nodes (R22). -/
def PortState.start (roles : List RoleEntry) : PortState where
  running := true
  mode := .normal
  loopTimer := 0
  loopWanted := false
  loopLeaving := false
  echo := none
  health := .good
  window := 0
  quiet := 0
  violations := 0
  crcErrors := 0
  formatErrors := 0
  overflow := 0
  nodes := roles.map .start
  pointer := 7
  exchange := none
  rx := .waiting
  sending := none
  queue := []

/-- The link right after a start-up (R22). -/
def Link.start (roles : RoleTable) : Link where
  front := .start roles.front
  rear := .start roles.rear
  monitor := []
  turn := .transmit
  monitorDrop := 0
  hits := List.replicate 32 0
  noMatch := 0
  actionErrors := 0
  localRejects := 0

/-- The backup domain after backup loss, and at the part's first power-up (R46; DEDUCED, log entry 6). -/
def Backup.lost : Backup where
  cycle := 0
  position := 1
  length := 3277
  trim := ⟨0, true⟩
  trimCount := 0
  inSecond := 0
  phaseA := true
  counter := 0
  timeInvalid := true
  keptBand := none
  alive := true

/-- The distance input after a start-up with a calibration (R67). The capture timer's start-up value is
not given: DESIGN CHOICE 0 (log entry 7). -/
def Distance.start (c : Calibration) : Distance where
  running := true
  capture := 0
  holdoff := none
  count := 0
  residual := 0
  k := c.k
  pMax := c.pMax
  sMin := c.sMin
  incoming := none
  overrateMark := false
  edges := 0
  glitches := 0
  overrate := 0
  lastRaw := 0
  lastP := 0

/-- The engine in IDLE, with Q 0 (R72, R91). DESIGN CHOICE, log entry 44: its other numbers. -/
def Engine.idle : Engine := ⟨.idle, none, 0, 0, 0, 0, 0, 0⟩

/-- A view destination after a start-up (R117). -/
def ViewState.start : ViewState := ⟨true, false, 0⟩

/-- A lamp channel after a start-up, before it is driven (R135). DESIGN CHOICE, log entry 44: the sensed
current before the first check. -/
def Lamp.start : Lamp := ⟨.off, .ok, 0, .off, false, false, 0, .stopped, 0⟩

/-- A voice detector after a start (R155). DESIGN CHOICE, log entry 44: the block energies before the first
blocks. -/
def Detector.start : Detector := ⟨none, false, 0, 0, false, 0, 0, List.replicate 16 0⟩

/-- The monitor builder off (R149). DESIGN CHOICE, log entry 44: the sequence number while off. -/
def Monitor.off : Monitor := ⟨.off, [], 0, false⟩

/-- A path after a start: closed at 0 (R155). -/
def Path.start : Path := ⟨0, .closed, 0⟩

/-- The intercom after a start in mode CLOSED (R155). DESIGN CHOICE, log entry 44: the speaker samples of
the first frame. -/
def Intercom.start : Intercom where
  run := .running
  mode := .closed
  d2p := .start
  p2d := .start
  drv := .start
  pax := .start
  position := 0
  arbiter := .idle
  playing := none
  queue := []
  drops := 0
  monitor := .off
  test := none
  drvSpk := 0
  paxSpk := 0

/-- The session in IDLE (R156). -/
def Session.idle : Session := ⟨.idle, 0, 0, 0, false, false⟩

/-- The payment counters at 0 (R178). -/
def PayCounters.zero : PayCounters := ⟨0, 0, 0, 0, 0, 0, 0⟩

/-- The wake record cleared (R213). -/
def WakeRecord.clear : WakeRecord := ⟨[], none, none⟩

/-- The restart cause record of the first start-up of a new part. -/
def CauseRecord.first : CauseRecord := ⟨.cold, 1, 0, false, 0, 0, 0, .none⟩

/-- What the first start-up's checkpoint carries of the shift. -/
def ShiftCarry.first : ShiftCarry := ⟨.none, 0, none, false⟩

/-- The checkpoint record the first start-up begins. -/
def SaveRecord.first : SaveRecord := ⟨0, true, .offDuty, none, ⟨false, 0⟩, false, false⟩

/-- The machine right after reset: the first start-up of a part whose store has never been written has
just run (R210), with a supply sample of 1,050 and an ambient sample of 0, the ignition on, the
emergency switch open and the metrology switch closed (DESIGN CHOICE, log entry 7). The command queue
is empty. -/
def State.reset : State where
  pending := []
  link := .start Tables.factory.roles
  tables := .factory
  mgmt := ⟨none, .factory, .empty⟩
  notices :=
    { entries :=
        [⟨0, .restarted .cold 1, .routine, .pending, .pending, 0⟩,
         ⟨1, .timeInvalid, .urgent, .pending, .pending, 0⟩]
      drops := 0
      nextSeq := 2 }
  time := ⟨.lost, none, none, none⟩
  distance := .start factoryCalibration
  engine := .idle
  meter :=
    { state := .offDuty
      closing := false
      stage := .none
      trip := none
      snapshot := none
      correction := 0
      lastAssigned := 0
      lastClosed := 0
      console := .start
      pax := .start
      lastAck := none }
  sign :=
    { lamps :=
        [.start, .start,
         { Lamp.start with composed := .on, lit := true, duty := 90, check := .first },
         .start, .start, .start]
      test := none
      ambient := ⟨.night, 0, .night, 0⟩
      emergency := ⟨false, 0⟩
      hold := .released }
  intercom := .start
  pay :=
    { session := .idle
      tenders := []
      late := []
      auth := .stopped
      authExpired := false
      held := none
      advice := []
      ackTimer := .stopped
      epoch := 1
      counters := .zero }
  acct :=
    { shift := .none
      lastNumber := 0
      last := none
      entry := none
      unwritten := false
      reportedThrough := 0
      totals := .zero }
  power :=
    { state := .run
      sample := 1050
      lowCount := 0
      progress := .none
      park := .stopped
      wake := .clear
      checkpoint := .stopped }
  pins := ⟨true, false, false⟩
  store := { Store.factory with epoch := 1 }
  writes := [.cause .first, .checkpoint .first 0 .first .zero none]
  free := 0

end Sys2Proof.Machine
end

