-- ==== Sys2Proof/Machine/Flags.lean ====
section
/-! DEFINITION. Counters and the conditions other blocks read off the state: availability of a role,
counted tenders, the remaining due, the state of the trip log. -/

namespace Sys2Proof.Machine

open Sys2Proof

/-! ### Counters -/

/-- One more on a saturating counter whose largest value is `top` (Conventions, Numbers). -/
def satInc (top n : Nat) : Nat := min (n + 1) top

/-- `d` more on a saturating counter whose largest value is `top`. -/
def satAdd (top n d : Nat) : Nat := min (n + d) top

/-- One more on a 16-bit number that wraps from 65,535 to 0. -/
def wrap16 (n : Nat) : Nat := (n + 1) % 65536

/-- A 32-bit number: `n` itself while it fits; past that the manual states no value (log entry 5). -/
def count32 (n : Nat) : Nat := if n ≤ max32 then n else Config.past32 n % 4294967296

/-! ### Ports and nodes -/

/-- The port that drives a segment. -/
def State.port (s : State) : Seg → PortState
  | .front => s.link.front
  | .rear => s.link.rear

/-- `s` with one port changed. -/
def State.modPort (s : State) (seg : Seg) (f : PortState → PortState) : State :=
  match seg with
  | .front => { s with link := { s.link with front := f s.link.front } }
  | .rear => { s with link := { s.link with rear := f s.link.rear } }

/-- The role table's entries of one segment (R17). -/
def RoleTable.of (t : RoleTable) : Seg → List RoleEntry
  | .front => t.front
  | .rear => t.rear

/-- A node's entry in the role table; NONE for a number outside 1–7 (R17). -/
def State.roleEntry (s : State) (a : NodeAddr) : RoleEntry :=
  if a.num = 0 then .none else (s.tables.roles.of a.seg).getD (a.num - 1) .none

/-- A node is configured when its entry is not NONE (R17). -/
def State.configured (s : State) (a : NodeAddr) : Bool := s.roleEntry a != .none

/-- The segment on which a role's node lies (R17). -/
def roleSeg : Role → Seg
  | .console | .modem | .service => .front
  | .reader | .paxDisplay => .rear

/-- The node that holds a role (R17). -/
def State.holder (s : State) (r : Role) : Option NodeAddr :=
  ((s.tables.roles.of (roleSeg r)).findIdx? (· == .named r)).map fun i => ⟨roleSeg r, i + 1⟩

/-- A node's presence state; ABSENT outside the node table (R8). -/
def State.presence (s : State) (a : NodeAddr) : Presence :=
  if a.num = 0 then .absent
  else (((s.port a.seg).nodes[a.num - 1]?).map (·.presence)).getD .absent

/-- Presence of the node of a role; ABSENT while no node holds it. -/
def State.rolePresence (s : State) (r : Role) : Presence :=
  ((s.holder r).map s.presence).getD .absent

/-- A role is available when its node is PRESENT (Conventions). -/
def State.available (s : State) (r : Role) : Bool := s.rolePresence r == .present

/-- The transmit queue of a segment accepts an offer: its port runs and it holds fewer than 24 frames
(R10). -/
def State.accepts (s : State) (seg : Seg) : Bool :=
  (s.port seg).running && decide ((s.port seg).queue.length < 24)

/-! ### Power -/

/-- The part is powered. -/
def State.powered (s : State) : Bool := s.power.state != .off

/-- The clock value recorded with events. -/
def State.now (s : State) : Nat := s.time.backup.counter

/-! ### Trip and payment -/

/-- The statuses that count toward the fare (R157). -/
def TenderStatus.counted : TenderStatus → Bool
  | .approved | .offlineAccepted | .offlineDisputed | .cash => true
  | _ => false

/-- Sum of the amounts of the counted tenders (R157). -/
def countedSum (l : List Tender) : Nat :=
  ((l.filter (·.status.counted)).map (·.amount)).sum

/-- The remaining due: the snapshot less the counted tenders in PAY, 0 outside it (R103). -/
def State.remainingDue (s : State) : Nat :=
  if s.meter.state = .pay then s.meter.snapshot.getD 0 - countedSum s.pay.tenders else 0

/-- A trip's hired distance: the sum of its segments' metres (R62, R111). -/
def TripRecord.hiredM (t : TripRecord) : Nat := (t.segments.map (·.metres)).sum

/-- A trip's hired time in deciseconds: the sum of its segments' intervals (R78). -/
def TripRecord.hiredDs (t : TripRecord) : Nat := (t.segments.map (·.intervals)).sum

/-- The extras total: the sum of count × amount, not capped (R90). -/
def TripRecord.extrasTotal (t : TripRecord) : Nat := (t.extras.map fun e => e.count * e.amount).sum

/-- An EMERGENCY-independent reading of the open trip's fare; 0 without a trip. -/
def State.fare (s : State) : Nat := (s.meter.trip.map (·.fare)).getD 0

/-! ### Trip log -/

/-- The unreported records of a log (R190). -/
def unreported (through : Nat) (log : List TripRecord) : List TripRecord :=
  log.filter fun r => decide (through < r.number)

/-- The log has a slot that holds no unreported record (R99, check 8). -/
def State.logHasSlot (s : State) : Bool :=
  decide ((unreported s.acct.reportedThrough s.store.log).length < 64)

/-- The newest trip number in a log, 0 when it is empty. -/
def newestTrip (log : List TripRecord) : Nat := ((log.getLast?).map (·.number)).getD 0

/-! ### Metrology -/

/-- The write is a metrology application. -/
def StoreWrite.isApplication : StoreWrite → Bool
  | .application .. => true
  | _ => false

/-- A metrology application is in progress: its store update is not complete, or a calibration has not
been taken by the distance input yet (R99, check 9). DEDUCED, log entry 48: one applied at a trip close too. -/
def State.applying (s : State) : Bool :=
  s.writes.any (·.isApplication) || s.distance.incoming.isSome

end Sys2Proof.Machine
end

