-- ==== Sys2Proof/Machine/Operands.lean ====
section
/-! DEFINITION. Reading what a command carries: frame bytes and their check, selectors, authority,
index and field ranges, and the validation of a staged metrology object. -/

namespace Sys2Proof.Machine

open Sys2Proof

/-! ### Frame bytes (1.1, 1.3) -/

/-- The code of a frame kind (1.3). -/
def kindCode : FrameKind → Nat
  | .poll => 0x01
  | .empty => 0x02
  | .data => 0x10
  | .consoleReq => 0x20
  | .consoleResp => 0x21
  | .fareView => 0x30
  | .viewAck => 0x31
  | .payOffer => 0x40
  | .offerAck => 0x41
  | .payWithdraw => 0x42
  | .payReq => 0x43
  | .payResp => 0x44
  | .advice => 0x48
  | .adviceAck => 0x49
  | .shiftReport => 0x50
  | .mgmtReq => 0x60
  | .mgmtResp => 0x61
  | .notice => 0x70
  | .audio => 0x78

/-- The frame kind a code names (1.3). -/
def kindOfCode (c : Nat) : Option FrameKind :=
  [FrameKind.poll, .empty, .data, .consoleReq, .consoleResp, .fareView, .viewAck, .payOffer,
   .offerAck, .payWithdraw, .payReq, .payResp, .advice, .adviceAck, .shiftReport, .mgmtReq,
   .mgmtResp, .notice, .audio].find? fun k => kindCode k == c

/-- One bit into the CRC register, generator x^16 + x^12 + x^5 + 1 (R3). -/
def crcBit (crc : BitVec 16) (b : Bool) : BitVec 16 :=
  if crc.msb != b then (crc <<< 1) ^^^ 0x1021#16 else crc <<< 1

/-- One byte into the CRC register, most significant bit first (R3). -/
def crcByte (crc : BitVec 16) (x : Byte) : BitVec 16 :=
  [7, 6, 5, 4, 3, 2, 1, 0].foldl (fun c i => crcBit c (x.getLsbD i)) crc

/-- The CRC of bytes in the order sent, from a register of all ones (R3). -/
def crc (l : List Byte) : BitVec 16 := l.foldl crcByte 0xFFFF#16

/-- The header of a frame (1.3). -/
structure Header where
  dst : NodeAddr
  src : NodeAddr
  kind : FrameKind
  deriving DecidableEq, Repr, Inhabited

/-- The node address an address byte gives; `none` when a zero bit is set (1.3, R3). -/
def addrOfByte (b : Byte) : Option NodeAddr :=
  if b &&& 0x78#8 = 0#8 then some ⟨if b.getLsbD 7 then .rear else .front, (b &&& 7#8).toNat⟩
  else none

/-- The address byte of a node (1.3). -/
def byteOfAddr (a : NodeAddr) : Byte :=
  (match a.seg with | .front => 0x00#8 | .rear => 0x80#8) ||| (BitVec.ofNat 8 a.num &&& 7#8)

/-- The body of a frame with this header and payload (1.3, R5). -/
def frameBody (dst src : NodeAddr) (kind : FrameKind) (payload : List Byte) : List Byte :=
  let head := [byteOfAddr dst, byteOfAddr src, BitVec.ofNat 8 (kindCode kind),
    BitVec.ofNat 8 payload.length] ++ payload
  let c := crc head
  head ++ [c.extractLsb' 8 8, c.extractLsb' 0 8]

/-- The kind of a frame the part originates (1.3). -/
def Content.kind : Content → FrameKind
  | .consoleResp _ => .consoleResp
  | .fareView _ => .fareView
  | .payOffer .. => .payOffer
  | .payWithdraw .. => .payWithdraw
  | .payReq _ => .payReq
  | .payResp .. => .payResp
  | .advice _ => .advice
  | .shiftReport .. => .shiftReport
  | .mgmtResp _ => .mgmtResp
  | .notice .. => .notice
  | .audio .. => .audio

/-- The body the port sends for a queued frame: an own frame's header by R5, from node 0 of the sending
segment, over the payload layout of Config; a passed or echoed frame unchanged. -/
def Frame.body : Frame → List Byte
  | .own seg dst content => frameBody dst ⟨seg, 0⟩ content.kind (Config.contentBytes content)
  | .relay body => body

/-- The result of the two-step check of R3. -/
inductive FrameCheck
  | formatError
  | crcError
  | valid (h : Header) (payload : List Byte)
  deriving DecidableEq, Repr, Inhabited

/-- Step 2 of R3: the header checks, on a frame received by the port of `seg`. -/
def checkHeader (seg : Seg) (dst src kind len : Byte) (payload : List Byte) : FrameCheck :=
  match addrOfByte dst, addrOfByte src, kindOfCode kind.toNat with
  | some d, some a, some k =>
    if 60 < len.toNat ∨ a.seg ≠ seg ∨ a.num = 0 ∨ k = .poll ∨ (k = .empty ∧ len.toNat ≠ 0) then
      .formatError
    else .valid ⟨d, a, k⟩ payload
  | _, _, _ => .formatError

/-- The check of a frame that ended with an end delimiter (R3). -/
def checkFrame (seg : Seg) (body : List Byte) : FrameCheck :=
  match body with
  | dst :: src :: kind :: len :: rest =>
    if body.length < 6 ∨ body.length ≠ 6 + len.toNat then .formatError
    else
      let payload := rest.take len.toNat
      let c := crc ([dst, src, kind, len] ++ payload)
      if rest.drop len.toNat = [c.extractLsb' 8 8, c.extractLsb' 0 8] then
        checkHeader seg dst src kind len payload
      else .crcError
  | _ => .formatError

/-! ### Selectors (R14) -/

/-- A source or destination selector matches an address (R14). -/
def State.selects (s : State) (sel : Selector) (a : NodeAddr) : Bool :=
  match sel with
  | .role r => s.holder r == some a
  | .addr b => b == a
  | .any => true

/-- A kind selector matches a kind (R14). -/
def KindSel.selects : KindSel → FrameKind → Bool
  | .kind k, k' => k == k'
  | .any, _ => true

/-- An entry matches when all three selectors match (R14). -/
def State.entryMatches (s : State) (e : FwdEntry) (h : Header) : Bool :=
  s.selects e.src h.src && s.selects e.dst h.dst && e.kind.selects h.kind

/-! ### Authority and objects (R25) -/

/-- The roles with authority for an operation (R25). -/
def authorised (op : OpName) (e : RoleEntry) : Bool :=
  match op, e with
  | .read, .named .console | .read, .named .modem => true
  | .write, .named .modem | .setTime, .named .modem | .ackTrips, .named .modem
  | .emergencyClear, .named .modem | .clearLamp, .named .modem => true
  | .unknown, _ => false
  | _, .named .service => true
  | _, _ => false

/-- The numbered parts of a metrology object (2.2). -/
def loadTarget : Target → Option Bool
  | .tariffSet _ => some true
  | .calibration _ => some false
  | _ => none

/-- A part index lies inside its object (2.2). -/
def partInRange : Target → Bool
  | .tariffSet p => decide (p ≤ 60)
  | .calibration p => decide (p = 0)
  | _ => false

/-- The index of an object lies in its range for a READ (2.2, R118, R137, R158, R189, R199). -/
def indexInRange : Target → Bool
  | .forwarding i => decide (i ≤ 31)
  | .roles a => decide (a.num ≤ 7)
  | .signTable i => decide (i ≤ 12)
  | .prompts i => decide (i ≤ 15)
  | .promptMap i => decide (i ≤ 7)
  | .intercomSet i => decide (i ≤ 1)
  | .payLimits i => decide (i ≤ 1)
  | .noticeClass i => i != .other
  | .powerSet i => decide (i = 0)
  | .tariffSet p => decide (p ≤ 60)
  | .calibration p => decide (p = 0)
  | .shift i => decide (i = 0)
  | .lastShift i => decide (i = 0)
  | .advice i => decide (i ≤ 31)
  | .portStatus i => decide (i ≤ 2)
  | .nodeTable a => decide (1 ≤ a.num ∧ a.num ≤ 7)
  | .none => false
  | .unknown => false
  | _ => true

/-! ### Field ranges of the direct tables -/

/-- `lo ≤ n ≤ hi`. -/
def within (lo hi n : Nat) : Bool := decide (lo ≤ n ∧ n ≤ hi)

/-- A selector names no address with node 0 (R16). -/
def selectorValid : Selector → Bool
  | .addr a => a.num != 0
  | _ => true

/-- The kind selector a WRITE of FORWARDING may hold: ANY, or a code of the table other than POLL and
EMPTY (R16). -/
def resolveKind : KindCode → Option KindSel
  | .any => some .any
  | .code c =>
    match kindOfCode c with
    | some .poll | some .empty | none => none
    | some k => some (.kind k)

/-- The entry an accepted WRITE of FORWARDING puts in the table, or `none` for BAD_VALUE (R16). -/
def resolveFwd : FwdData → Option (Option FwdEntry)
  | .unused => some none
  | .entry src dst kind action =>
    match resolveKind kind with
    | some k => if selectorValid src && selectorValid dst then some (some ⟨src, dst, k, action⟩) else none
    | none => none

/-- A channel entry's fields lie in their ranges (R118). -/
def channelValid (c : ChannelEntry) : Bool :=
  within 0 3999 c.minMa && within (c.minMa + 1) 4000 c.maxMa

/-- A pattern value other than OFF and absent. -/
def litValue : Option LampValue → Bool
  | some .on | some .flashA | some .flashB => true
  | _ => false

/-- The place of a pattern in the table (R118: indices 7–11 in this order). -/
def patternPlace : PatternName → Nat
  | .off => 0
  | .vacant => 1
  | .hired => 2
  | .pay => 3
  | .emergency => 4

/-- The brightness part's fields lie in their ranges (R127). -/
def brightnessValid (b : Brightness) : Bool :=
  within 0 4094 b.tLow && within (b.tLow + 1) 4095 b.tHigh && within 0 255 b.day
    && within 0 255 b.dusk && within 0 255 b.night

/-- A prompt entry's fields lie in their ranges, with 1–6 segments (R145). -/
def promptValid (e : PromptEntry) : Bool :=
  within 0 32767 e.level && within 1 6 e.tones.length
    && e.tones.all fun t => (t.freq == 0 || within 200 3400 t.freq) && within 10 2000 t.ms

/-- The intercom settings lie in their ranges (R137). -/
def intercomValid (i : IntercomSettings) : Bool :=
  within 0 1024 i.gainD2P && within 0 1024 i.gainP2D && within 0 256 i.closedLevel
    && within 0 256 i.duck && within 4 64 i.margin && within 0 1073741824 i.eMin
    && within 1 255 i.hangover && within 0 32767 i.testLevel && within 0 1073741824 i.testThreshold

/-- The pay limits lie in their ranges (R158). -/
def payLimitsValid (l : PayLimits) : Bool :=
  within 0 50 l.tipPercent && l.floors.length == 4 && l.floors.all (within 0 fareMax)
    && within 0 fareMax l.offlineCap && within 5 120 l.authTime

/-- The power settings lie in their ranges, RESTORE at least LOW + 20 (R199). -/
def powerValid (p : PowerSettings) : Bool :=
  within 700 1400 p.low && within (p.low + 20) 1600 p.restore && within 5 600 p.parkDelay
    && within 0 960 p.shiftLimit

/-- The place of a notice kind in the class table, in the order of R40's factory content. -/
def noticePlace : NoticeKind → Nat
  | .restarted => 0
  | .timeInvalid => 1
  | .nodeLost => 2
  | .nodeFound => 3
  | .portDegraded => 4
  | .portRecovered => 5
  | .emergencyOn => 6
  | .emergencyOff => 7
  | .shiftLimit => 8
  | .logNearFull => 9
  | .logFull => 10
  | .adviceFull => 11
  | .tariffApplied => 12
  | .calibrationApplied => 13
  | .metrologyOpen => 14
  | .lampOpen => 15
  | .lampShort => 16
  | .micStuck => 17
  | .overrate => 18
  | .supplyLow => 19
  | .wake => 20

/-- A class table entry a kind may hold: EMERGENCY_ON and EMERGENCY_OFF not routed to CONSOLE (R40). -/
def classAllowed (k : NoticeKind) (c : ClassRoute) : Bool :=
  !((k == .emergencyOn || k == .emergencyOff) && c.route != .modem)

/-! ### Validation of a staged object (R32) -/

/-- Days of a month by the Gregorian rule (R47). -/
def leapYear (y : Nat) : Bool := y % 4 == 0 && (y % 100 != 0 || y % 400 == 0)

/-- Days of month `m` (1–12), with `leap` for February. -/
def monthDays (leap : Bool) (m : Nat) : Nat :=
  match m with
  | 2 => if leap then 29 else 28
  | 4 | 6 | 9 | 11 => 30
  | _ => 31

/-- The general part lies in its ranges (R70). -/
def generalValid (g : General) : Bool :=
  within 0 60 g.correction && within 0 120 g.resumeLimit && within 0 65535 g.version

/-- A tariff part lies in its ranges (R69). -/
def tariffValid (t : Tariff) : Bool :=
  within 0 999999 t.flagFall && within 0 255 t.included && within 10 65535 t.stepDm
    && within 10 65535 t.stepDs && within 1 9999 t.increment && t.basis.isSome

/-- A non-empty set of tariffs 1–8. -/
def tariffMask (l : List Nat) : Bool := !l.isEmpty && l.all (within 1 8)

/-- Tariff `t` (1–8) of a tariff set. -/
def TariffSet.tariff (ts : TariffSet) (t : Nat) : Option Tariff :=
  if t = 0 then none else (ts.tariffs[t - 1]?).join

/-- Band `b` (1–12) of a tariff set. -/
def TariffSet.band (ts : TariffSet) (b : Nat) : Option Band :=
  if b = 0 then none else (ts.bands[b - 1]?).join

/-- Extras code `c` (1–16) of a tariff set. -/
def TariffSet.extra (ts : TariffSet) (c : Nat) : Option Extra :=
  if c = 0 then none else (ts.extras[c - 1]?).join

/-- A band part lies in its ranges, its default defined and allowed (R50, R32). -/
def bandValid (ts : TariffSet) (b : Band) : Bool :=
  !b.days.isEmpty && within 0 1439 b.startMin && within 0 1439 b.stopMin && within 1 8 b.default
    && tariffMask b.allowed && b.allowed.contains b.default && (ts.tariff b.default).isSome

/-- A holiday part lies in its ranges (R50); EVERY allows 29 February. -/
def holidayValid (h : Holiday) : Bool :=
  within 1 12 h.month &&
    match h.year with
    | none => within 1 (monthDays true h.month) h.day
    | some y => within 2000 2136 y && within 1 (monthDays (leapYear y) h.month) h.day

/-- An extras part lies in its ranges (R71). -/
def extraValid (e : Extra) : Bool :=
  within 1 99999 e.amount && within 1 99 e.maxCount && tariffMask e.permitted

/-- Which parts of a TARIFF_SET fail the checks of R32, part by part from 0. That at least one band be
defined is held against part 9, the first band (DESIGN CHOICE, log entry 10). -/
def TariffSet.failures (ts : TariffSet) : List Bool :=
  [!generalValid ts.general]
    ++ ts.tariffs.map (fun t => t.any fun t => !tariffValid t)
    ++ ts.bands.mapIdx (fun i b =>
        (b.any fun b => !bandValid ts b) || (i == 0 && ts.bands.all (·.isNone)))
    ++ ts.holidays.map (fun h => h.any fun h => !holidayValid h)
    ++ ts.extras.map (fun e => e.any fun e => !extraValid e)

/-- A CALIBRATION lies in the ranges of R32. -/
def calibrationValid (c : Calibration) : Bool :=
  within 500 65000 c.k && within 1 255 c.pMax && within 50 10000 c.sMin && within 0 65535 c.trim.n

/-- The index of the first part of a staged object that fails validation (R32). -/
def Staged.firstFailure : Staged → Option Nat
  | .tariffSet ts => ts.failures.findIdx? id
  | .calibration c => if calibrationValid c then none else some 0

/-- A staged object with one part replaced, or `none` when the data does not have that part's layout
(R30). UNDEFINED is taken for every part of TARIFF_SET but the general part. -/
def Staged.setPart (st : Staged) (p : Nat) (d : PartData) : Option Staged :=
  match st with
  | .calibration _ =>
    match d with
    | .calibration c => if p = 0 then some (.calibration c) else none
    | _ => none
  | .tariffSet ts =>
    if p = 0 then
      match d with
      | .general g => some (.tariffSet { ts with general := g })
      | _ => none
    else if p ≤ 8 then
      match d with
      | .tariff t => some (.tariffSet { ts with tariffs := ts.tariffs.set (p - 1) (some t) })
      | .undefined => some (.tariffSet { ts with tariffs := ts.tariffs.set (p - 1) none })
      | _ => none
    else if p ≤ 20 then
      match d with
      | .band b => some (.tariffSet { ts with bands := ts.bands.set (p - 9) (some b) })
      | .undefined => some (.tariffSet { ts with bands := ts.bands.set (p - 9) none })
      | _ => none
    else if p ≤ 44 then
      match d with
      | .holiday h => some (.tariffSet { ts with holidays := ts.holidays.set (p - 21) (some h) })
      | .undefined => some (.tariffSet { ts with holidays := ts.holidays.set (p - 21) none })
      | _ => none
    else if p ≤ 60 then
      match d with
      | .extra e => some (.tariffSet { ts with extras := ts.extras.set (p - 45) (some e) })
      | .undefined => some (.tariffSet { ts with extras := ts.extras.set (p - 45) none })
      | _ => none
    else none

/-- The staged object is a TARIFF_SET. -/
def Staged.isTariff : Staged → Bool
  | .tariffSet _ => true
  | .calibration _ => false

end Sys2Proof.Machine
end

