-- ==== Sys2Proof/Machine/Ops.lean ====
section
/-! DEFINITION. The shared operations every block uses: offering frames, answering requests, store
writes and what each replaces, notices and their drain, fare views, checkpoints and saves. -/

namespace Sys2Proof.Machine

open Sys2Proof

/-! ### Offering frames (R10) -/

/-- A frame offered to a segment's transmit queue; the flag says whether it was accepted (R10). -/
def State.offerFrame (s : State) (seg : Seg) (f : Frame) : State × Bool :=
  if s.accepts seg then (s.modPort seg fun p => { p with queue := p.queue ++ [f] }, true)
  else (s, false)

/-- A frame of the part's own, offered on the segment of its destination (R5, R10). -/
def State.offer (s : State) (dst : NodeAddr) (c : Content) : State × Bool :=
  s.offerFrame dst.seg (.own dst.seg dst c)

/-- A frame offered once: refused, it is discarded and nothing else happens. -/
def State.send (s : State) (dst : NodeAddr) (c : Content) : State := (s.offer dst c).1

/-- A frame offered to the node of a role; refused while no node holds the role (R10). -/
def State.offerRole (s : State) (r : Role) (c : Content) : State × Bool :=
  match s.holder r with
  | some a => s.offer a c
  | none => (s, false)

/-- The answer to a management request, to the requester's node (R24). DEDUCED, log entry 23: answers follow
the effects. -/
def State.mgmtRespond (s : State) (rq : Req) (op : OpName) (t : Target) (r : MgmtResult)
    (d : RespData := .none) : State :=
  s.send rq.src (.mgmtResp ⟨rq.tag, rq.echo, op, t, r, d⟩)

/-- The answer to a console request, to the CONSOLE node (R94). DEDUCED, log entry 18: the answer goes to
the node that holds the role. -/
def State.consoleRespond (s : State) (rq : Req) (name : ConsoleName) (r : ConsoleResult)
    (d : ConsoleData := .none) : State :=
  (s.offerRole .console (.consoleResp ⟨rq.tag, name, r, d⟩)).1

/-! ### Notices (2.5) -/

/-- The kind of a notice. -/
def Notice.kind : Notice → NoticeKind
  | .restarted .. => .restarted
  | .timeInvalid => .timeInvalid
  | .nodeLost _ => .nodeLost
  | .nodeFound _ => .nodeFound
  | .portDegraded _ => .portDegraded
  | .portRecovered _ => .portRecovered
  | .emergencyOn .. => .emergencyOn
  | .emergencyOff .. => .emergencyOff
  | .shiftLimit .. => .shiftLimit
  | .logNearFull .. => .logNearFull
  | .logFull _ => .logFull
  | .adviceFull .. => .adviceFull
  | .tariffApplied .. => .tariffApplied
  | .calibrationApplied _ => .calibrationApplied
  | .metrologyOpen => .metrologyOpen
  | .lampOpen .. => .lampOpen
  | .lampShort .. => .lampShort
  | .micStuck _ => .micStuck
  | .overrate .. => .overrate
  | .supplyLow .. => .supplyLow
  | .wake _ => .wake

/-- The marks a fresh entry's route gives CONSOLE and MODEM (R38). -/
def routeMarks : Route → RouteMark × RouteMark
  | .console => (.pending, .unrouted)
  | .modem => (.unrouted, .pending)
  | .both => (.pending, .pending)

/-- The class and route in force for a kind (R38, R40). -/
def State.classRoute (s : State) (k : NoticeKind) : ClassRoute :=
  s.tables.noticeClass.getD (noticePlace k) ⟨.routine, .both⟩

/-- The entry an offer forms, with the next sequence number and the class and route of the moment
(R38). -/
def State.noticeEntry (s : State) (n : Notice) : NoticeEntry :=
  let c := s.classRoute n.kind
  let m := routeMarks c.route
  ⟨s.notices.nextSeq, n, c.cls, m.1, m.2, s.now⟩

/-- An offered entry at the queue: the queue after it, and whether the entry joined (R38). -/
def NoticeQueue.enqueue (q : NoticeQueue) (e : NoticeEntry) : NoticeQueue × Bool :=
  let next := wrap16 q.nextSeq
  if q.entries.length < 16 then
    ({ q with entries := q.entries ++ [e], nextSeq := next }, true)
  else
    match e.cls, q.entries.findIdx? (fun x => x.cls == .routine) with
    | .urgent, some i =>
      (⟨q.entries.eraseIdx i ++ [e], satInc max16 q.drops, next⟩, true)
    | _, _ => ({ q with drops := satInc max16 q.drops, nextSeq := next }, false)

/-- What a drain attempt makes of one route of the head: the state, the route's mark after it, and
whether the front transmit queue refused the frame (R39). -/
def State.drainRoute (s : State) (r : Role) (e : NoticeEntry) (m : RouteMark) :
    State × RouteMark × Bool :=
  match m, s.rolePresence r with
  | .pending, .present =>
    match s.offerRole r (.notice e.seq e.notice e.cls e.time) with
    | (s', true) => (s', .sent, false)
    | (s', false) => (s', .pending, true)
  | .pending, .probing => (s, .pending, false)
  | .pending, _ => (s, .skipped, false)
  | _, _ => (s, m, false)

/-- The place of the queue's head: its oldest URGENT entry, or else its oldest entry (R39). -/
def NoticeQueue.headIdx (q : NoticeQueue) : Nat :=
  (q.entries.findIdx? fun e => e.cls == .urgent).getD 0

/-- The head's routes taken in turn, CONSOLE before MODEM; the flag says whether the queue refused
(R39). -/
def State.drainHead (s : State) (e : NoticeEntry) : State × NoticeEntry × Bool :=
  match s.drainRoute .console e e.console with
  | (s, m, true) => (s, { e with console := m }, true)
  | (s, m, false) =>
    match s.drainRoute .modem e e.modem with
    | (s, m', refused) => (s, { e with console := m, modem := m' }, refused)

/-- A drain attempt over at most `n` heads (R39). -/
def State.drainLoop (s : State) : Nat → State
  | 0 => s
  | n + 1 =>
    let i := s.notices.headIdx
    match s.notices.entries[i]? with
    | none => s
    | some e =>
      match s.drainHead e with
      | (s, e', refused) =>
        if refused || e'.console == .pending || e'.modem == .pending then
          { s with notices := { s.notices with entries := s.notices.entries.set i e' } }
        else
          State.drainLoop { s with notices := { s.notices with entries := s.notices.entries.eraseIdx i } } n

/-- A drain attempt; none is taken while the front port is stopped (R39). -/
def State.drain (s : State) : State :=
  if s.link.front.running then s.drainLoop s.notices.entries.length else s

/-- A notice offered to the queue, with the drain attempt an offer that joins is (R38, R39). -/
def State.offerNotice (s : State) (n : Notice) : State :=
  match s.notices.enqueue (s.noticeEntry n) with
  | (q, true) => State.drain { s with notices := q }
  | (q, false) => { s with notices := q }

/-! ### Fare views (6.9) -/

/-- The trip flags of the open trip, clear without one. -/
def State.tripFlags (s : State) : TripFlags := (s.meter.trip.map (·.flags)).getD .clear

/-- The fields of a view as they stand (R114). -/
def State.buildView (s : State) (v : ViewState) : FareView where
  seq := v.seq
  state := s.meter.state
  closing := s.meter.closing
  trip := (s.meter.trip.map (·.number)).getD s.meter.lastClosed
  active := s.engine.active
  band := s.time.band
  fare :=
    match s.meter.state with
    | .hired => s.fare
    | .pay => s.meter.snapshot.getD 0
    | _ => 0
  extrasTotal := (s.meter.trip.map (·.extrasTotal)).getD 0
  remainingDue := s.remainingDue
  offer := s.pay.session.offer
  hiredM := (s.meter.trip.map (·.hiredM)).getD 0
  hiredDs := (s.meter.trip.map (·.hiredDs)).getD 0
  saturated := s.tripFlags.saturated
  segmentLimit := s.tripFlags.segmentLimit
  resumed := s.tripFlags.resumed

/-- A destination's role. -/
def viewRole : ViewDest → Role
  | .console => .console
  | .paxDisplay => .paxDisplay

/-- A destination's view state. -/
def State.viewState (s : State) : ViewDest → ViewState
  | .console => s.meter.console
  | .paxDisplay => s.meter.pax

/-- `s` with a destination's view state changed. -/
def State.modView (s : State) (d : ViewDest) (f : ViewState → ViewState) : State :=
  match d with
  | .console => { s with meter := { s.meter with console := f s.meter.console } }
  | .paxDisplay => { s with meter := { s.meter with pax := f s.meter.pax } }

/-- A try at a destination's view (R113). -/
def State.tryView (s : State) (d : ViewDest) : State :=
  let v := s.viewState d
  if v.mark && !v.holdoff && s.available (viewRole d) then
    match s.offerRole (viewRole d) (.fareView (s.buildView v)) with
    | (s', true) => s'.modView d fun v => ⟨false, true, wrap16 v.seq⟩
    | (s', false) => s'
  else s

/-- Both view-pending marks set (R112, R117). -/
def State.setMarks (s : State) : State :=
  (s.modView .console fun v => { v with mark := true }).modView .paxDisplay
    fun v => { v with mark := true }

/-- Both view-pending marks set, and both views tried (R112, R113). -/
def State.markViews (s : State) : State :=
  (s.setMarks.tryView .console).tryView .paxDisplay

/-! ### Working values with pending close contributions (R186) -/

/-- A shift record with one trip's contributions added (R186, R182). -/
def ShiftRecord.add (r : ShiftRecord) (c : Contribution) : ShiftRecord :=
  { r with
    trips := satAdd max32 r.trips 1
    unpaidTrips := satAdd max32 r.unpaidTrips c.unpaidTrips
    hiredM := satAdd max32 r.hiredM c.hiredM
    hiredDs := satAdd max32 r.hiredDs c.hiredDs
    fares := satAdd max48 r.fares c.fare
    extras := satAdd max48 r.extras c.extras
    card := satAdd max48 r.card c.card
    offline := satAdd max48 r.offline c.offline
    cash := satAdd max48 r.cash c.cash
    unpaid := satAdd max48 r.unpaid c.unpaid
    tips := satAdd max48 r.tips c.tips }

/-- A totalizer set with one trip's contributions added (R186, R194). -/
def Totals.add (t : Totals) (c : Contribution) : Totals :=
  { t with trips := satAdd max32 t.trips 1, fares := satAdd max48 t.fares c.fare }

/-- The shift with any pending contributions added (R186). -/
def Accounting.shiftNow (a : Accounting) : ShiftHold :=
  match a.entry with
  | some c => { a.shift with record := a.shift.record.map (·.add c) }
  | none => a.shift

/-- The totalizers with any pending contributions added (R186). -/
def Accounting.totalsNow (a : Accounting) : Totals :=
  match a.entry with
  | some c => a.totals.add c
  | none => a.totals

/-- What a write of the shift record begun now carries; a closed shift whose own update was lost goes
with it (R195, R197). -/
def Accounting.carry (a : Accounting) : ShiftCarry :=
  ⟨a.shiftNow, a.lastNumber, if a.unwritten then a.last else none, a.unwritten⟩

/-! ### Store writes (R36) -/

/-- A store write begun. -/
def State.begin (s : State) (w : StoreWrite) : State := { s with writes := s.writes ++ [w] }

/-- A store write that carries the shift record begun; a lost close goes with it (R197). -/
def State.beginCarrying (s : State) (w : StoreWrite) : State :=
  { s.begin w with acct := { s.acct with unwritten := false } }

/-- The open trip as a save or a checkpoint takes it; none once a close has begun its step 2 (R110,
R202). -/
def State.savedTrip (s : State) : Option SavedTrip :=
  if s.meter.stage = .none then
    s.meter.trip.map fun t =>
      ⟨{ t with tenders := s.pay.tenders }, s.engine.pa, s.engine.fs, s.engine.active⟩
  else none

/-- The shared fields of a save and a checkpoint as they stand (R202). -/
def State.saveRecord (s : State) : SaveRecord where
  time := s.now
  timeInvalid := s.time.backup.timeInvalid
  meter := s.meter.state
  trip := s.savedTrip
  emergency := s.sign.emergency
  shiftOpen := s.acct.shift.record.isSome
  limitSet := s.acct.shift.limitSet

/-- The checkpoint timer restarted where a checkpoint restarts it: while HIRED in RUN (R207). -/
def State.restartCheckpointTimer (s : State) : State :=
  if s.meter.state = .hired ∧ s.power.state = .run then
    { s with power := { s.power with checkpoint := .running 60 } }
  else s

/-- A checkpoint begun; its completion releases the held request of the reference, if one is named
(R207, R165). -/
def State.beginCheckpoint (s : State) (releases : Option Ref := none) : State :=
  (s.beginCarrying
    (.checkpoint s.saveRecord s.meter.lastAssigned s.acct.carry s.acct.totalsNow releases)).restartCheckpointTimer

/-- A holdup save begun with its mark (R202, R208). -/
def State.beginSave (s : State) (mark : SaveMark) : State :=
  s.beginCarrying (.save mark s.saveRecord s.acct.carry s.acct.totalsNow)

/-- A direct table with one entry replaced (R27). -/
def Tables.setEntry (t : Tables) : TableEntry → Tables
  | .forwarding i e => { t with forwarding := t.forwarding.set i e }
  | .role a e =>
    match a.seg with
    | .front => { t with roles := { t.roles with front := t.roles.front.set (a.num - 1) e } }
    | .rear => { t with roles := { t.roles with rear := t.roles.rear.set (a.num - 1) e } }
  | .channel i e => { t with channels := t.channels.set i e }
  | .pattern i p => { t with patterns := t.patterns.set i p }
  | .brightness b => { t with brightness := b }
  | .prompt i e => { t with prompts := t.prompts.set i e }
  | .promptMap i e => { t with promptMap := t.promptMap.set i e }
  | .intercom i => { t with intercom := i }
  | .payLimits l => { t with payLimits := l }
  | .noticeClass i c => { t with noticeClass := t.noticeClass.set i c }
  | .power p => { t with power := p }

/-- Metrology with one object put in force (R34). -/
def Metrology.put (m : Metrology) (st : Staged) (app : AppRecord) : Metrology :=
  match st with
  | .tariffSet t => { m with tariffSet := t, tariffApp := some app }
  | .calibration c => { m with calibration := c, calibrationApp := some app }

/-- The slot with one copy waiting (R33). -/
def PendingSlot.put (p : PendingSlot) : Staged → PendingSlot
  | .tariffSet t => { p with tariffSet := some t }
  | .calibration c => { p with calibration := some c }

/-- The slot with one object's copy removed (R31, R34); `true` is TARIFF_SET. -/
def PendingSlot.remove (p : PendingSlot) (tariff : Bool) : PendingSlot :=
  if tariff then { p with tariffSet := none } else { p with calibration := none }

/-- The slot after an application: the applied copy is removed if it came from there (R34). -/
def PendingSlot.applied (p : PendingSlot) (st : Staged) (o : AppOrigin) : PendingSlot :=
  match o with
  | .close => p.remove st.isTariff
  | .commit .. => p

/-- The log with a closed trip's record placed (R190). A full log loses its oldest record. -/
def placeRecord (log : List TripRecord) (r : TripRecord) : List TripRecord :=
  if log.length < 64 then log ++ [r] else log.drop 1 ++ [r]

/-- An advice queue with a record set: in the place of a record of its reference, or at the tail of a
queue that holds fewer than 32 (R172). -/
def setAdvice (l : List AdviceRecord) (r : AdviceRecord) : List AdviceRecord :=
  if l.any (·.ref == r.ref) then l.map fun x => if x.ref == r.ref then r else x
  else if l.length < 32 then l ++ [r]
  else l

/-- The store with what every write of the shift record carries (R195). -/
def Store.carried (st : Store) (c : ShiftCarry) : Store :=
  { st with shift := c.shift, lastNumber := c.lastNumber, last := c.last.orElse fun _ => st.last }

/-- The store with the totalizer set written (R195, R196). -/
def Store.withTotals (st : Store) (t : Totals) (time : Nat) : Store :=
  { st with totals := t, totalsTime := time }

/-- The store after a write completes (R36). -/
def Store.apply (st : Store) : StoreWrite → Store
  | .table e _ _ => { st with tables := st.tables.setEntry e }
  | .pendingCopy c _ _ => { st with slot := st.slot.put c }
  | .application c app totals time o =>
    { st.withTotals totals time with
      metrology := st.metrology.put c app, slot := st.slot.applied c o }
  | .closeUpdate r carry totals time lastAssigned =>
    { (st.carried carry).withTotals totals time with log := placeRecord st.log r, lastAssigned }
  | .shiftOpen carry _ _ => st.carried carry
  | .shiftClose carry totals time _ _ => (st.carried carry).withTotals totals time
  | .ackTrips n _ _ => { st with reportedThrough := n }
  | .save mark r carry totals =>
    { (st.carried carry).withTotals totals r.time with save := r, mark, checkpointLater := false }
  | .checkpoint r lastAssigned carry totals _ =>
    { (st.carried carry).withTotals totals r.time with
      checkpoint := r, lastAssigned, checkpointLater := true }
  | .adviceSet r => { st with advice := setAdvice st.advice { r with inFlight := false } }
  | .adviceRemove ref => { st with advice := st.advice.filter (·.ref != ref) }
  | .markConsumed => { st with mark := .consumed }
  | .cause c => { st with cause := some c }
  | .lastShift l => { st with last := some l }
  | .totals carry totals time => (st.carried carry).withTotals totals time
  | .slotRemove tariff => { st with slot := st.slot.remove tariff }

/-! ### Shift reports (R188) -/

/-- Part 1 of a shift record (R188). -/
def ShiftRecord.part1 (r : ShiftRecord) : ShiftPart1 :=
  ⟨r.number, r.driver, r.limit, r.opened, r.closed, r.elapsed, r.hiredDs / 10, r.trips,
    r.unpaidTrips, r.hiredM, r.unhiredM⟩

/-- Part 2 of a shift record (R188). -/
def ShiftRecord.part2 (r : ShiftRecord) : ShiftPart2 :=
  ⟨r.number, r.fares, r.extras, r.card, r.offline, r.cash, r.tips, r.unpaid, r.lateDispute,
    r.pendingAdvice, r.interruptions, r.emergencies⟩

/-- The report to one role: both parts offered in turn, and the mark they give (R188). -/
def State.reportTo (s : State) (r : Role) (rec : ShiftRecord) (m : ReportMark) :
    State × ReportMark :=
  if s.available r then
    match s.offerRole r (.shiftReport rec.number 1 (.part1 rec.part1)) with
    | (s, ok1) =>
      match s.offerRole r (.shiftReport rec.number 2 (.part2 rec.part2)) with
      | (s, ok2) => (s, if ok1 && ok2 then .offered else .partially)
  else (s, m)

/-- The working copy of a closed shift record: the last shift record while it is still of that shift.
DEDUCED, log entry 40: a later close before the report. -/
def State.closedCopy (s : State) (l : LastShift) : LastShift :=
  (s.acct.last.filter fun x => x.record.number == l.record.number).getD l

/-- The report marks of a shift, while its record is the last one (R188). -/
def Accounting.markReport (a : Accounting) (number : Nat) (c m : ReportMark) : Accounting :=
  { a with
    last := a.last.map fun l =>
      if l.record.number = number then { l with console := c, modem := m } else l }

/-- The SHIFT_REPORT of a closed shift record, to CONSOLE and then MODEM (R188). -/
def State.reportShift (s : State) (l : LastShift) : State :=
  let l := s.closedCopy l
  match s.reportTo .console l.record l.console with
  | (s, c) =>
    match s.reportTo .modem l.record l.modem with
    | (s, m) => { s with acct := s.acct.markReport l.record.number c m }

/-! ### Completing writes (R36) -/

/-- What a write of the shift record carries, for the writes that carry one. -/
def StoreWrite.carry? : StoreWrite → Option ShiftCarry
  | .closeUpdate _ c _ _ _ | .shiftOpen c _ _ | .shiftClose c _ _ _ _ | .save _ _ c _
  | .checkpoint _ _ c _ _ | .totals c _ _ => some c
  | _ => none

/-- The closed shift record whose report a write's completion decides, if any (R197). -/
def StoreWrite.report? (w : StoreWrite) : Option LastShift :=
  w.carry?.bind fun c => if c.report then c.last else none

/-- A write completed: the store takes it, and a report that waited for it is decided (R36, R197). -/
def State.completeWrite (s : State) (w : StoreWrite) : State :=
  let s := { s with store := s.store.apply w }
  match w.report? with
  | some l => s.reportShift l
  | none => s

/-- The writes that no row of the command table completes; they complete in their turn (R36). A save of
kind REQUEST is one of them once its RESTART has been abandoned (R208). -/
def State.silent (s : State) : StoreWrite → Bool
  | .adviceSet _ | .adviceRemove _ | .markConsumed | .cause _ | .lastShift _ | .totals ..
  | .slotRemove _ => true
  | .save .freshRequest .. => s.power.state != .restarting
  | _ => false

/-- The oldest write that a row completes, when it is of the row's kind, with the state in which it and the
silent writes before it have completed. DEDUCED, log entry 24: a row completes the head of its kind. -/
def State.takeWrite (s : State) (kind : StoreWrite → Bool) : Option (StoreWrite × State) :=
  let before := s.writes.takeWhile s.silent
  match s.writes.dropWhile s.silent with
  | [] => none
  | w :: rest =>
    if kind w then
      some (w, (before ++ [w]).foldl State.completeWrite { s with writes := rest })
    else none

/-- Every write begun completes in order (start-up of a REQUEST, or of a metrology copy at start-up). -/
def State.flushWrites (s : State) : State :=
  { s with store := s.writes.foldl Store.apply s.store, writes := [] }

/-- The writes interrupted: some of the oldest silent writes may have completed (log entry 4), every
other is lost. The flag says whether a lost write carried a closed shift (R36, R197). -/
def State.cutWrites (s : State) : State × Bool :=
  let k := Config.silentWritesDone s.free % ((s.writes.takeWhile s.silent).length + 1)
  ({ s with
      store := (s.writes.take k).foldl Store.apply s.store, writes := [], free := s.free + 1 },
    (s.writes.drop k).any fun w => (w.carry?.bind (·.last)).isSome)

end Sys2Proof.Machine
end

