-- ==== Sys2Proof/Machine/Requests.lean ====
section
/-! DEFINITION. How requests and acknowledgements reach the block that decides them: reception, the
sender checks of R12 and R13, and the authority and object checks of R25. -/

namespace Sys2Proof.Machine

open Sys2Proof

/-- An effect that only a powered part has. DEDUCED, log entry 8: which rows act without supply. -/
def State.whenPowered (s : State) (k : State → State) : State := if s.powered then k s else s

/-- The port of a segment takes frames for the part: it runs, in NORMAL mode (R19, R21). -/
def State.receives (s : State) (seg : Seg) : Bool :=
  s.powered && (s.port seg).running && (s.port seg).mode == .normal

/-- One more local reject (R13). -/
def State.localReject (s : State) : State :=
  { s with link := { s.link with localRejects := satInc max16 s.link.localRejects } }

/-- The sender check of a MGMT_REQ (R12, R13): from the rear segment it is dropped, from a node that is
not configured it is a local reject. -/
def State.checkMgmtSender (s : State) (src : NodeAddr) (k : State → State) : State :=
  if src.seg = .rear then s else if s.configured src then k s else s.localReject

/-- The sender check of a CONSOLE_REQ (R12, R13). -/
def State.checkConsoleSender (s : State) (src : NodeAddr) (k : State → State) : State :=
  if src.seg = .rear then s else if s.holder .console = some src then k s else s.localReject

/-- The sender check of the other LOCAL kinds: the node of one role (R13). -/
def State.checkSender (s : State) (r : Role) (src : NodeAddr) (k : State → State) : State :=
  if s.holder r = some src then k s else s.localReject

/-- A management request on the line. DEDUCED, log entry 18: the common opening of a request. -/
def State.whenMgmt (s : State) (rq : Req) (k : State → State) : State :=
  if s.receives rq.src.seg then s.checkMgmtSender rq.src k else s

/-- A console request on the line. DEDUCED, log entry 18: the common opening of a request. -/
def State.whenConsole (s : State) (rq : Req) (k : State → State) : State :=
  if s.receives rq.src.seg then s.checkConsoleSender rq.src k else s

/-- A frame for one role's block on the line. -/
def State.whenFrom (s : State) (r : Role) (src : NodeAddr) (k : State → State) : State :=
  if s.receives src.seg then s.checkSender r src k else s

/-- Checks 2 and 3 of R25, then the owner's rule. -/
def State.whenAllowed (s : State) (rq : Req) (op : OpName) (t : Target) (object : Bool)
    (k : State → State) : State :=
  if !authorised op (s.roleEntry rq.src) then s.mgmtRespond rq op t .notAuthorised
  else if !object then s.mgmtRespond rq op t .badObject
  else k s

/-- The power check of the requests that need RUN (R95, R180, R181). -/
def State.whenRun (s : State) (rq : Req) (name : ConsoleName) (k : State → State) : State :=
  if s.power.state = .run then k s else s.consoleRespond rq name .power

/-- The closing mark's refusal of the payment requests (R94). -/
def State.whenNotClosing (s : State) (rq : Req) (name : ConsoleName) (k : State → State) : State :=
  if s.meter.closing then s.consoleRespond rq name .busy else k s

end Sys2Proof.Machine
end

