-- ==== Sys2Proof/Machine/Intercom.lean ====
section
/-! DEFINITION. The partition intercom (chapter 8): path targets and samples, prompts, voice detectors,
the arbiter, the emergency monitor and the speaker test. -/

namespace Sys2Proof.Machine

open Sys2Proof

/-! ### Arithmetic (R138, R146, R149) -/

/-- A value saturated to the range `lo` to `hi`. -/
def sat (lo hi x : Int) : Int := max lo (min hi x)

/-- Saturation to −32,768 to 32,767. -/
def sat16 (x : Int) : Int := sat (-32768) 32767 x

/-- A path's output before the prompt is added: step 3 of R138. Division by a positive divisor is the
floor of the quotient. -/
def pathOutput (s : Int) (gain a : Nat) : Int := sat16 ((s * gain * a + 32768) / 65536)

/-- One ramp step of an attenuation toward its target level (R139). -/
def ramp (a target : Nat) : Nat :=
  if a < target then min (a + 8) target else if target < a then max (a - 8) target else a

/-- The first quarter of the sine table, entries 0–64: round(32,767 × sin(2π × i / 256)) (R146). -/
def quarterSine : List Nat :=
  [0, 804, 1608, 2410, 3212, 4011, 4808, 5602, 6393, 7179, 7962, 8739, 9512]
    ++ [10278, 11039, 11793, 12539, 13279, 14010, 14732, 15446, 16151, 16846, 17530, 18204, 18868]
    ++ [19519, 20159, 20787, 21403, 22005, 22594, 23170, 23731, 24279, 24811, 25329, 25832, 26319]
    ++ [26790, 27245, 27683, 28105, 28510, 28898, 29268, 29621, 29956, 30273, 30571, 30852, 31113]
    ++ [31356, 31580, 31785, 31971, 32137, 32285, 32412, 32521, 32609, 32678, 32728, 32757, 32767]

/-- Entry `i` of the sine table (R146). -/
def sine (i : Nat) : Int :=
  if i ≤ 64 then (quarterSine.getD i 0 : Nat)
  else if i ≤ 128 then (quarterSine.getD (128 - i) 0 : Nat)
  else if i ≤ 192 then -((quarterSine.getD (i - 128) 0 : Nat) : Int)
  else -((quarterSine.getD (256 - i) 0 : Nat) : Int)

/-- The phase step of a frequency: round(f × 65,536 / 8,000) (R146). -/
def phaseStep (f : Nat) : Nat := (f * 65536 + 4000) / 8000

/-- One sample of a tone at a level, from the phase accumulator; 0 in silence (R146). -/
def toneSample (level f phase : Nat) : Int :=
  if f = 0 then 0 else (level : Int) * sine (phase / 256 % 256) / 32767

/-- The phase accumulator after a sample; it holds in silence (R146). -/
def nextPhase (f phase : Nat) : Nat := if f = 0 then phase else (phase + phaseStep f) % 65536

/-- A monitor sample (R149). -/
def monitorSample (d p : Int) : Int := sat (-128) 127 ((sat16 (d + p) + 128) / 256)

/-! ### Path targets (R139) -/

/-- A prompt destination plays on a side's speaker. -/
def destPlays : PromptDest → Side → Bool
  | .both, _ | .pax, .pax | .drv, .drv => true
  | _, _ => false

/-- A prompt has made its last sample (R148). -/
def Playing.ended (p : Playing) : Bool := p.left == 0

/-- The length of the test tone in samples (R152). -/
def testLength : Nat := 4000

/-- The test's tone has had its last sample made (R152). -/
def SpeakerTest.toneMade (t : SpeakerTest) : Bool := t.started && decide (testLength ≤ t.played)

/-- A prompt or the test tone plays on a side's speaker (R139, R152). -/
def Intercom.plays (i : Intercom) (side : Side) : Bool :=
  (i.playing.map fun p => !p.ended && destPlays p.entry.dest side).getD false
    || (i.test.map fun t => t.started && !t.toneMade && t.side == side).getD false

/-- The target kind and base level of a path (R139). -/
def pathBase (mode : IntercomMode) (granted : Bool) (closedLevel : Nat) : TargetKind × Nat :=
  match mode, granted with
  | .closed, _ => (.closed, 0)
  | .arbiter, true => (.opened, 256)
  | .arbiter, false => (.closed, closedLevel)

/-- A path with its target computed anew (R139). -/
def Path.aim (p : Path) (set : IntercomSettings) (mode : IntercomMode) (granted ducked : Bool) : Path :=
  match pathBase mode granted set.closedLevel with
  | (kind, base) => { p with kind, target := if ducked then base * set.duck / 256 else base }

/-- Both targets computed anew: D2P feeds the passenger's speaker, P2D the driver's (R139). -/
def Intercom.aim (i : Intercom) (set : IntercomSettings) : Intercom :=
  { i with
    d2p := i.d2p.aim set i.mode (i.arbiter == .driver) (i.plays .pax)
    p2d := i.p2d.aim set i.mode (i.arbiter == .passenger) (i.plays .drv) }

/-- `s` with the intercom changed and its targets computed anew. -/
def State.withIntercom (s : State) (i : Intercom) : State :=
  { s with intercom := i.aim s.tables.intercom }

/-- The intercom mode of a meter state (R139). -/
def modeOf : MeterState → IntercomMode
  | .offDuty | .vacant => .closed
  | .hired | .pay => .arbiter

/-- The intercom told of the meter state; a change of mode leaves the arbiter IDLE (R139). -/
def State.followMeter (s : State) : State :=
  let m := modeOf s.meter.state
  if s.intercom.mode = m then s
  else s.withIntercom { s.intercom with mode := m, arbiter := .idle }

/-! ### Prompts (R147, R148) -/

/-- The prompt triggers, in the order of PROMPT_MAP (R147). -/
inductive Trigger
  | hire | pay | offerPresented | approved | approvedOffline | declined | tripClosed | shiftLimit
  deriving DecidableEq, Repr, Inhabited

/-- A trigger's index in PROMPT_MAP (R147). -/
def triggerPlace : Trigger → Nat
  | .hire => 0
  | .pay => 1
  | .offerPresented => 2
  | .approved => 3
  | .approvedOffline => 4
  | .declined => 5
  | .tripClosed => 6
  | .shiftLimit => 7

/-- The prompt entry of an index, if defined. -/
def State.promptEntry (s : State) (i : Nat) : Option PromptEntry := (s.tables.prompts[i]?).join

/-- What the queue makes of a request; `none` is the full queue (R147). -/
def State.requestPrompt (s : State) (i : Nat) : State × Option Disposition :=
  if s.intercom.queue.contains i then (s, some .alreadyWaiting)
  else if s.intercom.queue.length < 8 then
    ({ s with intercom := { s.intercom with queue := s.intercom.queue ++ [i] } }, some .queued)
  else ({ s with intercom := { s.intercom with drops := satInc max16 s.intercom.drops } }, none)

/-- A trigger raised; outside RUNNING its request is discarded (R136, R147). -/
def State.trigger (s : State) (t : Trigger) : State :=
  if s.intercom.run = .running then
    match (s.tables.promptMap[triggerPlace t]?).join with
    | some i => if (s.promptEntry i).isSome then (s.requestPrompt i).1 else s
    | none => s
  else s

/-- A prompt that has made its last sample leaves the player idle (R148). -/
def State.endPrompt (s : State) : State :=
  match s.intercom.playing with
  | some p => if p.ended then s.withIntercom { s.intercom with playing := none } else s
  | none => s

/-- The queue from its first defined head: the head with its entry, and the rest (R148). -/
def State.nextPrompt (s : State) : List Nat → Option ((Nat × PromptEntry) × List Nat)
  | [] => none
  | i :: rest =>
    match s.promptEntry i with
    | some e => some ((i, e), rest)
    | none => State.nextPrompt s rest

/-- With the player idle and no test in flight, the queue's head starts playing (R148, R152). -/
def State.startPrompt (s : State) : State :=
  match s.intercom.playing, s.intercom.test with
  | none, none =>
    match s.nextPrompt s.intercom.queue with
    | some ((i, e), rest) =>
      s.withIntercom
        { s.intercom with
          queue := rest, playing := some ⟨i, e, 0, ((e.tones[0]?).map (·.ms)).getD 0 * 8, 0⟩ }
    | none => { s with intercom := { s.intercom with queue := [] } }
  | _, _ => s

/-- The prompt after one sample; it has ended once its last segment's last sample has been made (R146). -/
def Playing.advance (p : Playing) : Playing :=
  let f := ((p.entry.tones[p.segment]?).map (·.freq)).getD 0
  let phase := nextPhase f p.phase
  if 1 < p.left then { p with left := p.left - 1, phase }
  else
    match p.entry.tones[p.segment + 1]? with
    | some t => { p with segment := p.segment + 1, left := t.ms * 8, phase }
    | none => { p with left := 0, phase }

/-- The sample the prompt makes now (R146). -/
def Playing.sample (p : Playing) : Int :=
  toneSample p.entry.level (((p.entry.tones[p.segment]?).map (·.freq)).getD 0) p.phase

/-- The tone of a speaker test: 1,000 Hz (R152). -/
def testTone : Nat := 1000

/-- The test after one sample of its tone (R146, R152). -/
def SpeakerTest.advance (t : SpeakerTest) : SpeakerTest :=
  { t with played := t.played + 1, phase := nextPhase testTone t.phase }

/-- The prompt and test samples of one codec frame, for the driver's and the passenger's speaker, and the
intercom after them (R146, R148, R152). DEDUCED, log entry 15: the targets follow the end of a prompt or of
the test tone within the frame of its last sample. -/
def State.makeTones (s : State) : State × Int × Int :=
  match s.intercom.playing with
  | some p =>
    let x := p.sample
    let out := (if destPlays p.entry.dest .drv then x else 0, if destPlays p.entry.dest .pax then x else 0)
    let i := { s.intercom with playing := some p.advance }
    (if p.advance.ended then s.withIntercom i else { s with intercom := i }, out)
  | none =>
    match s.intercom.test with
    | some t =>
      if t.started && !t.toneMade then
        let x := toneSample t.level testTone t.phase
        let out := (if t.side = .drv then x else 0, if t.side = .pax then x else 0)
        let i := { s.intercom with test := some t.advance }
        (if t.advance.toneMade then s.withIntercom i else { s with intercom := i }, out)
      else (s, 0, 0)
    | none => (s, 0, 0)

/-! ### Voice detection (R140 to R142) -/

/-- A sample added to the block in progress (R140). -/
def Detector.hear (d : Detector) (x : Int) : Detector :=
  { d with sum := d.sum + x.natAbs * x.natAbs, peak := max d.peak x.natAbs }

/-- The block in progress is speech against the floor (R140); a STUCK block never is. -/
def Detector.speech (d : Detector) (set : IntercomSettings) : Bool :=
  match d.floor, d.stuck with
  | none, _ => false
  | some _, true => false
  | some n, false =>
    let e := d.sum / 128
    decide (n * set.margin / 4 < e ∧ set.eMin ≤ e)

/-- The noise floor after the block (R140). -/
def Detector.newFloor (d : Detector) : Option Nat :=
  let e := d.sum / 128
  match d.floor, d.stuck with
  | none, _ => some e
  | some n, true => some n
  | some n, false => if e < n then some e else some (n + n / 64 + 1)

/-- The stuck count after the block (R142). -/
def Detector.newStuckCount (d : Detector) : Nat :=
  if d.peak ≤ 4 then min (d.stuckCount + 1) 313 else 0

/-- The detector after a block boundary: the block is decided with the floor and the STUCK mark as they
stood before it (R140 to R142). DEDUCED, log entry 49: a hangover count that stands above a lowered H. -/
def Detector.decideBlock (d : Detector) (set : IntercomSettings) : Detector :=
  let speech := d.speech set
  let lapsed := d.active && !speech && decide (set.hangover ≤ d.hangover + 1)
  { floor := d.newFloor
    active := if speech then true else d.active && !lapsed
    hangover := if speech || !d.active || lapsed then 0 else d.hangover + 1
    stuckCount := d.newStuckCount
    stuck := d.newStuckCount == 313
    sum := 0
    peak := 0
    energies := (d.sum / 128 :: d.energies).take 16 }

/-- The detector of a side's microphone. -/
def Intercom.mic (i : Intercom) : Side → Detector
  | .drv => i.drv
  | .pax => i.pax

/-- A detector's block decided, with MIC_STUCK when its microphone becomes STUCK (R142). DEDUCED, log entry
16: the 313th quiet block is decided as not STUCK. -/
def State.decideMic (s : State) (side : Side) : State :=
  let d := s.intercom.mic side
  let d' := d.decideBlock s.tables.intercom
  let s :=
    match side with
    | .drv => { s with intercom := { s.intercom with drv := d' } }
    | .pax => { s with intercom := { s.intercom with pax := d' } }
  if d'.stuck && !d.stuck then s.offerNotice (.micStuck side) else s

/-! ### The direction arbiter (R143) -/

/-- The arbiter's next state (R143). -/
def nextArbiter (set : IntercomSettings) (a : Arbiter) (drv pax : Bool) : Arbiter :=
  match a with
  | .idle =>
    if drv && pax then (if set.tie = .drv then .driver else .passenger)
    else if drv then .driver else if pax then .passenger else .idle
  | .driver => if drv then .driver else .idle
  | .passenger =>
    if drv && set.driverPriority then .driver else if pax then .passenger else .idle

/-- The arbiter evaluated in mode ARBITER (R143). -/
def State.evaluateArbiter (s : State) : State :=
  let i := s.intercom
  if i.mode = .arbiter then
    s.withIntercom { i with arbiter := nextArbiter s.tables.intercom i.arbiter i.drv.active i.pax.active }
  else s

/-- A test in flight starts its tone at a block boundary; a playing prompt ends (R152). -/
def State.startTone (s : State) : State :=
  match s.intercom.test with
  | some t =>
    if t.started then s
    else s.withIntercom { s.intercom with playing := none, test := some { t with started := true } }
  | none => s

/-! ### The monitor (R149, R150) -/

/-- The builder turned on (R149). -/
def State.monitorOn (s : State) : State :=
  let st := if s.available .modem && s.intercom.run == .running then MonitorState.running else .paused
  { s with intercom := { s.intercom with monitor := ⟨st, [], 0, true⟩ } }

/-- The builder turned off; its partial frame is discarded (R149). DESIGN CHOICE, log entry 44: the sequence
number while off. -/
def State.monitorOff (s : State) : State :=
  { s with intercom := { s.intercom with monitor := .off } }

/-- MODEM became unavailable (R149). -/
def State.monitorPause (s : State) : State :=
  let m := s.intercom.monitor
  if m.state = .off then s
  else { s with intercom := { s.intercom with monitor := { m with state := .paused, samples := [] } } }

/-- MODEM became available (R149). -/
def State.monitorResume (s : State) : State :=
  let m := s.intercom.monitor
  if m.state = .off ∨ s.intercom.run ≠ .running then s
  else
    { s with
      intercom := { s.intercom with monitor := { m with state := .running, samples := [], startMark := true } } }

/-- An AUDIO frame arriving at the monitor queue; a full queue loses its oldest frame (R11). -/
def Link.audio (l : Link) (f : Frame) : Link :=
  if l.monitor.length < 4 then { l with monitor := l.monitor ++ [f] }
  else
    let sending := l.front.sending.map fun x =>
      if x.origin = .monitor then { x with queued := false } else x
    { l with
      monitor := l.monitor.drop 1 ++ [f]
      monitorDrop := satInc max16 l.monitorDrop
      front := { l.front with sending } }

/-- The AUDIO frame of the builder's first 40 samples offered to the monitor queue (R150). DEDUCED, log
entry 9: the row acts from 40 samples on. -/
def State.completeMonitorFrame (s : State) : State :=
  let m := s.intercom.monitor
  if m.state = .running ∧ 40 ≤ m.samples.length then
    match s.holder .modem with
    | some a =>
      { s with
        link := s.link.audio (.own .front a (.audio m.seq m.startMark (m.samples.take 40)))
        intercom :=
          { s.intercom with
            monitor := ⟨.running, m.samples.drop 40, wrap16 m.seq, false⟩ } }
    | none => s
  else s

/-! ### One codec frame (R138) -/

/-- A path after one frame and its speaker sample. -/
def Path.frame (p : Path) (gain : Nat) (mic prompt : Int) : Path × Int :=
  let a := ramp p.a p.target
  ({ p with a }, sat16 (pathOutput mic gain a + prompt))

/-- The samples of a block (8.3). -/
def blockLength : Nat := 128

/-- The boundary of a full block: both detectors decide it, the arbiter is evaluated, and a test in flight
starts its tone (R140 to R143, R152). DESIGN CHOICE, log entry 45: the driver's detector decides first. -/
def State.blockBoundary (s : State) : State :=
  if s.intercom.position < blockLength then s
  else
    let s := { s with intercom := { s.intercom with position := 0 } }
    ((s.decideMic .drv).decideMic .pax).evaluateArbiter.startTone

/-- One codec frame's samples in RUNNING (R136, R138). DEDUCED, log entry 15: a boundary and a prompt's end
that have not been taken come first. -/
def State.runFrame (s : State) (d p : Int) : State :=
  let s := s.blockBoundary.endPrompt.startPrompt
  match s.makeTones with
  | (s, toDrv, toPax) =>
    let i := s.intercom
    let dMic := if i.drv.stuck then 0 else d
    let pMic := if i.pax.stuck then 0 else p
    let d2p := i.d2p.frame s.tables.intercom.gainD2P dMic toPax
    let p2d := i.p2d.frame s.tables.intercom.gainP2D pMic toDrv
    { s with
      intercom :=
        { i with
          d2p := d2p.1, paxSpk := d2p.2, p2d := p2d.1, drvSpk := p2d.2
          drv := i.drv.hear d, pax := i.pax.hear p, position := i.position + 1
          monitor :=
            if i.monitor.state = .running then
              { i.monitor with samples := i.monitor.samples ++ [monitorSample dMic pMic] }
            else i.monitor } }

/-! ### Speaker test (8.7) -/

/-- A test in flight ends with an outcome, answered to its requester (R152, R153). -/
def State.endSpeakerTest (s : State) (o : TestOutcome) (average threshold : Nat) : State :=
  match s.intercom.test with
  | some t =>
    (s.withIntercom { s.intercom with test := none }).mgmtRespond t.rq .speakerTest .none .ok
      (.test o average threshold)
  | none => s

/-- A test in flight is aborted; no measurement was made (R153). DESIGN CHOICE, log entry 44: the average
and the threshold of that response. -/
def State.abortSpeakerTest (s : State) : State := s.endSpeakerTest .aborted 0 0

/-- The average of the last 16 block energies of a side's microphone (R152). -/
def Intercom.average (i : Intercom) (side : Side) : Nat := (i.mic side).energies.sum / 16

/-- A test in flight ends with its measurement: PASS from the threshold on (R152). -/
def State.measureTest (s : State) : State :=
  match s.intercom.test with
  | some t =>
    let average := s.intercom.average t.side
    s.endSpeakerTest (if t.threshold ≤ average then .passed else .failed) average t.threshold
  | none => s

/-- A codec frame by the run state: in RUNNING its samples are worked, in MUTED both speakers stand at 0,
and STOPPED exchanges no frame (R136). -/
def State.exchangeFrame (s : State) (d p : Int) : State :=
  match s.intercom.run with
  | .running => s.runFrame d p
  | .muted => { s with intercom := { s.intercom with drvSpk := 0, paxSpk := 0 } }
  | .stopped => s

/-! ### Stopping and starting (R136, R155) -/

/-- The intercom at entry to MUTED or STOPPED; a test in flight is aborted (R136, R153). -/
def State.stopIntercom (s : State) (run : RunState) : State :=
  let s := s.abortSpeakerTest
  let i := s.intercom
  let i := { i with run, playing := none, queue := [], monitor := .off, drvSpk := 0, paxSpk := 0 }
  match run with
  | .stopped =>
    s.withIntercom
      { i with arbiter := .idle, d2p := { i.d2p with a := 0 }, p2d := { i.p2d with a := 0 } }
  | _ => s.withIntercom i

/-- The intercom starts afresh on a return to RUN; `drops` is kept by a return and 0 after a start-up
(R136, R155). -/
def State.startIntercom (s : State) (drops : Nat) : State :=
  let s := s.withIntercom { Intercom.start with mode := modeOf s.meter.state, drops }
  if s.sign.emergency.active then s.monitorOn else s

/-! ### Requests (R147, R151) -/

/-- PROMPT decided (R147). -/
def State.decidePrompt (s : State) (rq : Req) (i : Nat) : State :=
  if (s.promptEntry i).isSome then
    match s.requestPrompt i with
    | (s, some d) => s.consoleRespond rq .prompt .accepted (.disposition d)
    | (s, none) => s.consoleRespond rq .prompt .full
  else s.consoleRespond rq .prompt .badValue

/-- SPEAKER_TEST decided; its answer follows when the test ends (R151). -/
def State.decideSpeakerTest (s : State) (rq : Req) (side : Option Side) : State :=
  s.whenAllowed rq .speakerTest .none true fun s =>
    match side with
    | none => s.mgmtRespond rq .speakerTest .none .badValue
    | some side =>
      if s.meter.state = .hired ∨ s.meter.state = .pay then
        s.mgmtRespond rq .speakerTest .none .refusedState
      else if s.intercom.test.isSome then s.mgmtRespond rq .speakerTest .none .busy
      else
        { s with
          intercom :=
            { s.intercom with
              test :=
                some ⟨side, rq, false, 0, 0, s.tables.intercom.testLevel,
                  s.tables.intercom.testThreshold⟩ } }

/-! ### Meanings -/

/-- PROMPT_END: the playing prompt's last sample has been made, and the player is idle (R148). DEDUCED, log
entry 15: the row acts then alone. -/
def execPromptEnd (s : State) : Host.Outcome State Fault Refusal :=
  .next (s.whenPowered State.endPrompt)

/-- MONITOR_FRAME_COMPLETE (R150). -/
def execMonitorFrameComplete (s : State) : Host.Outcome State Fault Refusal :=
  .next (s.whenPowered State.completeMonitorFrame)

/-- BLOCK_BOUNDARY: after the 128th sample of a block (R140 to R143, R152). DEDUCED, log entry 15: the row
acts then alone. -/
def execBlockBoundary (s : State) : Host.Outcome State Fault Refusal :=
  .next (if s.intercom.run = .running then s.blockBoundary else s)

/-- PROMPT. -/
def execPrompt (rq : Req) (i : Nat) (s : State) : Host.Outcome State Fault Refusal :=
  .next (s.whenConsole rq fun s => s.decidePrompt rq i)

/-- SPEAKER_TEST. -/
def execSpeakerTest (rq : Req) (side : Option Side) (s : State) : Host.Outcome State Fault Refusal :=
  .next (s.whenMgmt rq fun s => s.decideSpeakerTest rq side)

end Sys2Proof.Machine
end

