-- ==== Sys2Proof/Machine/Fare.lean ====
section
/-! DEFINITION. The fare engine (chapter 5): segment constants, hire, progress and steps, saturation,
tariff changes and extras. -/

namespace Sys2Proof.Machine

open Sys2Proof

/-! ### Segments and constants (R73, R74) -/

/-- The segment constants of a tariff at a calibration constant k (R73). -/
def Engine.withConstants (e : Engine) (t : Tariff) (k : Nat) : Engine :=
  { e with
    q := t.stepDm * k * t.stepDs, uD := 10000 * t.stepDs, uT := t.stepDm * k, inc := t.increment }

/-- A fare segment as it opens (R74). -/
def FareSegment.opening (tariff start : Nat) : FareSegment := ⟨tariff, start, 0, 0, 0, 0⟩

/-- The tariff of a number in the tariff set in force. -/
def State.tariff (s : State) (t : Nat) : Option Tariff := s.mgmt.metrology.tariffSet.tariff t

/-- The active tariff. -/
def State.activeTariff (s : State) : Option Tariff := s.engine.active.bind s.tariff

/-- A change of the open trip. -/
def State.modTrip (s : State) (f : TripRecord → TripRecord) : State :=
  { s with meter := { s.meter with trip := s.meter.trip.map f } }

/-- A change of the current segment, the last of the list. -/
def TripRecord.modCurrent (t : TripRecord) (f : FareSegment → FareSegment) : TripRecord :=
  { t with segments := t.segments.modify (t.segments.length - 1) f }

/-- A trip started on the hire tariff `n` (R74). -/
def State.startTrip (s : State) (n : Nat) (t : Tariff) : State :=
  let s := s.modTrip fun r =>
    { r with
      fare := t.flagFall, flagFall := t.flagFall, extras := []
      segments := [.opening n s.now]
      flags := { r.flags with saturated := false, segmentLimit := false } }
  { s with
    engine :=
      { (s.engine.withConstants t s.distance.k) with
        mode := .running, active := some n, pa := 0, fs := t.included } }

/-! ### Progress (R75 to R79) -/

/-- The addition one interval makes to the progress accumulator (R75). -/
def Engine.addition (e : Engine) (b : Basis) (p : Nat) : Nat :=
  match b with
  | .max => max (p * e.uD) e.uT
  | .sum => p * e.uD + e.uT
  | .dist => p * e.uD
  | .time => e.uT

/-- An amount taken by the fare under its ceiling, with the SATURATED flag (R79, R89). -/
def addToFare (fare : Nat) (saturated : Bool) (amount : Nat) : Nat × Bool :=
  if fareMax < fare + amount then (fareMax, true) else (fare + amount, saturated)

/-- What completed steps change: FS, the segment's charged and free steps, the totalizer
STEPS_CHARGED, the fare and SATURATED (R77). -/
structure StepCount where
  fs : Nat
  charged : Nat
  free : Nat
  total : Nat
  fare : Nat
  saturated : Bool
  deriving DecidableEq, Repr, Inhabited

/-- One completed step, free or charged at the increment (R77, R79). -/
def StepCount.one (c : StepCount) (inc : Nat) : StepCount :=
  if 0 < c.fs then { c with fs := c.fs - 1, free := count32 (c.free + 1) }
  else
    match addToFare c.fare c.saturated inc with
    | (fare, saturated) =>
      { c with charged := count32 (c.charged + 1), total := satInc max32 c.total, fare, saturated }

/-- What steps change, as it stands with the open trip. -/
def State.stepCount (s : State) (r : TripRecord) : StepCount :=
  let g := r.segments.getLast?.getD (.opening 0 0)
  ⟨s.engine.fs, g.charged, g.free, s.acct.totals.steps, r.fare, r.flags.saturated⟩

/-- The trip after completed steps (R77). -/
def TripRecord.withSteps (r : TripRecord) (c : StepCount) : TripRecord :=
  { r.modCurrent (fun g => { g with charged := c.charged, free := c.free }) with
    fare := c.fare, flags := { r.flags with saturated := c.saturated } }

/-- One completed step of the open trip; a change of the fare is reported, and sets the view marks (R77,
R79, R112). -/
def State.completeStep (s : State) : State :=
  match s.meter.trip with
  | none => s
  | some r =>
    let c := (s.stepCount r).one s.engine.inc
    let s' :=
      { s with
        engine := { s.engine with fs := c.fs }
        meter := { s.meter with trip := some (r.withSteps c) }
        acct := { s.acct with totals := { s.acct.totals with steps := c.total } } }
    if c.fare = r.fare then s' else s'.markViews

/-- `n` completed steps, processed one by one (R76). -/
def State.completeSteps (s : State) : Nat → State
  | 0 => s
  | n + 1 => s.completeStep.completeSteps n

/-- The fare engine takes a pulse count: in RUNNING by R75 to R78, otherwise it is discarded (R81). DEDUCED,
log entry 40: the interval counts before its steps. -/
def State.takeInterval (s : State) (p : Nat) : State :=
  match s.engine.mode, s.meter.trip, s.activeTariff.bind (·.basis) with
  | .running, some r, some b =>
    let e := s.engine
    let pa := e.pa + e.addition b p
    State.completeSteps
      { s with
        engine := { e with pa := pa % e.q }
        meter :=
          { s.meter with
            trip := some (r.modCurrent fun g => { g with intervals := count32 (g.intervals + 1) }) } }
      (pa / e.q)
  | _, _, _ => s

/-! ### Tariff changes (R83 to R87) -/

/-- A fare segment opened on tariff `n` after a band change or a RESUME (R84). -/
def State.openSegment (s : State) (n : Nat) (t : Tariff) : State :=
  let e := s.engine.withConstants t s.distance.k
  let s := s.modTrip fun r => { r with segments := r.segments ++ [.opening n s.now] }
  { s with engine := { e with active := some n, pa := s.engine.pa * e.q / s.engine.q } }

/-- The band of a number in the tariff set in force. -/
def State.bandEntry (s : State) (b : Option Nat) : Option Band :=
  b.bind s.mgmt.metrology.tariffSet.band

/-- A RUNNING trip follows a band, or finds its segment list full (R83, R85, R87). The flag says
whether the active tariff changed. -/
def State.followBand (s : State) (b : Option Nat) : State × Bool :=
  match s.activeTariff, s.bandEntry b, s.meter.trip with
  | some cur, some band, some r =>
    if cur.followBand ∧ some band.default ≠ s.engine.active then
      if r.segments.length < 4 then
        match s.tariff band.default with
        | some t => (s.openSegment band.default t, true)
        | none => (s, false)
      else (s.modTrip fun r => { r with flags := { r.flags with segmentLimit := true } }, false)
    else (s, false)
  | _, _, _ => (s, false)

/-- A band change event at the engine: it acts in RUNNING alone (R83, R86). -/
def State.bandChange (s : State) (b : Option Nat) : State :=
  if s.engine.mode = .running then (s.followBand b).1 else s

/-! ### Extras (R88, R89) -/

/-- The refusal of an extra, if any (R88). -/
def State.extraRefusal (s : State) (r : TripRecord) (code : Nat) : Option ConsoleResult :=
  match s.mgmt.metrology.tariffSet.extra code with
  | none => some .extraNotAllowed
  | some x =>
    if !(s.engine.active.map x.permitted.contains).getD false then some .extraNotAllowed
    else if s.meter.state = .pay ∧ x.inPay = false then some .extraNotAllowed
    else
      match r.extras.find? (·.code == code) with
      | some e => if e.count = x.maxCount then some .extraLimit else none
      | none => if 8 ≤ r.extras.length then some .full else none

/-- The extras list with one more unit of a code (R89). -/
def addExtra (l : List ExtraRecord) (code amount : Nat) : List ExtraRecord :=
  if l.any (·.code == code) then
    l.map fun e => if e.code == code then { e with count := e.count + 1 } else e
  else l ++ [⟨code, 1, amount⟩]

/-- The amount per unit of a code: the list's own, or the table's when the code first joins (R89). -/
def State.extraAmount (s : State) (r : TripRecord) (code : Nat) : Nat :=
  match r.extras.find? (·.code == code) with
  | some e => e.amount
  | none => ((s.mgmt.metrology.tariffSet.extra code).map (·.amount)).getD 0

/-- An accepted extra added to the open trip; in PAY the snapshot takes the new fare, and a change of
the fare sets the view marks (R89, R103, R106). DESIGN CHOICE, log entry 43: the views are tried once. -/
def State.takeExtra (s : State) (r : TripRecord) (code : Nat) : State :=
  let amount := s.extraAmount r code
  match addToFare r.fare r.flags.saturated amount with
  | (fare, saturated) =>
    let r' :=
      { r with extras := addExtra r.extras code amount, fare, flags := { r.flags with saturated } }
    let s' :=
      { s with
        meter :=
          { s.meter with
            trip := some r'
            snapshot := if s.meter.state = .pay then some fare else s.meter.snapshot } }
    if fare = r.fare then s' else s'.markViews

end Sys2Proof.Machine
end

