-- ==== Sys2Proof/Machine/Calendar.lean ====
section
/-! DEFINITION. The calendar and the band evaluation (3.4, 3.6). -/

namespace Sys2Proof.Machine

open Sys2Proof

/-! ### The calendar (R47) -/

/-- A calendar date. -/
structure Date where
  year : Nat
  month : Nat
  day : Nat
  deriving DecidableEq, Repr, Inhabited

/-- The day number of a counter value (R47). -/
def dayNumber (c : Nat) : Nat := c / 86400

/-- The minute of day of a counter value (R47). -/
def minuteOfDay (c : Nat) : Nat := (c - dayNumber c * 86400) / 60

/-- The days of a year. -/
def yearDays (y : Nat) : Nat := if leapYear y then 366 else 365

/-- The month and the day of month of day `d` of a year, counting from month `m`, over at most `n`
months. -/
def monthAndDay (leap : Bool) (m d : Nat) : Nat → Nat × Nat
  | 0 => (m, d + 1)
  | n + 1 => if d < monthDays leap m then (m, d + 1) else monthAndDay leap (m + 1) (d - monthDays leap m) n

/-- The date of day `d` counted from the start of year `y`, over at most `n` years. -/
def dateFrom (y d : Nat) : Nat → Date
  | 0 => ⟨y, 1, d + 1⟩
  | n + 1 =>
    if d < yearDays y then
      match monthAndDay (leapYear y) 1 d 11 with
      | (m, k) => ⟨y, m, k⟩
    else dateFrom (y + 1) (d - yearDays y) n

/-- The date of a counter value, counted from 2000-01-01 by the Gregorian rule (R47). -/
def dateOf (c : Nat) : Date := dateFrom 2000 (dayNumber c) 140

/-- The weekday of a counter value, MON 0 to SUN 6 (R47). -/
def weekday (c : Nat) : Nat := (dayNumber c + 5) % 7

/-- The day type of a weekday number (R50). -/
def weekdayType : Nat → DayType
  | 0 => .mon
  | 1 => .tue
  | 2 => .wed
  | 3 => .thu
  | 4 => .fri
  | 5 => .sat
  | _ => .sun

/-- A holiday entry matches a date (R50). -/
def holidayMatches (h : Holiday) (d : Date) : Bool :=
  (h.year.map (· == d.year)).getD true && h.month == d.month && h.day == d.day

/-- The day type of a counter value under a holiday list (R51). -/
def TariffSet.dayType (ts : TariffSet) (c : Nat) : DayType :=
  if ts.holidays.any fun h => (h.map (holidayMatches · (dateOf c))).getD false then .holiday
  else weekdayType (weekday c)

/-! ### Band evaluation (R52, R53) -/

/-- A band's window contains a minute of day (R52). -/
def windowContains (start stop m : Nat) : Bool :=
  if start < stop then decide (start ≤ m ∧ m < stop)
  else if stop < start then decide (start ≤ m ∨ m < stop)
  else true

/-- A defined band matches a counter value (R52). -/
def TariffSet.bandMatches (ts : TariffSet) (c : Nat) (b : Band) : Bool :=
  b.days.contains (ts.dayType c) && windowContains b.startMin b.stopMin (minuteOfDay c)

/-- The current band of a counter value: the lowest-numbered band that matches (R52). -/
def TariffSet.currentBand (ts : TariffSet) (c : Nat) : Option Nat :=
  (ts.bands.findIdx? fun b => (b.map (ts.bandMatches c)).getD false).map (· + 1)

/-- A band evaluation: a result other than the kept band is a band change event, which the fare engine
takes and which sets the view marks (R53, R112). DESIGN CHOICE, log entry 43: the views are tried once, after
the engine. -/
def State.evaluateBand (s : State) : State :=
  let b := s.mgmt.metrology.tariffSet.currentBand s.now
  if s.time.backup.keptBand = b then { s with time := { s.time with band := b } }
  else
    State.markViews
      (State.bandChange
        { s with time := { s.time with band := b, backup := { s.time.backup with keptBand := b } } } b)

end Sys2Proof.Machine
end

