-- ==== Sys2Proof/Machine/Sign.lean ====
section
/-! DEFINITION. Roof sign and lamp channels (chapter 7): composition and drive, lamp tests, ambient
level, lamp checks, the hold of the emergency switch. -/

namespace Sys2Proof.Machine

open Sys2Proof

/-! ### Composition (R121, R122) -/

/-- The meter condition (R121). -/
def meterCondition : MeterState → SignCondition
  | .offDuty => .off
  | .vacant => .vacant
  | .hired => .hired
  | .pay => .pay

/-- The sign condition; RESTARTING stands as RUN (R121, R208), and a part without supply is dark. -/
def State.signCondition (s : State) : SignCondition :=
  match s.power.state with
  | .holdup | .off => .dark
  | .parked => if s.sign.emergency.active then .parkedEmergency else .parkedOff
  | .run | .restarting => meterCondition s.meter.state

/-- The place in the pattern table of a sign condition's pattern; `none` for a condition that is no
meter condition. -/
def conditionPlace : SignCondition → Option Nat
  | .off => some 0
  | .vacant => some 1
  | .hired => some 2
  | .pay => some 3
  | _ => none

/-- The value a pattern of the table gives a channel, `none` outside its mask. -/
def State.patternValue (s : State) (place channel : Nat) : Option LampValue :=
  ((s.tables.patterns[place]?).bind (·[channel]?)).join

/-- The entry of the channel at a place (0–5). -/
def State.channel (s : State) (i : Nat) : ChannelEntry :=
  s.tables.channels.getD i ⟨.aux1, .aux, 0, 1⟩

/-- The composed value of the channel at place `i`, and whether it comes from step 2 (R122). -/
def State.composeChannel (s : State) (i : Nat) (l : Lamp) : LampValue × Bool :=
  let c := s.signCondition
  if c = .dark ∨ c = .parkedOff then (.off, false)
  else if l.fault = .short then (.off, false)
  else
    match (if s.sign.emergency.active then s.patternValue 4 i else none) with
    | some v => (v, true)
    | none =>
      if c = .parkedEmergency then (.off, false)
      else
        match s.sign.test.bind (fun t => (t.values[i]?).join) with
        | some v => (v, false)
        | none =>
          match (s.channel i).owner with
          | .aux => (l.latch, false)
          | .sign => (((conditionPlace c).bind fun p => s.patternValue p i).getD .off, false)

/-! ### Drive (R123) -/

/-- A composed value lights a channel in the flash phase (R123). -/
def lightsIn (phaseA : Bool) : LampValue → Bool
  | .off => false
  | .on => true
  | .flashA => phaseA
  | .flashB => !phaseA

/-- The duty of an ambient level (R127). -/
def levelDuty (b : Brightness) : AmbientLevel → Nat
  | .day => b.day
  | .dusk => b.dusk
  | .night => b.night

/-- A channel composed anew and driven: a channel that turns on starts its check timer, one that goes
dark stops it (R122, R123, R129). DESIGN CHOICE, log entry 39: a dark channel's duty is 0. DEDUCED, log
entry 54: a channel that stays lit through PARKED entry or a wake keeps its check timer. -/
def State.driveChannel (s : State) (i : Nat) (l : Lamp) : Lamp :=
  match s.composeChannel i l with
  | (v, em) =>
    let duty := if em then 255 else levelDuty s.tables.brightness s.sign.ambient.level
    let lit := lightsIn s.time.backup.phaseA v && decide (0 < duty)
    { l with
      composed := v, emergency := em, lit, duty := if lit then duty else 0
      check := if lit then (if l.lit then l.check else .first) else .stopped }

/-- Every channel composed anew and driven (R122, R123). -/
def State.recompose (s : State) : State :=
  { s with sign := { s.sign with lamps := s.sign.lamps.mapIdx fun i l => s.driveChannel i l } }

/-- A change of one channel's running state. -/
def State.modLamp (s : State) (i : Nat) (f : Lamp → Lamp) : State :=
  { s with sign := { s.sign with lamps := s.sign.lamps.modify i f } }

/-! ### Lamp tests (R125, R126) -/

/-- An active test ends, and every channel is composed anew without it (R126). -/
def State.endTest (s : State) : State :=
  match s.sign.test with
  | some _ => State.recompose { s with sign := { s.sign with test := none } }
  | none => s

/-- The test's remaining time decreases at a meter interval event, and the test ends at 0 (R125). DEDUCED,
log entry 9: the test counts in the meter interval. -/
def State.countTest (s : State) : State :=
  match s.sign.test with
  | some t =>
    if t.remaining ≤ 1 then s.endTest
    else { s with sign := { s.sign with test := some { t with remaining := t.remaining - 1 } } }
  | none => s

/-! ### Ambient level (R128) -/

/-- The level a sample indicates (R128). -/
def indicated (b : Brightness) (x : Nat) : AmbientLevel :=
  if b.tHigh ≤ x then .day else if x ≤ b.tLow then .night else .dusk

/-- The sampler after a sample (R128). -/
def Ambient.take (a : Ambient) (b : Brightness) (x : Nat) : Ambient :=
  let i := indicated b x
  if i = a.level then { a with sample := x, count := 0 }
  else
    let n := if i = a.candidate then a.count + 1 else 1
    if n = 8 then ⟨i, x, i, 0⟩ else ⟨a.level, x, i, n⟩

/-! ### Lamp checks (R129 to R131) -/

/-- A lamp check of a lit channel (R129, R130). -/
def State.checkLamp (s : State) (i current : Nat) : State :=
  match s.sign.lamps[i]? with
  | none => s
  | some l =>
    if l.lit then
      let c := s.channel i
      let s := s.modLamp i fun l => { l with current, check := .later }
      if c.maxMa < current then
        ((s.modLamp i fun l => { l with fault := .short, lowChecks := 0 }).offerNotice
          (.lampShort (i + 1) c.role current)).recompose
      else if current < c.minMa then
        if l.fault = .ok then
          if 3 ≤ l.lowChecks + 1 then
            (s.modLamp i fun l => { l with fault := .opened, lowChecks := 3 }).offerNotice
              (.lampOpen (i + 1) c.role current)
          else s.modLamp i fun l => { l with lowChecks := l.lowChecks + 1 }
        else s
      else s.modLamp i fun l => { l with fault := .ok, lowChecks := 0 }
    else s

/-- The fault states of the named channels cleared: one channel, or all six for 0; a channel already OK is
unchanged (R131). -/
def State.clearLamps (s : State) (channel : Nat) : State :=
  let clear := fun (i : Nat) (l : Lamp) =>
    if (channel = 0 ∨ i + 1 = channel) ∧ l.fault ≠ .ok then { l with fault := .ok, lowChecks := 0 }
    else l
  State.recompose { s with sign := { s.sign with lamps := s.sign.lamps.mapIdx clear } }

/-! ### The emergency switch's hold (R132) -/

/-- A closure as the hold state takes it (R132). -/
def State.holdClose (s : State) : State :=
  match s.sign.hold with
  | .released =>
    { s with sign := { s.sign with hold := .timing (if s.sign.emergency.active then 10 else 2) } }
  | _ => s

/-! ### Requests (R124, R125, R131) -/

/-- AUX_LAMP decided (R124). -/
def State.decideAuxLamp (s : State) (rq : Req) (channel : Nat) (v : Option LampValue) : State :=
  match v with
  | some v =>
    if within 1 6 channel then
      ((s.modLamp (channel - 1) fun l => { l with latch := v }).recompose).consoleRespond rq .auxLamp
        .accepted
    else s.consoleRespond rq .auxLamp .badValue
  | none => s.consoleRespond rq .auxLamp .badValue

/-- SIGN_TEST decided (R125). -/
def State.decideSignTest (s : State) (rq : Req) (duration : Nat) (values : Option Pattern) : State :=
  s.whenAllowed rq .signTest .none true fun s =>
    match values with
    | none => s.mgmtRespond rq .signTest .none .badValue
    | some v =>
      if 60 < duration then s.mgmtRespond rq .signTest .none .badValue
      else if s.meter.state = .hired ∨ s.meter.state = .pay then
        s.mgmtRespond rq .signTest .none .refusedState
      else if duration = 0 then s.endTest.mgmtRespond rq .signTest .none .ok
      else
        (State.recompose { s with sign := { s.sign with test := some ⟨v, 10 * duration⟩ } }).mgmtRespond
          rq .signTest .none .ok

/-- CLEAR_LAMP decided (R131). -/
def State.decideClearLamp (s : State) (rq : Req) (channel : Nat) : State :=
  s.whenAllowed rq .clearLamp .none true fun s =>
    if 6 < channel then s.mgmtRespond rq .clearLamp .none .badValue
    else (s.clearLamps channel).mgmtRespond rq .clearLamp .none .ok

/-! ### Meanings -/

/-- AUX_LAMP. -/
def execAuxLamp (rq : Req) (channel : Nat) (v : Option LampValue) (s : State) :
    Host.Outcome State Fault Refusal :=
  .next (s.whenConsole rq fun s => s.decideAuxLamp rq channel v)

/-- SIGN_TEST. -/
def execSignTest (rq : Req) (duration : Nat) (values : Option Pattern) (s : State) :
    Host.Outcome State Fault Refusal :=
  .next (s.whenMgmt rq fun s => s.decideSignTest rq duration values)

/-- SIGN_TEST_EXPIRY: the test's remaining time has reached 0 (R126). DEDUCED, log entry 9: the row ends any
test. -/
def execSignTestExpiry (s : State) : Host.Outcome State Fault Refusal :=
  .next (s.whenPowered State.endTest)

/-- AMBIENT_SAMPLE: taken in RUN and PARKED; sampling stops in HOLDUP (R128). -/
def execAmbientSample (x : Nat) (s : State) : Host.Outcome State Fault Refusal :=
  .next
    (if s.power.state = .holdup ∨ s.power.state = .off then s
     else
      State.recompose
        { s with sign := { s.sign with ambient := s.sign.ambient.take s.tables.brightness x } })

/-- LAMP_CHECK of a channel 1–6 (R129, R130). -/
def execLampCheck (channel current : Nat) (s : State) : Host.Outcome State Fault Refusal :=
  .next (if within 1 6 channel then s.checkLamp (channel - 1) current else s)

/-- CLEAR_LAMP. -/
def execClearLamp (rq : Req) (channel : Nat) (s : State) : Host.Outcome State Fault Refusal :=
  .next (s.whenMgmt rq fun s => s.decideClearLamp rq channel)

end Sys2Proof.Machine
end

