-- ==== Sys2Proof/Machine/Meter.lean ====
section
/-! DEFINITION. The meter controller (chapter 6): changes of the meter state, the console requests that
make them, the start of a trip close, fare view events; and the emergency state (R133). -/

namespace Sys2Proof.Machine

open Sys2Proof

/-! ### Changes of the meter state (R93) -/

/-- The meter state changed: the last view acknowledgement is cleared (R115), sign and intercom follow,
the checkpoint timer stops outside HIRED, a checkpoint is begun and both views are marked (R93, R207).
The fare engine is moved by the rule that makes the change. -/
def State.setMeterState (s : State) (m : MeterState) : State :=
  let s := { s with meter := { s.meter with state := m, lastAck := none } }
  let s := s.recompose.followMeter
  let s :=
    if m = .hired then s else { s with power := { s.power with checkpoint := .stopped } }
  s.beginCheckpoint.markViews

/-- SHIFT_LIMIT told to the meter: VACANT becomes OFF_DUTY, in every power state (R98). -/
def State.limitTold (s : State) : State :=
  if s.meter.state = .vacant then s.setMeterState .offDuty else s

/-! ### Duty (R96, R97) -/

/-- The refusal of an ON_DUTY, if any (R96). -/
def State.onDutyRefusal (s : State) : Option ConsoleResult :=
  if s.meter.state ≠ .offDuty then some .refusedState
  else if s.acct.shift.record.isNone then some .noShift
  else if s.acct.shift.limitSet then some .shiftLimit
  else if s.pins.metrologyOpen then some .metrologyOpen
  else none

/-- ON_DUTY decided (R95, R96). -/
def State.decideOnDuty (s : State) (rq : Req) : State :=
  s.whenRun rq .onDuty fun s =>
    match s.onDutyRefusal with
    | some r => s.consoleRespond rq .onDuty r
    | none => (s.setMeterState .vacant).consoleRespond rq .onDuty .accepted

/-- OFF_DUTY decided (R95, R97). -/
def State.decideOffDuty (s : State) (rq : Req) : State :=
  s.whenRun rq .offDuty fun s =>
    if s.meter.state = .vacant then
      (s.setMeterState .offDuty).consoleRespond rq .offDuty .accepted
    else s.consoleRespond rq .offDuty .refusedState

/-! ### Hire (R99, R100) -/

/-- The tariff a HIRE resolves to under the current band, and whether check 7 passes (R99). -/
def State.hireTariff (s : State) (b : Band) : HireTariff → Nat × Bool
  | .auto => (b.default, true)
  | .number t => (t, (s.tariff t).isSome && b.allowed.contains t)

/-- The first of checks 2 to 9 of R99 that fails. -/
def State.hireRefusal (s : State) (h : HireTariff) : Option ConsoleResult :=
  if s.meter.state ≠ .vacant then some .refusedState
  else if s.pins.metrologyOpen then some .metrologyOpen
  else if s.mgmt.metrology.calibration.k = 0 then some .notCalibrated
  else if s.time.backup.timeInvalid then some .timeInvalid
  else
    match s.bandEntry s.time.band with
    | none => some .noBand
    | some b =>
      if (s.hireTariff b h).2 = false then some .tariffNotAllowed
      else if s.logHasSlot = false then some .logFull
      else if s.applying then some .busy
      else none

/-- The trip record as HIRE creates it (R100, R111). -/
def State.newTrip (s : State) (number : Nat) : TripRecord where
  number := number
  shift := (s.acct.shift.record.map (·.number)).getD 0
  epoch := s.pay.epoch
  start := s.now
  stop := 0
  segments := []
  flagFall := 0
  fare := 0
  extras := []
  tenders := []
  unpaid := 0
  flags := { TripFlags.clear with emergency := s.sign.emergency.active }

/-- A HIRE taken whole on tariff `n` (R100, R126, R153). DESIGN CHOICE, log entry 43: the views are marked and
tried once, after steps 3 and 4. DESIGN CHOICE, log entry 53: a speaker test's ABORTED answer comes before
them. -/
def State.takeHire (s : State) (n : Nat) (t : Tariff) : State :=
  let number := count32 (s.meter.lastAssigned + 1)
  let s := s.endTest.abortSpeakerTest
  let s := { s with meter := { s.meter with lastAssigned := number, trip := some (s.newTrip number) } }
  (s.startTrip n t).setMeterState .hired

/-- HIRE decided (R94, R95, R99, R100). DEDUCED, log entry 37: a tariff outside 1–8 is refused before the
power check. -/
def State.decideHire (s : State) (rq : Req) (h : HireTariff) : State :=
  if (match h with | .auto => false | .number t => !within 1 8 t) then
    s.consoleRespond rq .hire .badValue
  else
    s.whenRun rq .hire fun s =>
      match s.hireRefusal h with
      | some r => s.consoleRespond rq .hire r
      | none =>
        match s.bandEntry s.time.band with
        | none => s.consoleRespond rq .hire .noBand
        | some b =>
          let n := (s.hireTariff b h).1
          match s.tariff n with
          | none => s.consoleRespond rq .hire .tariffNotAllowed
          | some t =>
            let s := s.takeHire n t
            (s.consoleRespond rq .hire .accepted (.trip s.meter.lastAssigned n)).trigger .hire

/-! ### The start of a trip close (R108, R109, R186) -/

/-- Sum of the amounts of the tenders that satisfy a test. -/
def amounts (l : List Tender) (p : TenderStatus → Bool) : Nat :=
  ((l.filter fun t => p t.status).map (·.amount)).sum

/-- A closed trip's contributions (R186). -/
def TripRecord.contribution (r : TripRecord) : Contribution where
  unpaidTrips := if r.flags.unpaid then 1 else 0
  hiredM := r.hiredM
  hiredDs := r.hiredDs
  fare := r.fare
  extras := r.extrasTotal
  card := amounts r.tenders (· == .approved)
  offline := amounts r.tenders fun x => x == .offlineAccepted || x == .offlineDisputed
  cash := amounts r.tenders (· == .cash)
  unpaid := r.unpaid
  tips :=
    ((r.tenders.filter fun t =>
        t.status == .approved || t.status == .offlineAccepted || t.status == .offlineDisputed).map
      (·.tip)).sum

/-- Step 2 of a close: the pending entry is formed and the close update begun (R109, R186). -/
def State.beginCloseUpdate (s : State) (r : TripRecord) : State :=
  let s := { s with acct := { s.acct with entry := some r.contribution } }
  s.beginCarrying
    (.closeUpdate r s.acct.carry s.acct.totalsNow s.now s.meter.lastAssigned)

/-- Steps 1 and 2 of a close, with the unpaid remainder (R108, R109). -/
def State.beginClose (s : State) (unpaid : Nat) : State :=
  match s.meter.trip with
  | none => s
  | some r =>
    let r := { r with stop := s.now, tenders := s.pay.tenders, unpaid }
    let s :=
      { s with
        meter :=
          { s.meter with closing := true, stage := .updating, correction := 0, trip := some r } }
    s.recompose.markViews.beginCloseUpdate r

/-! ### PAY, RESUME, EXTRA, END_UNPAID -/

/-- A PAY taken (R102). DESIGN CHOICE, log entry 43: the views are marked and tried once. -/
def State.takePay (s : State) : State :=
  State.setMeterState
    { s with
      engine := { s.engine with mode := .held }
      meter :=
        { s.meter with
          snapshot := some s.fare
          correction := 10 * s.mgmt.metrology.tariffSet.general.correction } } .pay

/-- PAY decided; a snapshot of 0 closes the trip at once (R95, R102, R108). -/
def State.decidePay (s : State) (rq : Req) : State :=
  s.whenRun rq .pay fun s =>
    if s.meter.state = .hired then
      let fare := s.fare
      let s := (s.takePay.consoleRespond rq .pay .accepted (.amount fare)).trigger .pay
      if fare = 0 then s.beginClose 0 else s
    else s.consoleRespond rq .pay .refusedState

/-- The refusal of a RESUME, if any (R105). -/
def State.resumeRefusal (s : State) : Option ConsoleResult :=
  if s.meter.state ≠ .pay then some .refusedState
  else if s.meter.closing then some .busy
  else if s.pay.session.state ≠ .idle then some .busy
  else if s.pay.tenders ≠ [] then some .correctionClosed
  else if s.meter.correction = 0 then some .correctionClosed
  else none

/-- A RESUME taken; the engine runs and checks the band (R105, R87). DEDUCED, log entry 37: the check comes
before the checkpoint. DESIGN CHOICE, log entry 43: the views are marked and tried once, after both. -/
def State.takeResume (s : State) : State :=
  let s := s.modTrip fun r => { r with flags := { r.flags with resumed := true } }
  let s :=
    { s with
      engine := { s.engine with mode := .running }
      meter := { s.meter with correction := 0, snapshot := none } }
  (s.followBand s.time.band).1.setMeterState .hired

/-- RESUME decided (R95, R105). -/
def State.decideResume (s : State) (rq : Req) : State :=
  s.whenRun rq .resume fun s =>
    match s.resumeRefusal with
    | some r => s.consoleRespond rq .resume r
    | none => s.takeResume.consoleRespond rq .resume .accepted

/-- What R106 and R107 refuse of an open trip in PAY: the closing mark and a session in progress. -/
def State.payBusy (s : State) : Bool := s.meter.closing || s.pay.session.state != .idle

/-- EXTRA decided (R95, R106, R88). -/
def State.decideExtra (s : State) (rq : Req) (code : Nat) : State :=
  s.whenRun rq .extra fun s =>
    match s.meter.state, s.meter.trip with
    | .hired, some r | .pay, some r =>
      if s.meter.state = .pay ∧ s.payBusy then s.consoleRespond rq .extra .busy
      else
        match s.extraRefusal r code with
        | some e => s.consoleRespond rq .extra e
        | none =>
          let s := s.takeExtra r code
          s.consoleRespond rq .extra .accepted (.amount s.fare)
    | _, _ => s.consoleRespond rq .extra .refusedState

/-- END_UNPAID decided (R95, R107). -/
def State.decideEndUnpaid (s : State) (rq : Req) : State :=
  s.whenRun rq .endUnpaid fun s =>
    if s.meter.state ≠ .pay then s.consoleRespond rq .endUnpaid .refusedState
    else if s.payBusy then s.consoleRespond rq .endUnpaid .busy
    else
      let due := s.remainingDue
      let s := s.modTrip fun r => { r with flags := { r.flags with unpaid := true } }
      (s.consoleRespond rq .endUnpaid .accepted (.amount due)).beginClose due

/-! ### The emergency state (R133) -/

/-- A change of the open shift's record; nothing without an open shift. -/
def State.modShift (s : State) (f : ShiftRecord → ShiftRecord) : State :=
  { s with
    acct := { s.acct with shift := { s.acct.shift with record := s.acct.shift.record.map f } } }

/-- The emergency becomes active (R133). -/
def State.activateEmergency (s : State) : State :=
  let s := State.recompose { s with sign := { s.sign with emergency := ⟨true, s.now⟩ } }
  let s := s.offerNotice (.emergencyOn s.now ((s.meter.trip.map (·.number)).getD 0))
  let s := s.modTrip fun r => { r with flags := { r.flags with emergency := true } }
  let s := s.modShift fun x => { x with emergencies := satInc max16 x.emergencies }
  s.monitorOn.beginCheckpoint

/-- The emergency is cleared, by the switch or by a requester (R133). -/
def State.clearEmergency (s : State) (c : ClearCause) : State :=
  let s := State.recompose { s with sign := { s.sign with emergency := ⟨false, s.now⟩ } }
  (s.offerNotice (.emergencyOff s.now c)).monitorOff.beginCheckpoint

/-- The expiry of a hold with its target (R132). -/
def State.holdExpires (s : State) : State :=
  match s.sign.hold with
  | .timing target =>
    let s := { s with sign := { s.sign with hold := .spent } }
    if target = 2 ∧ s.sign.emergency.active = false then s.activateEmergency
    else if target = 10 ∧ s.sign.emergency.active then s.clearEmergency .switch
    else s
  | _ => s

/-! ### Meanings -/

/-- ON_DUTY. -/
def execOnDuty (rq : Req) (s : State) : Host.Outcome State Fault Refusal :=
  .next (s.whenConsole rq fun s => s.decideOnDuty rq)

/-- OFF_DUTY. -/
def execOffDuty (rq : Req) (s : State) : Host.Outcome State Fault Refusal :=
  .next (s.whenConsole rq fun s => s.decideOffDuty rq)

/-- HIRE. -/
def execHire (rq : Req) (h : HireTariff) (s : State) : Host.Outcome State Fault Refusal :=
  .next (s.whenConsole rq fun s => s.decideHire rq h)

/-- PAY. -/
def execPay (rq : Req) (s : State) : Host.Outcome State Fault Refusal :=
  .next (s.whenConsole rq fun s => s.decidePay rq)

/-- RESUME. -/
def execResume (rq : Req) (s : State) : Host.Outcome State Fault Refusal :=
  .next (s.whenConsole rq fun s => s.decideResume rq)

/-- EXTRA. -/
def execExtra (rq : Req) (code : Nat) (s : State) : Host.Outcome State Fault Refusal :=
  .next (s.whenConsole rq fun s => s.decideExtra rq code)

/-- END_UNPAID. -/
def execEndUnpaid (rq : Req) (s : State) : Host.Outcome State Fault Refusal :=
  .next (s.whenConsole rq fun s => s.decideEndUnpaid rq)

/-- CORRECTION_WINDOW_EXPIRY: the timer stops at 0 (R104). DEDUCED, log entry 9: the row stops any window.
-/
def execCorrectionWindowExpiry (s : State) : Host.Outcome State Fault Refusal :=
  .next (s.whenPowered fun s => { s with meter := { s.meter with correction := 0 } })

/-- VIEW_HOLDOFF_EXPIRY: the hold-off timer ends and a pending view is tried (R113). DEDUCED, log entry 38:
with no timer running too. -/
def execViewHoldoffExpiry (d : ViewDest) (s : State) : Host.Outcome State Fault Refusal :=
  .next (s.whenPowered fun s => (s.modView d fun v => { v with holdoff := false }).tryView d)

end Sys2Proof.Machine
end

