-- ==== Sys2Proof/Machine/Payment.lean ====
section
/-! DEFINITION. The payment controller (chapter 9): session and interlock, tenders and settlement,
authorization requests and responses, offline decisions, late responses, the advice queue. -/

namespace Sys2Proof.Machine

open Sys2Proof

/-! ### Session and tenders -/

/-- A change of the payment controller's counters. -/
def State.modCounters (s : State) (f : PayCounters → PayCounters) : State :=
  { s with pay := { s.pay with counters := f s.pay.counters } }

/-- A change of the session; a change of its state or offer sets the view marks (R156, R112). -/
def State.setSession (s : State) (x : Session) : State :=
  let old := s.pay.session
  let s := { s with pay := { s.pay with session := x } }
  if old.state = x.state ∧ old.offer = x.offer then s else s.markViews

/-- A change of the tender with an index. -/
def State.modTender (s : State) (index : Nat) (f : Tender → Tender) : State :=
  { s with pay := { s.pay with tenders := s.pay.tenders.modify (index - 1) f } }

/-- The session's tender while it is in AUTH_WAIT. -/
def State.waitingTender (s : State) : Option Tender :=
  if s.pay.session.index = 0 then none else s.pay.tenders[s.pay.session.index - 1]?

/-- A reply to the reader, counted when the rear queue refuses it (R168). -/
def State.replyReader (s : State) (requestId : Nat) (r : ReaderResult)
    (t : Option ReplyTender := none) : State :=
  match s.offerRole .reader (.payResp requestId r t) with
  | (s, true) => s
  | (s, false) => s.modCounters fun c => { c with replyOverflow := satInc max16 c.replyOverflow }

/-! ### The advice queue (9.6) -/

/-- Free entries of the advice queue (R172). -/
def State.adviceFree (s : State) : Nat := 32 - s.pay.advice.length

/-- An attempt of the advice sender (R174). -/
def State.tryAdvice (s : State) : State :=
  match s.pay.advice with
  | [] => s
  | r :: rest =>
    if (s.pay.advice.all fun x => !x.inFlight) && s.available .modem
        && s.pay.session.state != .authWait && s.link.front.running then
      match s.offerRole .modem (.advice r) with
      | (s, true) =>
        { s with
          pay := { s.pay with advice := { r with inFlight := true } :: rest, ackTimer := .running 10 } }
      | (s, false) => s
    else s

/-- An advice other than OFFLINE can join: an entry is free and no record has its reference (R173). -/
def State.canJoin (s : State) (ref : Ref) : Bool :=
  decide (s.pay.advice.length < 32) && !s.pay.advice.any (·.ref == ref)

/-- An advice offered to the queue: it joins at the tail, written to the store and tried; fewer than 4
free entries, or none, raise ADVICE_FULL (R172, R173). DESIGN CHOICE, log entry 41: the notice comes before
the sender's try. -/
def State.joinAdvice (s : State) (r : AdviceRecord) : State :=
  if s.canJoin r.ref then
    let s := { s with pay := { s.pay with advice := s.pay.advice ++ [r] } }
    let s := s.begin (.adviceSet r)
    let s := if s.adviceFree < 4 then s.offerNotice (.adviceFull r.ref s.adviceFree) else s
    s.tryAdvice
  else if s.pay.advice.length < 32 then s
  else s.offerNotice (.adviceFull r.ref 0)

/-- The record of a reference and kind. -/
def State.findAdvice (s : State) (ref : Ref) (k : AdviceKind) : Option AdviceRecord :=
  s.pay.advice.find? fun r => r.ref == ref && r.kind == k

/-- The acknowledgement timer, stopped when the record it runs for loses its in-flight mark. -/
def timerWithout (inFlight : Bool) (t : Timer) : Timer := if inFlight then .stopped else t

/-- A record leaves the queue, and the sender tries again (R171, R175). -/
def State.removeAdvice (s : State) (r : AdviceRecord) : State :=
  let s :=
    { s with
      pay :=
        { s.pay with
          advice := s.pay.advice.filter (·.ref != r.ref)
          ackTimer := timerWithout r.inFlight s.pay.ackTimer } }
  (s.begin (.adviceRemove r.ref)).tryAdvice

/-- An OFFLINE record becomes DISPUTED in its place and loses its in-flight mark (R171, R172). DEDUCED, log
entry 29: the acknowledgement timer. -/
def State.disputeAdvice (s : State) (r : AdviceRecord) : State :=
  let r' := { r with kind := .disputed, time := s.now, inFlight := false }
  let s :=
    { s with
      pay :=
        { s.pay with
          advice := setAdvice s.pay.advice r'
          ackTimer := timerWithout r.inFlight s.pay.ackTimer } }
  s.begin (.adviceSet r')

/-! ### Settlement (R163) -/

/-- The session returns to IDLE; what waited for the tender is cleared, and an end of AUTH_WAIT lets
the advice sender try (R156, R169, R174). DESIGN CHOICE, log entry 41: the views come before the advice. -/
def State.endSession (s : State) : State :=
  let waiting := s.pay.session.state == .authWait
  let s := { s with pay := { s.pay with held := none, auth := .stopped, authExpired := false } }
  let s := s.setSession .idle
  if waiting then s.tryAdvice else s

/-- The remaining due reported: the views are marked, and at 0 with the session IDLE the close begins (R163,
R108). -/
def State.reportDue (s : State) : State :=
  let s := s.markViews
  if s.remainingDue = 0 ∧ s.pay.session.state = .idle ∧ s.meter.closing = false then s.beginClose 0
  else s

/-- The last steps of a card tender's decision: reply, prompt, session IDLE, report (R163). -/
def State.finishCard (s : State) (t : Tender) (f : CardFields) (result : ReaderResult)
    (tr : Trigger) : State :=
  let s := s.replyReader f.requestId result (some ⟨f.ref, t.amount, t.tip, f.authCode⟩)
  let s := (s.trigger tr).endSession
  if t.status.counted then s.reportDue else s

/-! ### Offline decisions (R169, R170) -/

/-- The shift offline exposure (R169). -/
def State.exposure (s : State) : Nat :=
  (s.acct.shift.record.map (·.offline)).getD 0
    + amounts s.pay.tenders fun x => x == .offlineAccepted || x == .offlineDisputed

/-- A tender is accepted offline (R169). -/
def State.acceptsOffline (s : State) (t : Tender) (f : CardFields) : Bool :=
  decide (t.amount ≤ s.tables.payLimits.floors.getD f.cardClass 0)
    && decide (s.exposure + t.amount ≤ s.tables.payLimits.offlineCap)
    && decide (2 ≤ s.adviceFree)

/-- The shift of the open trip. -/
def State.tripShift (s : State) : Nat := (s.meter.trip.map (·.shift)).getD 0

/-- An entry joins the late match list, the oldest leaving a full list first (R170). -/
def addLate (l : List LateEntry) (e : LateEntry) : List LateEntry :=
  if l.length < 16 then l ++ [e] else l.drop 1 ++ [e]

/-- The offline decision of the session's tender (R169). -/
def State.decideOffline (s : State) : State :=
  match s.waitingTender with
  | none => s
  | some t =>
    match t.card with
    | none => s
    | some f =>
      let accepted := s.acceptsOffline t f
      let t' :=
        if accepted then { t with status := .offlineAccepted, advice := .queued }
        else { t with status := .declined, reason := some .offlineRefused }
      let shift := s.tripShift
      let s := (s.modTender t.index fun _ => t').beginCheckpoint
      let s :=
        { s with
          pay :=
            { s.pay with
              late := addLate s.pay.late ⟨f.ref, t.amount, t.tip, f.cardClass, accepted, shift⟩ } }
      let s :=
        if accepted then
          s.joinAdvice ⟨.offline, f.ref, shift, t.amount, t.tip, f.cardClass, s.now, false⟩
        else s
      if accepted then s.finishCard t' f .approvedOffline .approvedOffline
      else s.finishCard t' f .declined .declined

/-! ### Offers (R159 to R161) -/

/-- The refusal of a PAY_CARD by checks 1 to 6 (R159). DESIGN CHOICE, log entry 51: an amount above FARE_MAX
passes check 3. -/
def State.payCardRefusal (s : State) (amount : Option Nat) : Option ConsoleResult :=
  if s.meter.state ≠ .pay then some .refusedState
  else if s.pay.session.state ≠ .idle then some .busy
  else if amount = some 0 then some .badValue
  else if s.remainingDue = 0 then some .nothingDue
  else if s.available .reader = false then some .noReader
  else if 6 ≤ s.pay.tenders.length then some .tenderFull
  else none

/-- PAY_CARD decided (R94, R159). -/
def State.decidePayCard (s : State) (rq : Req) (amount : Option Nat) : State :=
  s.whenNotClosing rq .payCard fun s =>
    match s.payCardRefusal amount with
    | some r => s.consoleRespond rq .payCard r
    | none =>
      let offer := min (amount.getD s.remainingDue) s.remainingDue
      let cap := offer * s.tables.payLimits.tipPercent / 100
      let index := s.pay.tenders.length + 1
      let trip := (s.meter.trip.map (·.number)).getD 0
      match s.offerRole .reader (.payOffer offer cap trip index) with
      | (s, true) =>
        (s.setSession ⟨.offered, offer, cap, index, false, false⟩).consoleRespond rq .payCard
          .accepted (.offer offer cap)
      | (s, false) => s.consoleRespond rq .payCard .busy

/-- The interlock tested; complete, the session becomes PRESENTED (R160). -/
def State.testInterlock (s : State) : State :=
  let x := s.pay.session
  if x.state = .offered ∧ x.offerAck ∧ (x.viewMatch ∨ s.available .paxDisplay = false) then
    (s.setSession { x with state := .presented }).trigger .offerPresented
  else s

/-- An OFFER_ACK taken (R160). -/
def State.takeOfferAck (s : State) (trip index : Nat) : State :=
  let x := s.pay.session
  if x.state = .offered ∧ some trip = s.meter.trip.map (·.number) ∧ index = x.index then
    (s.setSession { x with offerAck := true }).testInterlock
  else s.modCounters fun c => { c with ignoredAck := satInc max16 c.ignoredAck }

/-- A VIEW_ACK taken: kept by the meter controller, its fare value handed to the interlock (R115,
R160). -/
def State.takeViewAck (s : State) (seq fare : Nat) : State :=
  let s := { s with meter := { s.meter with lastAck := some (seq, fare) } }
  let x := s.pay.session
  if x.state = .offered then
    (if some fare = s.meter.snapshot then s.setSession { x with viewMatch := true } else s).testInterlock
  else s

/-- PAY_CANCEL decided (R94, R161). -/
def State.decidePayCancel (s : State) (rq : Req) : State :=
  s.whenNotClosing rq .payCancel fun s =>
    match s.meter.state, s.pay.session.state with
    | .pay, .offered | .pay, .presented =>
      let trip := (s.meter.trip.map (·.number)).getD 0
      let s :=
        match s.offerRole .reader (.payWithdraw trip s.pay.session.index) with
        | (s, true) => s
        | (s, false) => s.modCounters fun c => { c with replyOverflow := satInc max16 c.replyOverflow }
      s.endSession.consoleRespond rq .payCancel .accepted
    | .pay, .authWait => s.consoleRespond rq .payCancel .busy
    | _, _ => s.consoleRespond rq .payCancel .refusedState

/-! ### Cash (R162) -/

/-- The refusal of a CASH, if any (R162). -/
def State.cashRefusal (s : State) (amount : Nat) : Option ConsoleResult :=
  if s.meter.state ≠ .pay then some .refusedState
  else if s.pay.session.state ≠ .idle then some .busy
  else if amount = 0 then some .badValue
  else if s.remainingDue = 0 then some .nothingDue
  else if 6 ≤ s.pay.tenders.length then some .tenderFull
  else none

/-- A tender at the end of a list of fewer than 6 (R157). -/
def State.addTender (s : State) (t : Tender) : State :=
  if s.pay.tenders.length < 6 then { s with pay := { s.pay with tenders := s.pay.tenders ++ [t] } } else s

/-- CASH decided: the tender enters, its checkpoint is begun, the answer is given and the remaining due
reported (R94, R162, R163). DEDUCED, log entry 23: the answer comes before the report, with its views
and its close. -/
def State.decideCash (s : State) (rq : Req) (amount : Nat) : State :=
  s.whenNotClosing rq .cash fun s =>
    match s.cashRefusal amount with
    | some r => s.consoleRespond rq .cash r
    | none =>
      let a := min amount s.remainingDue
      let s :=
        (s.addTender ⟨s.pay.tenders.length + 1, a, 0, none, .cash, none, .none⟩).beginCheckpoint
      (s.consoleRespond rq .cash .accepted (.cash a s.remainingDue)).reportDue

/-! ### Authorization requests (R164, R165) -/

/-- A frame of a foreign source, or one that is counted as one (R164, R167). -/
def State.foreign (s : State) : State :=
  s.modCounters fun c => { c with foreignSource := satInc max16 c.foreignSource }

/-- A PAY_REQ stamped in PRESENTED (R165). DESIGN CHOICE, log entry 51: card data of more than 40 bytes is
forwarded as it came. -/
def State.stamp (s : State) (d : PayReq) : State :=
  let x := s.pay.session
  let s :=
    if d.claimed = x.offer then s
    else s.modCounters fun c => { c with amountMismatch := satInc max16 c.amountMismatch }
  let tip := min d.tip x.tipCap
  let ref : Ref := ⟨s.pay.epoch, (s.meter.trip.map (·.number)).getD 0, x.index⟩
  let s :=
    s.addTender
      ⟨x.index, x.offer, tip, some ⟨d.cardClass, ref, d.requestId, none⟩, .authWait, none, .none⟩
  if s.available .modem then
    let request : StampedReq :=
      ⟨ref, s.tripShift, x.offer, tip, d.cardClass, d.requestId, d.card⟩
    let s := { s with pay := { s.pay with held := some request } }
    (s.beginCheckpoint (some ref)).setSession { x with state := .authWait }
  else s.beginCheckpoint.decideOffline

/-- A PAY_REQ given to the payment controller (R164). DESIGN CHOICE, log entry 51: card data of more than 40
bytes is taken like any other. -/
def State.takePayReq (s : State) (src : NodeAddr) (d : PayReq) : State :=
  if s.holder .reader ≠ some src ∨ 3 < d.cardClass then s.foreign
  else
    match s.pay.session.state with
    | .idle => s.replyReader d.requestId .noSession
    | .offered => s.replyReader d.requestId .notReady
    | .presented => s.stamp d
    | .authWait => s.replyReader d.requestId .busy

/-- The held request of a completed checkpoint: offered to the front queue, which starts the timer, or
refused and decided offline (R165). -/
def State.releaseHeld (s : State) (ref : Ref) : State :=
  match s.pay.held with
  | none => s
  | some request =>
    if request.ref = ref then
      match s.offerRole .modem (.payReq request) with
      | (s, true) =>
        { s with pay := { s.pay with held := none, auth := .running s.tables.payLimits.authTime } }
      | (s, false) => s.decideOffline
    else s

/-! ### Authorization responses (R167, R171) -/

/-- The modem's decision of the session's tender (R167). DESIGN CHOICE, log entry 51: an authorization code of
more than 8 bytes is kept as it came. -/
def State.decideCurrent (s : State) (t : Tender) (f : CardFields) (approved : Bool)
    (code : List Byte) : State :=
  let f' := if approved then { f with authCode := some code } else f
  let t' :=
    if approved then { t with status := .approved, card := some f' }
    else { t with status := .declined, reason := some .issuer }
  let s := (s.modTender t.index fun _ => t').beginCheckpoint
  let s := { s with pay := { s.pay with auth := .stopped } }
  if approved then s.finishCard t' f' .approved .approved else s.finishCard t' f' .declined .declined

/-- The open trip's tender of a reference (R175). DEDUCED, log entry 29: during a close too. -/
def State.tripTender (s : State) (ref : Ref) : Option Tender :=
  if s.meter.trip.map (·.number) = some ref.trip then
    s.pay.tenders.find? fun t => t.card.map (·.ref) == some ref
  else none

/-- The open trip's tender of a reference, while the trip's close has not begun (R171). -/
def State.openTender (s : State) (ref : Ref) : Option Tender :=
  if s.meter.closing then none else s.tripTender ref

/-- A late dispute handed to the accounting unit (R187). -/
def State.lateDispute (s : State) (amount : Nat) : State :=
  let raise := fun (r : ShiftRecord) => { r with lateDispute := satAdd max48 r.lateDispute amount }
  if s.acct.shift.record.isSome then s.modShift raise
  else
    match s.acct.last with
    | some l =>
      let l := { l with record := raise l.record }
      State.begin { s with acct := { s.acct with last := some l } } (.lastShift l)
    | none => s

/-- A change of an open trip's tender by a late response or an acknowledgement, with its checkpoint
(R157). -/
def State.amendTender (s : State) (t : Option Tender) (f : Tender → Tender) : State :=
  match t with
  | some t => (s.modTender t.index f).beginCheckpoint
  | none => s

/-- The advice record of a late entry (R171, R172). -/
def State.lateAdvice (s : State) (e : LateEntry) (k : AdviceKind) : AdviceRecord :=
  ⟨k, e.ref, e.shift, e.amount, e.tip, e.cardClass, s.now, false⟩

/-- The advice state of a tender whose advice is offered to the queue (R171, R177). DEDUCED, log entry 29: a
record of the same reference. -/
def State.joinState (s : State) (ref : Ref) : AdviceState :=
  if s.canJoin ref then .queued else .notQueued

/-- A late response decided by its entry (R171). DESIGN CHOICE, log entry 51: an authorization code of more
than 8 bytes is kept as it came. -/
def State.decideLate (s : State) (e : LateEntry) (approved : Bool) (code : List Byte) : State :=
  let s := { s with pay := { s.pay with late := s.pay.late.filter (·.ref != e.ref) } }
  let t := s.openTender e.ref
  match e.accepted, approved with
  | true, true =>
    let s := s.amendTender t fun x =>
      { x with
        status := .approved
        card := x.card.map fun f => { f with authCode := some code }
        advice := if x.advice = .acknowledged then .acknowledged else .none }
    match s.findAdvice e.ref .offline with
    | some r => s.removeAdvice r
    | none => s
  | true, false =>
    let queued := s.findAdvice e.ref .offline
    let adv := if queued.isSome then AdviceState.queued else s.joinState e.ref
    let s := s.amendTender t fun x => { x with status := .offlineDisputed, advice := adv }
    let s :=
      match queued with
      | some r => s.disputeAdvice r
      | none => s.joinAdvice (s.lateAdvice e .disputed)
    if t.isSome then s else s.lateDispute e.amount
  | false, true =>
    let adv := s.joinState e.ref
    let s := s.amendTender t fun x => { x with advice := adv }
    s.joinAdvice (s.lateAdvice e .unclaimed)
  | false, false => s

/-- A PAY_RESP given to the payment controller (R167). -/
def State.takePayResp (s : State) (src : NodeAddr) (d : PayResp) : State :=
  if s.holder .modem ≠ some src ∨ d.result = .other then s.foreign
  else if d.ref.epoch ≠ s.pay.epoch then
    s.modCounters fun c => { c with staleResponse := satInc max16 c.staleResponse }
  else
    let approved := d.result == .approved
    let current :=
      if s.pay.session.state = .authWait then
        s.waitingTender.bind fun t => t.card.bind fun f => if f.ref = d.ref then some (t, f) else none
      else none
    match current with
    | some (t, f) => s.decideCurrent t f approved d.authCode
    | none =>
      match s.pay.late.find? (·.ref == d.ref) with
      | some e => s.decideLate e approved d.authCode
      | none =>
        s.modCounters fun c => { c with unmatchedResponse := satInc max16 c.unmatchedResponse }

/-- An ADVICE_ACK taken; the open trip's tender is ACKNOWLEDGED during its close too (R175). -/
def State.takeAdviceAck (s : State) (ref : Ref) (k : Option AdviceKind) : State :=
  match k.bind (s.findAdvice ref) with
  | some r =>
    (s.amendTender (s.tripTender ref) fun x => { x with advice := .acknowledged }).removeAdvice r
  | none =>
    s.modCounters fun c => { c with unmatchedAdviceAck := satInc max16 c.unmatchedAdviceAck }

/-! ### Availability (R160, R161, R165, R166) -/

/-- The READER node became LOST (R161). -/
def State.readerLost (s : State) : State :=
  match s.pay.session.state with
  | .offered | .presented => s.endSession
  | _ => s

/-- The MODEM node became LOST (R165, R166). -/
def State.modemLost (s : State) : State :=
  if s.pay.session.state = .authWait then s.decideOffline else s

/-- The authorization timer expires; in HOLDUP the expiry waits for the warm return (R166). -/
def State.authExpires (s : State) : State :=
  match s.pay.session.state, s.pay.auth with
  | .authWait, .running _ =>
    if s.power.state = .holdup then
      { s with pay := { s.pay with auth := .stopped, authExpired := true } }
    else s.decideOffline
  | _, _ => s

/-! ### Meanings -/

/-- VIEW_ACK. -/
def execViewAck (src : NodeAddr) (seq fare : Nat) (s : State) : Host.Outcome State Fault Refusal :=
  .next (s.whenFrom .paxDisplay src fun s => s.takeViewAck seq fare)

/-- PAY_CARD. -/
def execPayCard (rq : Req) (amount : Option Nat) (s : State) : Host.Outcome State Fault Refusal :=
  .next (s.whenConsole rq fun s => s.decidePayCard rq amount)

/-- OFFER_ACK. -/
def execOfferAck (src : NodeAddr) (trip index : Nat) (s : State) :
    Host.Outcome State Fault Refusal :=
  .next (s.whenFrom .reader src fun s => s.takeOfferAck trip index)

/-- PAY_CANCEL. -/
def execPayCancel (rq : Req) (s : State) : Host.Outcome State Fault Refusal :=
  .next (s.whenConsole rq fun s => s.decidePayCancel rq)

/-- CASH. -/
def execCash (rq : Req) (amount : Nat) (s : State) : Host.Outcome State Fault Refusal :=
  .next (s.whenConsole rq fun s => s.decideCash rq amount)

/-- AUTH_TIMER_EXPIRY. -/
def execAuthTimerExpiry (s : State) : Host.Outcome State Fault Refusal :=
  .next (s.whenPowered State.authExpires)

/-- ADVICE_ACK_TIMEOUT: the in-flight mark is cleared, and a resend is tried (R174). -/
def execAdviceAckTimeout (s : State) : Host.Outcome State Fault Refusal :=
  .next (s.whenPowered fun s =>
    match s.pay.ackTimer with
    | .running _ =>
      State.tryAdvice
        { s with
          pay :=
            { s.pay with
              advice := s.pay.advice.map fun r => { r with inFlight := false }
              ackTimer := .stopped } }
    | .stopped => s)

/-- ADVICE_ACK. -/
def execAdviceAck (src : NodeAddr) (ref : Ref) (k : Option AdviceKind) (s : State) :
    Host.Outcome State Fault Refusal :=
  .next (s.whenFrom .modem src fun s => s.takeAdviceAck ref k)

end Sys2Proof.Machine
end

