-- ==== Sys2Proof/Machine/Power.lean ====
section
/-! DEFINITION. Supply loss, parking and restart (chapter 11): stopping and starting the ports, PARKED and
HOLDUP, the end of a speaker test and of a trip close, warm return, wake and the start-up sequence; the
codec frame. -/

namespace Sys2Proof.Machine

open Sys2Proof

/-! ### What follows a change of presence (R8) -/

/-- The load window closes when its holder's node becomes LOST or its role entry NONE (R31). -/
def State.watchHolder (old s : State) : State :=
  match s.mgmt.window with
  | some w =>
    let lost := s.presence w.holder == .lost && old.presence w.holder != .lost
    let gone := old.configured w.holder && !s.configured w.holder
    if lost || gone then { s with mgmt := { s.mgmt with window := none } } else s
  | none => s

/-- A destination newly available has its mark set and its view tried (R112). -/
def State.viewAvailable (old s : State) (d : ViewDest) : State :=
  if s.available (viewRole d) && !old.available (viewRole d) then
    (s.modView d fun v => { v with mark := true }).tryView d
  else s

/-- The role's node has newly become LOST. -/
def newlyLost (old s : State) (r : Role) : Bool :=
  s.rolePresence r == .lost && old.rolePresence r != .lost

/-- The blocks that follow a role's availability act on a change from `old` to `s` (R8): the load window
(R31), the notice queue (R39), the views (R112), the interlock (R160), the monitor (R149), the advice
sender (R174), the tender (R165, R166) and the offer (R161). DESIGN CHOICE, log entry 41: in this order. -/
def State.followPresence (old s : State) : State :=
  let new := s
  let s := old.watchHolder s
  let s :=
    if old.rolePresence .console ≠ new.rolePresence .console
        ∨ old.rolePresence .modem ≠ new.rolePresence .modem then s.drain
    else s
  let s := old.viewAvailable s .console
  let s := old.viewAvailable s .paxDisplay
  let s :=
    if old.available .paxDisplay ≠ new.available .paxDisplay then s.testInterlock else s
  let s :=
    if new.available .modem && !old.available .modem then s.monitorResume.tryAdvice
    else if old.available .modem && !new.available .modem then s.monitorPause
    else s
  let s := if newlyLost old new .modem then s.modemLost else s
  if newlyLost old new .reader then s.readerLost else s

/-! ### Stopping and starting the ports (R21, R22) -/

/-- A port stopped; the frame being sent is cut off (HOLDUP) or sent to its end (PARKED) (R21). DEDUCED, log
entry 27: the frame being sent at a stop. -/
def PortState.stop (p : PortState) (cut : Bool) : PortState :=
  { p with
    running := false, mode := .normal, loopTimer := 0, loopWanted := false, loopLeaving := false
    echo := none, exchange := none, rx := .waiting, queue := []
    sending := if cut then none else p.sending.map fun x => { x with queued := false } }

/-- Both ports stopped and their queues emptied (R21). -/
def State.stopPorts (s : State) (cut : Bool) : State :=
  { s with
    link :=
      { s.link with front := s.link.front.stop cut, rear := s.link.rear.stop cut, monitor := [] } }

/-- A port started again by a warm return or a wake (R22). -/
def PortState.restart (p : PortState) (roles : List RoleEntry) : PortState :=
  { p with running := true, pointer := 7, nodes := roles.map .start }

/-- The attempts that blocks take at a port's start (R39, R113, R174). DESIGN CHOICE, log entry 41: in this
order. -/
def State.portsStarted (s : State) : State :=
  ((s.drain.tryView .console).tryView .paxDisplay).tryAdvice

/-- Both ports start with their nodes PROBING (R22). -/
def State.restartPorts (s : State) : State :=
  let s' :=
    { s with
      link :=
        { s.link with
          front := s.link.front.restart s.tables.roles.front
          rear := s.link.rear.restart s.tables.roles.rear } }
  (s.followPresence s').portsStarted

/-! ### PARKED (R204, R205) -/

/-- The park delay timer started if the ignition is off (R203, R206, R210). -/
def State.startPark (s : State) : State :=
  { s with
    power :=
      { s.power with
        park := if s.pins.ignition then .stopped else .running s.tables.power.parkDelay } }

/-- The conditions for PARKED entry (R204). -/
def State.mayPark (s : State) : Bool :=
  s.power.state == .run && (s.meter.state == .offDuty || s.meter.state == .vacant)
    && s.pay.session.state == .idle && s.intercom.test.isNone

/-- Neither hold-off timer runs and no view acknowledgement is kept (R117). -/
def State.resetViews (s : State) : State :=
  { s with
    meter :=
      { s.meter with
        console := { s.meter.console with holdoff := false }
        pax := { s.meter.pax with holdoff := false }
        lastAck := none } }

/-- The views after a return or a wake: both marks set, no hold-off and no acknowledgement (R117). -/
def State.renewViews (s : State) : State := s.resetViews.setMarks

/-- Entry to PARKED (R205). -/
def State.enterParked (s : State) : State :=
  let s :=
    { s with
      power :=
        { s.power with state := .parked, park := .stopped, wake := ⟨[], some s.now, none⟩ } }
  let s := (s.beginCheckpoint.stopPorts false).stopIntercom .stopped
  s.endTest.recompose.resetViews

/-- In WAITING, PARKED is entered at the first event that makes the conditions hold (R204). DEDUCED, log
entry 26: when WAITING is looked at again. -/
def State.parkCheck (s : State) : State :=
  if s.power.park = .waiting ∧ s.pins.ignition = false ∧ s.mayPark then s.enterParked else s

/-- The end of a speaker test whose tone has been made; a waiting park delay then looks again (R152, R204). -/
def State.takeTestEnd (s : State) : State :=
  if s.intercom.test.any (·.toneMade) then s.measureTest.parkCheck else s

/-! ### HOLDUP (R201) -/

/-- Entry to HOLDUP (R201). DEDUCED, log entry 26: the order of the entry. -/
def State.enterHoldup (s : State) : State :=
  let s :=
    { s with
      power :=
        { s.power with state := .holdup, lowCount := 0, progress := .writing, park := .stopped } }
  let s := (s.stopPorts true).modShift fun x => { x with interruptions := satInc max16 x.interruptions }
  let s := s.offerNotice (.supplyLow s.power.sample s.tables.power.low)
  let s := s.beginSave .freshHoldup
  let s := { s with distance := { s.distance with running := false, count := 0 } }
  let s := State.recompose { s with sign := { s.sign with test := none, hold := .released } }
  s.stopIntercom .muted

/-! ### Metrology applications and the end of a close (R34, R109) -/

/-- The next copy a close applies: CALIBRATION before TARIFF_SET (R34, R109). -/
def PendingSlot.nextCopy (p : PendingSlot) : Option Staged :=
  match p.calibration, p.tariffSet with
  | some c, _ => some (.calibration c)
  | none, some t => some (.tariffSet t)
  | none, none => none

/-- An application's store update begun, METROLOGY_EVENTS increased by one (R34). DEDUCED, log entry 25: the
counter rises when the application is begun. -/
def State.beginApplication (s : State) (st : Staged) (o : AppOrigin) : State :=
  let totals := { s.acct.totals with metrology := satInc max32 s.acct.totals.metrology }
  let s := { s with acct := { s.acct with totals } }
  s.begin
    (.application st ⟨totals.metrology, s.now, s.time.backup.timeInvalid⟩ s.acct.totalsNow s.now o)

/-- Step 4 of a close: the release (R109). -/
def State.releaseClose (s : State) : State :=
  let number := (s.meter.trip.map (·.number)).getD s.meter.lastClosed
  let s :=
    { s with
      engine := .idle
      pay := { s.pay with tenders := [] }
      meter :=
        { s.meter with
          closing := false, stage := .none, trip := none, snapshot := none, lastClosed := number } }
  let s := s.setMeterState (if s.acct.shift.limitSet then .offDuty else .vacant)
  (s.trigger .tripClosed).parkCheck

/-- Step 3 of a close: the next waiting copy is applied, or the meter released (R109). -/
def State.goOnClose (s : State) : State :=
  match s.mgmt.slot.nextCopy with
  | some st =>
    State.beginApplication { s with meter := { s.meter with stage := .applying } } st .close
  | none => s.releaseClose

/-- A close goes on from the step it has reached; in HOLDUP it waits for the warm return (R110). DEDUCED,
log entry 26: a close goes on outside HOLDUP. -/
def State.continueClose (s : State) : State :=
  if s.power.state = .holdup then { s with meter := { s.meter with stage := .goOn } }
  else s.goOnClose

/-- The notices of the trip log after a close (R191). -/
def State.logNotices (s : State) : State :=
  let l := unreported s.acct.reportedThrough s.store.log
  let oldest := ((l.head?).map (·.number)).getD 0
  if l.length = 56 then s.offerNotice (.logNearFull 56 oldest)
  else if l.length = 64 then s.offerNotice (.logFull oldest)
  else s

/-- The close update has completed: the contributions are merged, the log is looked at, and the close
goes on (R186, R191, R109). -/
def State.closeStored (s : State) : State :=
  let s :=
    { s with
      acct := { s.acct with shift := s.acct.shiftNow, totals := s.acct.totalsNow, entry := none } }
  s.logNotices.continueClose

/-- The working slot at the completion of an application: the applied copy is removed if it came from there
(R34). One that ABORT_LOAD has withdrawn since, whose removal still waits in the store, has left the slot
already, and a copy that stands there now came after it (R31, R33). -/
def State.slotApplied (s : State) (st : Staged) (o : AppOrigin) : PendingSlot :=
  if .slotRemove st.isTariff ∈ s.writes then s.mgmt.slot else s.mgmt.slot.applied st o

/-- What an application's completion does before the calendar and the distance input are told (R34). -/
def State.putInForce (s : State) (st : Staged) (app : AppRecord) (o : AppOrigin) : State :=
  let s :=
    { s with
      mgmt :=
        { s.mgmt with metrology := s.mgmt.metrology.put st app, slot := s.slotApplied st o } }
  match st with
  | .tariffSet t => s.offerNotice (.tariffApplied app.counter t.general.version)
  | .calibration _ => s.offerNotice (.calibrationApplied app.counter)

/-- The trim of an applied calibration, handed to the prescaler for the next meter interval event (R43). -/
def State.handTrim (s : State) : Staged → State
  | .tariffSet _ => s
  | .calibration c => { s with time := { s.time with newTrim := some c.trim } }

/-- An application's store update has completed (R34). -/
def State.applicationStored (s : State) (st : Staged) (app : AppRecord) (o : AppOrigin) : State :=
  let s :=
    match o with
    | .commit rq t => s.mgmtRespond rq .commit t .ok
    | .close => s
  let s := s.putInForce st app o
  let s :=
    match st with
    | .tariffSet _ => s.evaluateBand
    | .calibration c => State.handTrim { s with distance := { s.distance with incoming := some c } } st
  match o with
  | .commit .. => s
  | .close => s.continueClose

/-! ### Warm return (R203) -/

/-- The distance input restarts with the filter READY (R65). -/
def State.restartDistance (s : State) : State :=
  { s with distance := { s.distance with running := true, holdoff := none, count := 0 } }

/-- A closed emergency switch is taken as a closure at a return or start-up (R132). -/
def State.takeSwitch (s : State) : State := if s.pins.emergencyClosed then s.holdClose else s

/-- Warm return from HOLDUP (R203). DESIGN CHOICE, log entry 50: the order of the blocks. -/
def State.warmReturn (s : State) : State :=
  let s := { s with power := { s.power with state := .run, progress := .none } }
  let s := s.begin .markConsumed
  let s :=
    if s.meter.stage = .none then
      s.modTrip fun r => { r with flags := { r.flags with supplyDip := true } }
    else s
  let s := s.beginCheckpoint.startPark
  let s :=
    if s.pay.authExpired then
      State.decideOffline { s with pay := { s.pay with authExpired := false } }
    else s
  let s := s.renewViews.restartPorts.restartDistance
  let s := (s.startIntercom s.intercom.drops).recompose.takeSwitch
  if s.meter.stage = .goOn then s.goOnClose else s

/-! ### Wake (R206) -/

/-- A wake source taken: in PARKED it joins the wake record and the part wakes, to RUN or to HOLDUP, with both
views marked (R206, R117). DEDUCED, log entry 27: a burst, and a wake below RESTORE. -/
def State.wakeBy (s : State) (src : WakeSource) : State :=
  if s.power.state = .parked then
    let w := s.power.wake
    let s :=
      { s with
        power :=
          { s.power with wake := { w with sources := w.sources ++ [(src, s.now)], woken := some s.now } } }
    let s := s.renewViews
    if s.power.sample < s.tables.power.restore then s.enterHoldup
    else
      let s := State.beginCheckpoint { s with power := { s.power with state := .run } }
      let s := s.offerNotice (.wake (s.power.wake.sources.map (·.1)))
      let s := s.restartPorts
      (s.startIntercom s.intercom.drops).recompose.startPark
  else s

/-! ### Start-up (R209 to R211) -/

/-- The record a start-up restores from, by its cause and the mark; `true` is the holdup save (R209). -/
def Store.fromSave (st : Store) (cause : Cause) : Bool :=
  cause != .pin && st.mark != .consumed && !st.checkpointLater

/-- The record a start-up restores from (R209). -/
def Store.source (st : Store) (cause : Cause) : SaveRecord :=
  if st.fromSave cause then st.save else st.checkpoint

/-- The cause of a cold start, by the mark (R209). -/
def Store.coldCause (st : Store) : Cause :=
  if st.mark = .freshHoldup then .coldAfterHoldup else .cold

/-- A trip already stands in the log (R209). -/
def Store.logged (st : Store) (t : SavedTrip) : Bool := st.log.any (·.number == t.record.number)

/-- The trip a record restores; none when it is already in the log (R209). -/
def Store.restorable (st : Store) (r : SaveRecord) : Option SavedTrip :=
  r.trip.bind fun t => if st.logged t then none else some t

/-- The outage since a record's time (R211). A counter further below it than 120 s gives an outage beyond
the limit, of no stated length (log entry 11). -/
def outage (recordTime now limit : Nat) : Nat :=
  if recordTime ≤ now then now - recordTime
  else if recordTime ≤ now + 120 then 0
  else limit * 60 + 1 + Config.outageBelow recordTime now

/-- The state a restored trip stands in (R211). DEDUCED, log entry 37: a close that was cut. -/
def restoredState (saved : MeterState) (timeInvalid : Bool) (out limit : Nat) : MeterState :=
  if saved = .hired ∧ timeInvalid = false ∧ out ≤ limit * 60 then .hired else .pay

/-- The state of a meter restored without a trip (R117, R198). -/
def idleState (saved : MeterState) (shift : ShiftHold) : MeterState :=
  if shift.record.isNone ∨ shift.limitSet then .offDuty
  else if saved = .offDuty then .offDuty else .vacant

/-- The notices that open a start-up (R210, R41). -/
def State.startNotices (s : State) (cause : Cause) : State :=
  let s := s.offerNotice (.restarted cause s.pay.epoch)
  let s := if s.time.backup.timeInvalid then s.offerNotice .timeInvalid else s
  if s.pins.metrologyOpen then s.offerNotice .metrologyOpen else s

/-- The accounting unit after a start-up: from the store, or at a pin reset with its kept working record
and the stored totalizers (R197). -/
def Accounting.restored (a : Accounting) (st : Store) (cause : Cause) (lostClose : Bool) : Accounting :=
  match cause with
  | .pin =>
    { a with
      entry := none, totals := st.totals, reportedThrough := st.reportedThrough
      unwritten := a.unwritten || lostClose }
  | _ =>
    { shift := st.shift
      lastNumber := max st.lastNumber ((st.shift.record.map (·.number)).getD 0)
      last := st.last
      entry := none
      unwritten := false
      reportedThrough := st.reportedThrough
      totals := st.totals }

/-- Step 1 of R210, over the values that every start-up gives the blocks (R22, R35, R41, R55, R67, R117,
R135, R155, R178, R213). The blocks stand still until step 7. DEDUCED, log entry 36: the backup domain is
powered again here. -/
def State.startBase (s : State) (cause : Cause) (lostClose : Bool) : State :=
  let st := { s.store with epoch := (s.store.epoch + 1) % 256 }
  let roles := st.tables.roles
  State.startNotices
    { s with
      store := st
      tables := st.tables
      link :=
        { Link.start roles with
          front := { PortState.start roles.front with running := false }
          rear := { PortState.start roles.rear with running := false } }
      mgmt := ⟨none, st.metrology, st.slot⟩
      notices := ⟨[], 0, 0⟩
      time :=
        { backup := { s.time.backup with alive := true }, newTrim := none
          band := s.time.backup.keptBand, staged := none }
      distance := { Distance.start st.metrology.calibration with running := false }
      engine := .idle
      meter :=
        { state := .offDuty, closing := false, stage := .none, trip := none, snapshot := none
          correction := 0, lastAssigned := max st.lastAssigned (newestTrip st.log)
          lastClosed := newestTrip st.log, console := .start, pax := .start, lastAck := none }
      sign :=
        { lamps := List.replicate 6 .start, test := none, ambient := s.sign.ambient
          emergency := (st.source cause).emergency, hold := .released }
      intercom := { Intercom.start with run := .stopped }
      pay :=
        { session := .idle, tenders := [], late := [], auth := .stopped, authExpired := false
          held := none, advice := st.advice, ackTimer := .stopped, epoch := st.epoch
          counters := .zero }
      acct := s.acct.restored st cause lostClose
      power :=
        { s.power with
          state := .off, lowCount := 0, progress := .none, park := .stopped, wake := .clear
          checkpoint := .stopped } }
    cause

/-- The totalizer POWER_INTERRUPTS raised and written by a cold start after a HOLDUP (R209, R195). DESIGN
CHOICE, log entry 55: the place of this in the start-up. -/
def State.countInterrupt (s : State) (cause : Cause) : State :=
  if cause = .coldAfterHoldup then
    let totals :=
      { s.acct.totals with powerInterrupts := satInc max32 s.acct.totals.powerInterrupts }
    let s := { s with acct := { s.acct with totals } }
    s.beginCarrying (.totals s.acct.carry s.acct.totalsNow s.now)
  else s

/-- A copy in the pending commit slot applied within the start-up; the writes begun before it complete
first (R35, R34). -/
def State.applyPending (s : State) : State :=
  match s.mgmt.slot.nextCopy with
  | none => s
  | some st =>
    let s := ((s.beginApplication st .close).flushWrites).handTrim st
    s.putInForce st
      ⟨s.acct.totals.metrology, s.now, s.time.backup.timeInvalid⟩ .close

/-- The engine of a restored trip, its constants computed anew (R92, R73). -/
def State.restoredEngine (s : State) (t : SavedTrip) (m : MeterState) : Engine :=
  let e : Engine :=
    { Engine.idle with
      mode := if m = .hired then .running else .held, active := t.active, pa := t.pa, fs := t.fs }
  match t.active.bind s.tariff with
  | some tar => e.withConstants tar s.mgmt.metrology.calibration.k
  | none => e

/-- Step 3 of R210: the restored trip and its state, or the stored state and any pending metrology. -/
def State.restoreTrip (s : State) (rec : SaveRecord) : State :=
  let limit := s.mgmt.metrology.tariffSet.general.resumeLimit
  match s.store.restorable rec with
  | some t =>
    let m :=
      restoredState rec.meter (rec.timeInvalid || s.time.backup.timeInvalid)
        (outage rec.time s.now limit) limit
    let r :=
      { t.record with tenders := [], flags := { t.record.flags with powerInterrupted := true } }
    { s with
      engine := s.restoredEngine t m
      meter :=
        { s.meter with
          state := m, trip := some r, snapshot := if m = .pay then some r.fare else none } }
  | none =>
    let s := { s with meter := { s.meter with state := idleState rec.meter s.acct.shift } }
    s.applyPending.applyPending

/-- A tender restored in AUTH_WAIT becomes IN_DOUBT, with its checkpoint and its advice (R177). -/
def State.doubtTender (s : State) (t : Tender) : State :=
  match t.status, t.card with
  | .authWait, some f =>
    let s :=
      (s.modTender t.index fun x =>
        { x with status := .inDoubt, advice := s.joinState f.ref }).beginCheckpoint
    s.joinAdvice ⟨.inDoubt, f.ref, s.tripShift, t.amount, t.tip, f.cardClass, s.now, false⟩
  | _, _ => s

/-- The tender list taken from the saved copy (R177). -/
def State.restoreTenders (s : State) (rec : SaveRecord) : State :=
  match s.store.restorable rec with
  | some t =>
    let l := t.record.tenders
    l.foldl State.doubtTender { s with pay := { s.pay with tenders := l } }
  | none => s

/-- The shift has reached its limit with SHIFT_LIMIT clear (R183). DEDUCED, log entry 9: the row acts at the
limit only. -/
def State.limitReached (s : State) : Bool :=
  match s.acct.shift.record with
  | some r => !s.acct.shift.limitSet && r.limit != 0 && decide (r.limit * 60 ≤ r.elapsed)
  | none => false

/-- SHIFT_LIMIT set, noticed, told to the meter and prompted: steps 1 to 4 of R183. -/
def State.setLimit (s : State) : State :=
  match s.acct.shift.record with
  | some r =>
    let s := { s with acct := { s.acct with shift := { s.acct.shift with limitSet := true } } }
    ((s.offerNotice (.shiftLimit r.number r.elapsed)).limitTold).trigger .shiftLimit
  | none => s

/-- The accounting unit's work at step 5 of R210 (R183, R185). -/
def State.restoreShift (s : State) (cause : Cause) : State :=
  let s := if s.limitReached then s.setLimit else s
  if cause = .pin ∨ cause = .cold then
    s.modShift fun x => { x with interruptions := satInc max16 x.interruptions }
  else s

/-- The restart cause record (R212). DESIGN CHOICE, log entry 56: its outage where no trip is restored. -/
def State.causeRecord (s : State) (cause : Cause) (fromSave : Bool) (rec : SaveRecord)
    (restored : Option SavedTrip) (start : MeterState) : CauseRecord where
  cause := cause
  epoch := s.pay.epoch
  time := s.now
  fromSave := fromSave
  recordTime := rec.time
  outage := outage rec.time s.now s.mgmt.metrology.tariffSet.general.resumeLimit
  trip := (restored.map (·.record.number)).getD 0
  outcome :=
    match restored, rec.trip with
    | some _, _ => if start = .hired then .hired else .pay
    | none, some _ => .logged
    | none, none => .none

/-- Step 6 of R210: the mark, the restart cause record and a checkpoint. -/
def State.startWrites (s : State) (c : CauseRecord) : State :=
  let s := if s.store.mark = .consumed then s else s.begin .markConsumed
  (s.begin (.cause c)).beginCheckpoint

/-- Step 7 of R210: the blocks start. DEDUCED, log entry 36: the trim count is kept. DESIGN CHOICE, log
entry 44: the candidate ambient level. -/
def State.startBlocks (s : State) (ambient : Nat) : State :=
  let level := indicated s.tables.brightness ambient
  let c := s.mgmt.metrology.calibration
  let timer : Timer := if s.meter.state = .hired then .running 60 else .stopped
  let s :=
    { s with
      power := { s.power with state := .run, checkpoint := timer }
      link :=
        { s.link with
          front := { s.link.front with running := true }, rear := { s.link.rear with running := true } }
      distance := .start c
      time := { s.time with backup := { s.time.backup with trim := c.trim } }
      sign := { s.sign with lamps := List.replicate 6 .start, ambient := ⟨level, ambient, level, 0⟩ } }
  (s.startIntercom 0).recompose.takeSwitch.startPark.portsStarted

/-- A start-up with its cause, once the stores have been read (R210). DEDUCED, log entry 24: a start-up is
one step. DESIGN CHOICE, log entry 55: POWER_INTERRUPTS is raised, and its write begun, before step 3. -/
def State.startUp (s : State) (cause : Cause) (lostClose : Bool) (ambient : Nat) : State :=
  let fromSave := s.store.fromSave cause
  let rec_ := s.store.source cause
  let s := ((s.startBase cause lostClose).countInterrupt cause).restoreTrip rec_
  let c := s.causeRecord cause fromSave rec_ (s.store.restorable rec_) s.meter.state
  let s := ((s.evaluateBand).restoreTenders rec_).restoreShift cause
  (s.startWrites c).startBlocks ambient

/-! ### The supply (R200) -/

/-- HOLDUP ends by warm return when the save is complete and the last sample stands at RESTORE (R203). -/
def State.tryWarmReturn (s : State) : State :=
  if s.power.state = .holdup ∧ s.power.progress = .complete
      ∧ s.tables.power.restore ≤ s.power.sample then s.warmReturn
  else s

/-- A supply sample of a powered part (R200, R203). -/
def State.takeSample (s : State) (x : Nat) : State :=
  let s := { s with power := { s.power with sample := x } }
  if s.power.state = .holdup then s.tryWarmReturn
  else if x < s.tables.power.low then
    if 3 ≤ s.power.lowCount + 1 then s.enterHoldup
    else { s with power := { s.power with lowCount := s.power.lowCount + 1 } }
  else { s with power := { s.power with lowCount := 0 } }

/-- The part stops with its supply (R203): writes not completed are lost, nothing runs. -/
def State.loseSupply (s : State) : State :=
  let s := s.cutWrites.1.stopPorts true
  State.recompose
    { s with
      power := { s.power with state := .off }
      distance := { s.distance with running := false }
      intercom := { Intercom.start with run := .stopped } }

/-! ### Meanings -/

/-- CLOSE_UPDATE_COMPLETE. -/
def execCloseUpdateComplete (s : State) : Host.Outcome State Fault Refusal :=
  .next (s.whenPowered fun s =>
    match s.takeWrite fun w => match w with | .closeUpdate .. => true | _ => false with
    | some (_, s') => s'.closeStored
    | none => s)

/-- APPLICATION_COMPLETE. -/
def execApplicationComplete (s : State) : Host.Outcome State Fault Refusal :=
  .next (s.whenPowered fun s =>
    match s.takeWrite (·.isApplication) with
    | some (.application st app _ _ o, s') => s'.applicationStored st app o
    | _ => s)

/-- CODEC_FRAME: the end of a speaker test whose tone has been made, then the frame's samples (R136, R138,
R152). DEDUCED, log entry 15: in RUNNING a test's end that has not been taken comes first. -/
def execCodecFrame (drv pax : BitVec 16) (s : State) : Host.Outcome State Fault Refusal :=
  let s := if s.intercom.run = .running then s.takeTestEnd else s
  .next (s.exchangeFrame drv.toInt pax.toInt)

/-- SPEAKER_TEST_END: the tone's last sample has been made, and the measurement is answered (R152). DEDUCED,
log entries 9 and 15: the row acts once the tone has been made and its end has not been taken. -/
def execSpeakerTestEnd (s : State) : Host.Outcome State Fault Refusal :=
  .next (s.whenPowered State.takeTestEnd)

/-- SUPPLY_SAMPLE. -/
def execSupplySample (x : Nat) (s : State) : Host.Outcome State Fault Refusal :=
  .next (s.whenPowered fun s => s.takeSample x)

/-- HOLDUP_SAVE_COMPLETE. -/
def execHoldupSaveComplete (s : State) : Host.Outcome State Fault Refusal :=
  .next (s.whenPowered fun s =>
    match s.takeWrite fun w => match w with | .save .freshHoldup .. => true | _ => false with
    | some (_, s') =>
      State.tryWarmReturn { s' with power := { s'.power with progress := .complete } }
    | none => s)

/-- SUPPLY_GONE. -/
def execSupplyGone (s : State) : Host.Outcome State Fault Refusal :=
  .next (s.whenPowered State.loseSupply)

/-- IGNITION_OFF: in RUN the park delay timer starts (R204). DESIGN CHOICE, log entry 57: in RESTARTING the
pin alone changes. -/
def execIgnitionOff (s : State) : Host.Outcome State Fault Refusal :=
  let s' := { s with pins := { s.pins with ignition := false } }
  .next (if s.power.state = .run ∧ s.power.park = .stopped ∧ s.pins.ignition then s'.startPark else s')

/-- IGNITION_ON: the park delay timer stops, or the part wakes from PARKED (R204, R206). -/
def execIgnitionOn (s : State) : Host.Outcome State Fault Refusal :=
  let s' := { s with pins := { s.pins with ignition := true } }
  .next
    (if s.power.state = .run then { s' with power := { s'.power with park := .stopped } }
     else if s.pins.ignition then s'
     else s'.wakeBy .ignition)

/-- PARK_DELAY_EXPIRY: PARKED is entered, or the timer goes to WAITING (R204). -/
def execParkDelayExpiry (s : State) : Host.Outcome State Fault Refusal :=
  .next (s.whenPowered fun s =>
    match s.power.park with
    | .running _ =>
      if s.mayPark then s.enterParked
      else { s with power := { s.power with park := .waiting } }
    | _ => s)

/-- CHECKPOINT_TIMER_EXPIRY: a checkpoint is begun and the timer restarts (R207). -/
def execCheckpointTimerExpiry (s : State) : Host.Outcome State Fault Refusal :=
  .next (s.whenPowered fun s =>
    match s.power.checkpoint with
    | .running _ => if s.power.state = .run then s.beginCheckpoint else s
    | .stopped => s)

/-- CHECKPOINT_COMPLETE: a held authorization request is released by its own checkpoint (R207, R165). -/
def execCheckpointComplete (s : State) : Host.Outcome State Fault Refusal :=
  .next (s.whenPowered fun s =>
    match s.takeWrite fun w => match w with | .checkpoint .. => true | _ => false with
    | some (.checkpoint _ _ _ _ (some ref), s') => s'.releaseHeld ref
    | some (_, s') => s'
    | none => s)

/-- RESTART decided (R208). -/
def State.decideRestart (s : State) (rq : Req) : State :=
  s.whenAllowed rq .restart .none true fun s =>
    if s.meter.state = .hired ∨ s.meter.state = .pay then
      s.mgmtRespond rq .restart .none .refusedState
    else if s.power.state = .restarting then s.mgmtRespond rq .restart .none .busy
    else
      let s := { s with power := { s.power with state := .restarting, park := .stopped } }
      (s.mgmtRespond rq .restart .none .ok).beginSave .freshRequest

/-- RESTART. -/
def execRestart (rq : Req) (s : State) : Host.Outcome State Fault Refusal :=
  .next (s.whenMgmt rq fun s => s.decideRestart rq)

/-- RESTART_SAVE_COMPLETE: the start-up with cause REQUEST; the writes begun after the save complete
first (R208, R209, R36). -/
def execRestartSaveComplete (ambient : Nat) (s : State) : Host.Outcome State Fault Refusal :=
  .next (s.whenPowered fun s =>
    if s.power.state = .restarting then
      match s.takeWrite fun w => match w with | .save .freshRequest .. => true | _ => false with
      | some (_, s') => s'.flushWrites.startUp .request false ambient
      | none => s
    else s)

/-- COLD_START: power-up at the first sample at or above RESTORE (R200, R209). -/
def execColdStart (sample ambient : Nat) (s : State) : Host.Outcome State Fault Refusal :=
  .next
    (if s.power.state = .off ∧ s.store.tables.power.restore ≤ sample then
      State.startUp { s with power := { s.power with sample } } s.store.coldCause false ambient
     else s)

/-- PIN_RESET: the writes in progress are cut, and a start-up with cause PIN follows (R36, R209). -/
def execPinReset (ambient : Nat) (s : State) : Host.Outcome State Fault Refusal :=
  .next (s.whenPowered fun s =>
    match s.cutWrites with
    | (s, lostClose) => s.startUp .pin lostClose ambient)

end Sys2Proof.Machine
end

