-- ==== Sys2Proof/Machine/Accounting.lean ====
section
/-! DEFINITION. The commands of the accounting unit (chapter 10): opening and closing a shift, its limit,
and the acknowledgement of trips. -/

namespace Sys2Proof.Machine

open Sys2Proof

/-! ### Opening and closing (R180, R181) -/

/-- The refusal of a SHIFT_OPEN by checks 2 to 4 (R180). DESIGN CHOICE, log entry 51: a driver number above
65,535 fails check 2. -/
def State.shiftOpenRefusal (s : State) (driver : Nat) : Option ConsoleResult :=
  if driver = 0 ∨ max16 < driver then some .badValue
  else if s.meter.state ≠ .offDuty then some .refusedState
  else if s.acct.shift.record.isSome then some .refusedState
  else none

/-- A shift record as SHIFT_OPEN leaves it (R180, R184). -/
def ShiftRecord.opening (number driver limit opened : Nat) : ShiftRecord where
  number := number
  driver := driver
  limit := limit
  opened := opened
  closed := 0
  elapsed := 0
  hiredDs := 0
  trips := 0
  unpaidTrips := 0
  hiredM := 0
  unhiredM := 0
  fares := 0
  extras := 0
  card := 0
  offline := 0
  cash := 0
  tips := 0
  unpaid := 0
  lateDispute := 0
  pendingAdvice := 0
  interruptions := 0
  emergencies := 0

/-- A shift opened and its store update begun (R180). -/
def State.openShift (s : State) (rq : Req) (driver : Nat) : State :=
  let number := count32 (s.acct.lastNumber + 1)
  let r := ShiftRecord.opening number driver s.tables.power.shiftLimit s.now
  let s := { s with acct := { s.acct with lastNumber := number, shift := ⟨some r, false⟩ } }
  s.beginCarrying (.shiftOpen s.acct.carry rq number)

/-- SHIFT_OPEN decided; the answer follows its store update (R180). -/
def State.decideShiftOpen (s : State) (rq : Req) (driver : Nat) : State :=
  s.whenRun rq .shiftOpen fun s =>
    match s.shiftOpenRefusal driver with
    | some r => s.consoleRespond rq .shiftOpen r
    | none => s.openShift rq driver

/-- The open record closed into the last shift record, and the store update begun (R181). -/
def State.closeShift (s : State) (rq : Req) : State :=
  let s := if s.meter.state = .vacant then s.setMeterState .offDuty else s
  match s.acct.shift.record with
  | none => s
  | some r =>
    let l : LastShift :=
      ⟨{ r with closed := s.now, pendingAdvice := s.pay.advice.length }, .notSent, .notSent⟩
    let s := { s with acct := { s.acct with shift := .none, last := some l } }
    s.beginCarrying
      (.shiftClose ⟨.none, s.acct.lastNumber, some l, false⟩ s.acct.totalsNow s.now rq r.number)

/-- SHIFT_CLOSE decided; the answer follows its store update (R181). -/
def State.decideShiftClose (s : State) (rq : Req) : State :=
  s.whenRun rq .shiftClose fun s =>
    if s.acct.shift.record.isNone then s.consoleRespond rq .shiftClose .noShift
    else if s.meter.state = .hired ∨ s.meter.state = .pay then
      s.consoleRespond rq .shiftClose .refusedState
    else s.closeShift rq

/-! ### Acknowledging trips (R192) -/

/-- An ACK_TRIPS number clamped to the log (R192). -/
def State.clampAck (s : State) (n : Nat) : Nat :=
  if s.store.log = [] then s.acct.reportedThrough else min n (newestTrip s.store.log)

/-- ACK_TRIPS decided (R192). DEDUCED, log entry 52: a delayed answer carries the count of the decision. -/
def State.decideAckTrips (s : State) (rq : Req) (n : Nat) : State :=
  s.whenAllowed rq .ackTrips .none true fun s =>
    let n := s.clampAck n
    if s.acct.reportedThrough < n then
      State.begin { s with acct := { s.acct with reportedThrough := n } }
        (.ackTrips n (unreported n s.store.log).length rq)
    else
      s.mgmtRespond rq .ackTrips .none .ok
        (.trips s.acct.reportedThrough (unreported s.acct.reportedThrough s.store.log).length)

/-! ### Meanings -/

/-- SHIFT_OPEN. -/
def execShiftOpen (rq : Req) (driver : Nat) (s : State) : Host.Outcome State Fault Refusal :=
  .next (s.whenConsole rq fun s => s.decideShiftOpen rq driver)

/-- SHIFT_OPEN_UPDATE_COMPLETE (R180). -/
def execShiftOpenUpdateComplete (s : State) : Host.Outcome State Fault Refusal :=
  .next (s.whenPowered fun s =>
    match s.takeWrite fun w => match w with | .shiftOpen .. => true | _ => false with
    | some (.shiftOpen _ rq number, s') =>
      s'.consoleRespond rq .shiftOpen .accepted (.shift number)
    | _ => s)

/-- SHIFT_CLOSE. -/
def execShiftClose (rq : Req) (s : State) : Host.Outcome State Fault Refusal :=
  .next (s.whenConsole rq fun s => s.decideShiftClose rq)

/-- SHIFT_CLOSE_UPDATE_COMPLETE: the answer, and then the SHIFT_REPORT (R181, R188). -/
def execShiftCloseUpdateComplete (s : State) : Host.Outcome State Fault Refusal :=
  .next (s.whenPowered fun s =>
    match s.takeWrite fun w => match w with | .shiftClose .. => true | _ => false with
    | some (.shiftClose carry _ _ rq number, s') =>
      let s := s'.consoleRespond rq .shiftClose .accepted (.shift number)
      match carry.last with
      | some l => s.reportShift l
      | none => s
    | _ => s)

/-- SHIFT_LIMIT_REACHED: SHIFT_LIMIT is set, and in PARKED the part wakes (R183, R206). -/
def execShiftLimitReached (s : State) : Host.Outcome State Fault Refusal :=
  .next (s.whenPowered fun s =>
    if s.limitReached then (s.setLimit.wakeBy .shiftLimit).parkCheck else s)

/-- ACK_TRIPS. -/
def execAckTrips (rq : Req) (n : Nat) (s : State) : Host.Outcome State Fault Refusal :=
  .next (s.whenMgmt rq fun s => s.decideAckTrips rq n)

/-- ACK_TRIPS_WRITE_COMPLETE (R192). -/
def execAckTripsWriteComplete (s : State) : Host.Outcome State Fault Refusal :=
  .next (s.whenPowered fun s =>
    match s.takeWrite fun w => match w with | .ackTrips .. => true | _ => false with
    | some (.ackTrips n k rq, s') => s'.mgmtRespond rq .ackTrips .none .ok (.trips n k)
    | _ => s)

end Sys2Proof.Machine
end

