-- ==== Sys2Proof/Machine/Emergency.lean ====
section
/-! DEFINITION. The commands of the emergency switch and of EMERGENCY_CLEAR (7.7). -/

namespace Sys2Proof.Machine

open Sys2Proof

/-- The switch is watched: in RUN, RESTARTING and PARKED (R132, R208). -/
def State.watchesSwitch (s : State) : Bool :=
  s.power.state != .holdup && s.power.state != .off

/-- EMERGENCY_CLEAR decided (R133). -/
def State.decideEmergencyClear (s : State) (rq : Req) : State :=
  s.whenAllowed rq .emergencyClear .none true fun s =>
    if s.sign.emergency.active then
      (s.clearEmergency (.requester rq.src)).mgmtRespond rq .emergencyClear .none .ok
    else s.mgmtRespond rq .emergencyClear .none .refusedState

/-! ### Meanings -/

/-- EMERGENCY_SWITCH_CLOSE: a hold starts, and in PARKED the closure wakes the part (R132, R206). -/
def execEmergencySwitchClose (s : State) : Host.Outcome State Fault Refusal :=
  let s' := { s with pins := { s.pins with emergencyClosed := true } }
  .next
    (if s.watchesSwitch && !s.pins.emergencyClosed then s'.holdClose.wakeBy .emergencySwitch else s')

/-- EMERGENCY_SWITCH_OPEN: a hold ends (R132). -/
def execEmergencySwitchOpen (s : State) : Host.Outcome State Fault Refusal :=
  let s' := { s with pins := { s.pins with emergencyClosed := false } }
  .next
    (if s.watchesSwitch then { s' with sign := { s'.sign with hold := .released } } else s')

/-- EMERGENCY_HOLD_EXPIRY (R132, R133). -/
def execEmergencyHoldExpiry (s : State) : Host.Outcome State Fault Refusal :=
  .next (if s.watchesSwitch then s.holdExpires else s)

/-- EMERGENCY_CLEAR. -/
def execEmergencyClear (rq : Req) (s : State) : Host.Outcome State Fault Refusal :=
  .next (s.whenMgmt rq fun s => s.decideEmergencyClear rq)

end Sys2Proof.Machine
end

