-- ==== Sys2Proof/Machine/Time.lean ====
section
/-! DEFINITION. The time base's events and the odometer's (chapters 3 and 4). -/

namespace Sys2Proof.Machine

open Sys2Proof

/-! ### The prescaler (R42, R43) -/

/-- The period length of a pattern position, in crystal cycles (R42). -/
def baseLength (position : Nat) : Nat := if position = 5 then 3276 else 3277

/-- A period length with the trim's one cycle (R43). -/
def trimmed (t : Trim) (length : Nat) : Nat := if t.plus then length + 1 else length - 1

/-- The prescaler at the end of a period: position, interval-in-second count, flash phase and trim. A trim
handed over returns the trim count to 0 and acts from the period that begins (R42 to R44). DEDUCED, log
entry 13: the comparison of the trim count. -/
def Backup.interval (b : Backup) (new : Option Trim) : Backup :=
  let position := if b.position < 5 then b.position + 1 else 1
  let inSecond := (b.inSecond + 1) % 10
  let b :=
    { b with
      cycle := 0, position, inSecond
      phaseA := if b.position = 5 ∧ inSecond ≠ 0 then false else b.phaseA }
  match new with
  | some t => { b with trim := t, trimCount := 0, length := baseLength position }
  | none =>
    if b.trim.n = 0 then { b with length := baseLength position }
    else if b.trim.n ≤ b.trimCount + 1 then
      { b with trimCount := 0, length := trimmed b.trim (baseLength position) }
    else { b with trimCount := b.trimCount + 1, length := baseLength position }

/-- The prescaler at the trim count's expiry (R43). DEDUCED, log entry 13: what the row does. -/
def Backup.expireTrim (b : Backup) : Backup :=
  if b.trim.n = 0 then b
  else { b with trimCount := 0, length := trimmed b.trim (baseLength b.position) }

/-- The seconds counter at a second event without a staged time; past its largest value it becomes 0 and
TIME_INVALID is set (R45). -/
def Backup.second (b : Backup) : Backup :=
  let b := { b with inSecond := 0, phaseA := true }
  if max32 ≤ b.counter then { b with counter := 0, timeInvalid := true }
  else { b with counter := b.counter + 1 }

/-- A change of the backup domain while it is powered. -/
def State.modBackup (s : State) (f : Backup → Backup) : State :=
  if s.time.backup.alive then { s with time := { s.time with backup := f s.time.backup } } else s

/-- The prescaler's period ends, with a trim handed over taken (R42 to R44). -/
def State.takeTrim (s : State) : State :=
  let s' := s.modBackup fun b => b.interval s.time.newTrim
  { s' with time := { s'.time with newTrim := none } }

/-! ### The distance input at a meter interval event (R58 to R64) -/

/-- An edge of the odometer at a capture time, while the input runs (R56, R57). DEDUCED, log entry 17: an
edge at S_min is accepted. -/
def Distance.edge (d : Distance) (t : BitVec 32) : Distance :=
  let accept : Bool :=
    match d.holdoff with
    | none => true
    | some t0 => decide (d.sMin ≤ (t - t0).toNat)
  if accept then
    { d with
      capture := t, holdoff := some t, count := d.count + 1, edges := (d.edges + 1) % 4294967296 }
  else { d with capture := t, glitches := satInc max32 d.glitches }

/-- Steps 1 to 3 of R58: the counts after the interval; the residual is R61's. -/
def Distance.closeInterval (d : Distance) : Distance :=
  if d.k = 0 then { d with lastRaw := d.count, lastP := 0, count := 0 }
  else
    let p := min d.count d.pMax
    { d with
      lastRaw := d.count, lastP := p, count := 0
      overrate := satAdd max32 d.overrate (d.count - p)
      residual := (d.residual + p * 1000) % d.k }

/-- The metres an interval produces (R61). -/
def Distance.metres (d : Distance) : Nat :=
  if d.k = 0 then 0 else (d.residual + min d.count d.pMax * 1000) / d.k

/-- A calibration handed over comes into use; a change of k returns the residual to 0 (R64). -/
def Distance.adopt (d : Distance) : Distance :=
  match d.incoming with
  | some c =>
    { d with
      incoming := none, k := c.k, pMax := c.pMax, sMin := c.sMin
      residual := if c.k = d.k then d.residual else 0 }
  | none => d

/-- OVERRATE for a clamped interval while the mark is clear (R60). -/
def State.noticeOverrate (s : State) (raw : Nat) : State :=
  let d := s.distance
  if d.pMax < raw ∧ d.overrateMark = false then
    State.offerNotice { s with distance := { d with overrateMark := true } }
      (.overrate raw d.pMax d.overrate)
  else s

/-- Metres credited according to the meter state (R62). -/
def State.credit (s : State) (m : Nat) : State :=
  let t := s.acct.totals
  let t := { t with totalM := satAdd max32 t.totalM m }
  if s.meter.state = .hired then
    let t := { t with hiredM := satAdd max32 t.hiredM m }
    State.modTrip { s with acct := { s.acct with totals := t } } fun r =>
      r.modCurrent fun g => { g with metres := count32 (g.metres + m) }
  else
    State.modShift { s with acct := { s.acct with totals := t } } fun r =>
      { r with unhiredM := satAdd max32 r.unhiredM m }

/-- The distance input's and the fare engine's work at a meter interval event (R58, R63, R64). -/
def State.distanceInterval (s : State) : State :=
  let d := s.distance
  if d.running then
    let s := { s with distance := d.closeInterval }
    let s :=
      if d.k = 0 then s
      else ((s.noticeOverrate d.count).credit d.metres).takeInterval (min d.count d.pMax)
    { s with distance := s.distance.adopt }
  else s

/-! ### Second events -/

/-- A port's violation window at a second event (R4). -/
def PortState.closeWindow (p : PortState) : PortState :=
  if p.running then
    if p.health = .degraded then
      let quiet := if p.window ≤ 2 then p.quiet + 1 else 0
      if 5 ≤ quiet then { p with window := 0, quiet := 0, health := .good }
      else { p with window := 0, quiet }
    else { p with window := 0 }
  else p

/-- A port's window closed, with PORT_RECOVERED when its health returns to GOOD (R4). -/
def State.closeWindow (s : State) (seg : Seg) : State :=
  let old := s.port seg
  let s := s.modPort seg PortState.closeWindow
  if old.health = .degraded ∧ (s.port seg).health = .good then s.offerNotice (.portRecovered seg) else s

/-- A timer of whole seconds after one more second. -/
def Timer.tick : Timer → Timer
  | .running n => .running (n - 1)
  | .stopped => .stopped

/-- The park delay timer after one more second. -/
def ParkTimer.tick : ParkTimer → ParkTimer
  | .running n => .running (n - 1)
  | t => t

/-- The timers counted in seconds: loopback, load window, authorization, advice acknowledgement, park delay
and checkpoint (R20, R30, R166, R174, R204, R207). DEDUCED, log entry 9: the timers count in the second
event. -/
def State.tickTimers (s : State) : State :=
  let loop := fun (p : PortState) => { p with loopTimer := p.loopTimer - 1 }
  let hired := s.meter.state = .hired ∧ s.power.state = .run
  { s with
    link := { s.link with front := loop s.link.front, rear := loop s.link.rear }
    mgmt := { s.mgmt with window := s.mgmt.window.map fun w => { w with idle := w.idle - 1 } }
    pay := { s.pay with auth := s.pay.auth.tick, ackTimer := s.pay.ackTimer.tick }
    power :=
      { s.power with
        park := s.power.park.tick
        checkpoint := if hired then s.power.checkpoint.tick else s.power.checkpoint } }

/-- A staged time moves the counter by more than 120 s in either direction (R48, R49). DEDUCED, log entry
14: C + 1 without a wrap. -/
def farFrom (t c : Nat) : Bool := decide (c + 1 + 120 < t ∨ t + 120 < c + 1)

/-- A trip is open: the meter is HIRED or PAY. -/
def State.tripOpen (s : State) : Bool := s.meter.state == .hired || s.meter.state == .pay

/-- The seconds counter of a powered part at a second event: it advances, or a staged time is decided
again (R45, R49). -/
def State.advanceCounter (s : State) : State :=
  match s.time.staged with
  | none => s.modBackup Backup.second
  | some x =>
    let clear := fun (s : State) => { s with time := { s.time with staged := none } }
    if s.tripOpen && farFrom x.t s.now then
      (clear (s.modBackup Backup.second)).mgmtRespond x.rq .setTime .none .refusedState
    else
      let s := clear (s.modBackup fun b =>
        { b with inSecond := 0, phaseA := true, counter := x.t, timeInvalid := false })
      s.evaluateBand.mgmtRespond x.rq .setTime .none .ok (.time x.t)

/-- A second event of a powered part (R44). DESIGN CHOICE, log entry 42: the answer to SET_TIME comes before
the notices of the ports, the front port's before the rear port's. -/
def State.secondEvent (s : State) : State :=
  let s := ((s.advanceCounter.closeWindow .front).closeWindow .rear).tickTimers
  (s.modShift fun r => { r with elapsed := satInc max32 r.elapsed }).recompose

/-- SET_TIME decided; the answer follows at the next second event (R48). -/
def State.decideSetTime (s : State) (rq : Req) (t : Nat) : State :=
  s.whenAllowed rq .setTime .none true fun s =>
    if max32 < t then s.mgmtRespond rq .setTime .none .badValue
    else if s.time.staged.isSome then s.mgmtRespond rq .setTime .none .busy
    else if s.tripOpen && farFrom t s.now then s.mgmtRespond rq .setTime .none .refusedState
    else { s with time := { s.time with staged := some ⟨t, rq⟩ } }

/-! ### Meanings -/

/-- METER_INTERVAL: the prescaler's period ends; of a powered part the distance input and the fare engine
take the interval, and the correction window and the lamp test count it (R42 to R44, R58, R104, R125).
Without supply the backup domain alone runs (R45). A trim handed over is taken once; DEDUCED, log entry
36: without supply too. -/
def execMeterInterval (s : State) : Host.Outcome State Fault Refusal :=
  let s := s.takeTrim
  .next
    (if s.powered then
      let s := s.distanceInterval
      let s := { s with meter := { s.meter with correction := s.meter.correction - 1 } }
      s.countTest.recompose
     else s)

/-- TRIM_COUNT_EXPIRY: the period that begins is one cycle longer or shorter (R43). -/
def execTrimCountExpiry (s : State) : Host.Outcome State Fault Refusal :=
  .next (s.modBackup Backup.expireTrim)

/-- SECOND_EVENT (R44, R45, R49, R4, R183). DEDUCED, log entry 36: the row acts whatever the
interval-in-second count. -/
def execSecondEvent (s : State) : Host.Outcome State Fault Refusal :=
  .next (if s.powered then s.secondEvent else s.modBackup Backup.second)

/-- MINUTE_EVENT: the overrate mark is cleared and the band evaluated (R60, R53). DEDUCED, log entry 36: the
row acts whatever the counter. -/
def execMinuteEvent (s : State) : Host.Outcome State Fault Refusal :=
  .next (s.whenPowered fun s =>
    State.evaluateBand { s with distance := { s.distance with overrateMark := false } })

/-- SET_TIME. -/
def execSetTime (rq : Req) (t : Nat) (s : State) : Host.Outcome State Fault Refusal :=
  .next (s.whenMgmt rq fun s => s.decideSetTime rq t)

/-- BACKUP_LOSS: the backup domain loses its power while the supply is absent (R46). -/
def execBackupLoss (s : State) : Host.Outcome State Fault Refusal :=
  .next
    (if s.powered then s
     else
      { s with
        time := { s.time with backup := { Backup.lost with alive := false }, newTrim := none } })

/-- ODOMETER_EDGE (R56, R57); a stopped input captures none (R65). -/
def execOdometerEdge (t : BitVec 32) (s : State) : Host.Outcome State Fault Refusal :=
  .next (if s.distance.running then { s with distance := s.distance.edge t } else s)

/-- HOLDOFF_EXPIRY: the filter becomes READY (R56). -/
def execHoldoffExpiry (s : State) : Host.Outcome State Fault Refusal :=
  .next
    (if s.distance.running then { s with distance := { s.distance with holdoff := none } } else s)

end Sys2Proof.Machine
end

