-- ==== Sys2Proof/Machine/Management.lean ====
section
/-! DEFINITION. Writes of the direct tables, the metrology loads and the metrology switch (chapter 2),
with the checks of the chapters that own each object. -/

namespace Sys2Proof.Machine

open Sys2Proof

/-! ### Direct writes (R27) -/

/-- The working entry replaced at once, and its store write begun; OK follows the completion (R27). -/
def State.replaceEntry (s : State) (rq : Req) (t : Target) (e : TableEntry) : State :=
  State.begin { s with tables := s.tables.setEntry e } (.table e rq t)

/-- FORWARDING written; the entry's hit counter returns to 0 (R16). -/
def State.decideForwardingWrite (s : State) (rq : Req) (i : Nat) (d : Option FwdData) : State :=
  let t := Target.forwarding i
  s.whenAllowed rq .write t (decide (i ≤ 31)) fun s =>
    match d.bind resolveFwd with
    | none => s.mgmtRespond rq .write t .badValue
    | some e =>
      State.replaceEntry { s with link := { s.link with hits := s.link.hits.set i 0 } } rq t
        (.forwarding i e)

/-- A role entry may stand at a node: a named role on its own segment, held by no other node (R17,
R18). -/
def State.roleFits (s : State) (a : NodeAddr) : RoleEntry → Bool
  | .named r => roleSeg r == a.seg && ((s.holder r).map (· == a)).getD true
  | _ => true

/-- A node's row after a role write that changes its entry (R18). -/
def NodeEntry.rewritten (n : NodeEntry) (old new : RoleEntry) : NodeEntry :=
  if new = .none then ⟨.absent, 0, false⟩
  else if old = .none then ⟨.probing, 0, false⟩
  else n

/-- A change of one node's row. -/
def State.modNode (s : State) (a : NodeAddr) (f : NodeEntry → NodeEntry) : State :=
  if a.num = 0 then s else s.modPort a.seg fun p => { p with nodes := p.nodes.modify (a.num - 1) f }

/-- ROLES written, with its effects on the node table and on what follows it (R18, R8, R39). -/
def State.decideRolesWrite (s : State) (rq : Req) (a : NodeAddr) (d : Option RoleEntry) : State :=
  let t := Target.roles a
  s.whenAllowed rq .write t (decide (a.num ≤ 7)) fun s =>
    if s.meter.state = .hired ∨ s.meter.state = .pay then s.mgmtRespond rq .write t .busy
    else
      match d with
      | none => s.mgmtRespond rq .write t .badValue
      | some e =>
        if a.num = 0 ∨ s.roleFits a e = false then s.mgmtRespond rq .write t .badValue
        else
          let old := s.roleEntry a
          let s' := (s.replaceEntry rq t (.role a e)).modNode a fun n => n.rewritten old e
          (s.followPresence s').drain

/-- NOTICE_CLASS written (R40). -/
def State.decideNoticeClassWrite (s : State) (rq : Req) (i : NoticeIndex) (d : Option ClassRoute) :
    State :=
  let t := Target.noticeClass i
  match i with
  | .kind k =>
    s.whenAllowed rq .write t true fun s =>
      match d with
      | some c =>
        if classAllowed k c then s.replaceEntry rq t (.noticeClass (noticePlace k) c)
        else s.mgmtRespond rq .write t .badValue
      | none => s.mgmtRespond rq .write t .badValue
  | _ => s.whenAllowed rq .write t false fun s => s

/-- The HIRED or PAY pattern lights the channel at a place (R119). -/
def State.litWhenHired (s : State) (place : Nat) : Bool :=
  litValue (s.patternValue 2 place) || litValue (s.patternValue 3 place)

/-- The result that refuses a channel entry at a place, if any (R119). -/
def State.channelRefusal (s : State) (place : Nat) (c : ChannelEntry) : Option MgmtResult :=
  let old := s.channel place
  if channelValid c = false then some .badValue
  else if (s.meter.state = .hired ∨ s.meter.state = .pay) ∧ (c.role ≠ old.role ∨ c.owner ≠ old.owner)
  then some .busy
  else if c.role = .vacant ∧ c.owner = .aux then some .badValue
  else if c.role = .vacant ∧ s.litWhenHired place then some .badValue
  else none

/-- A channel entry of SIGN_TABLE written (R119). DEDUCED, log entry 20: an index that is no channel's. -/
def State.decideSignChannelWrite (s : State) (rq : Req) (i : Nat) (d : Option ChannelEntry) : State :=
  let t := Target.signTable i
  s.whenAllowed rq .write t (within 1 6 i) fun s =>
    match d with
    | none => s.mgmtRespond rq .write t .badValue
    | some c =>
      match s.channelRefusal (i - 1) c with
      | some r => s.mgmtRespond rq .write t r
      | none => (s.replaceEntry rq t (.channel (i - 1) c)).recompose

/-- A pattern may be written: a value or an absence for each of the six channels, and no VACANT channel
lit by HIRED or PAY (R120). -/
def State.patternFits (s : State) (n : PatternName) (p : Pattern) : Bool :=
  p.length == 6 &&
    !((n == .hired || n == .pay)
      && (List.range 6).any fun i => (s.channel i).role == .vacant && litValue (p[i]?).join)

/-- A pattern of SIGN_TABLE written; every channel is composed anew (R120). -/
def State.decideSignPatternWrite (s : State) (rq : Req) (n : PatternName) (d : Option Pattern) :
    State :=
  let t := Target.signTable (7 + patternPlace n)
  s.whenAllowed rq .write t true fun s =>
    match d with
    | none => s.mgmtRespond rq .write t .badValue
    | some p =>
      if s.patternFits n p then (s.replaceEntry rq t (.pattern (patternPlace n) p)).recompose
      else s.mgmtRespond rq .write t .badValue

/-- The brightness part written; the candidate count returns to 0 (R127). -/
def State.decideBrightnessWrite (s : State) (rq : Req) (d : Option Brightness) : State :=
  let t := Target.signTable 0
  s.whenAllowed rq .write t true fun s =>
    match d with
    | none => s.mgmtRespond rq .write t .badValue
    | some b =>
      if brightnessValid b then
        State.recompose
          (State.replaceEntry
            { s with sign := { s.sign with ambient := { s.sign.ambient with count := 0 } } } rq t
            (.brightness b))
      else s.mgmtRespond rq .write t .badValue

/-- The prompt entry a WRITE gives, or `none` for BAD_VALUE (R145). -/
def resolvePrompt : PromptData → Option (Option PromptEntry)
  | .undefined => some none
  | .entry e => if promptValid e then some (some e) else none

/-- PROMPTS written; a playing prompt keeps its copy (R145). -/
def State.decidePromptsWrite (s : State) (rq : Req) (i : Nat) (d : Option PromptData) : State :=
  let t := Target.prompts i
  s.whenAllowed rq .write t (decide (i ≤ 15)) fun s =>
    match d.bind resolvePrompt with
    | none => s.mgmtRespond rq .write t .badValue
    | some e => s.replaceEntry rq t (.prompt i e)

/-- The map entry a WRITE gives, or `none` for BAD_VALUE (R147). -/
def resolveMap : MapData → Option (Option Nat)
  | .unmapped => some none
  | .prompt i => if i ≤ 15 then some (some i) else none

/-- PROMPT_MAP written; R147 refuses an index above 7 with BAD_VALUE. -/
def State.decidePromptMapWrite (s : State) (rq : Req) (i : Nat) (d : Option MapData) : State :=
  let t := Target.promptMap i
  s.whenAllowed rq .write t true fun s =>
    match d.bind resolveMap with
    | none => s.mgmtRespond rq .write t .badValue
    | some e =>
      if i ≤ 7 then s.replaceEntry rq t (.promptMap i e) else s.mgmtRespond rq .write t .badValue

/-- INTERCOM_SET written; target levels are computed anew at once (R137). -/
def State.decideIntercomSetWrite (s : State) (rq : Req) (i : Nat) (d : Option IntercomSettings) :
    State :=
  let t := Target.intercomSet i
  s.whenAllowed rq .write t (i == 0) fun s =>
    match d with
    | none => s.mgmtRespond rq .write t .badValue
    | some x =>
      if intercomValid x then
        let s := s.replaceEntry rq t (.intercom x)
        s.withIntercom s.intercom
      else s.mgmtRespond rq .write t .badValue

/-- PAY_LIMITS written (R158). -/
def State.decidePayLimitsWrite (s : State) (rq : Req) (i : Nat) (d : Option PayLimits) : State :=
  let t := Target.payLimits i
  s.whenAllowed rq .write t (i == 0) fun s =>
    match d with
    | none => s.mgmtRespond rq .write t .badValue
    | some l =>
      if payLimitsValid l then s.replaceEntry rq t (.payLimits l)
      else s.mgmtRespond rq .write t .badValue

/-- POWER_SET written (R199). -/
def State.decidePowerSetWrite (s : State) (rq : Req) (i : Nat) (d : Option PowerSettings) : State :=
  let t := Target.powerSet i
  s.whenAllowed rq .write t (i == 0) fun s =>
    match d with
    | none => s.mgmtRespond rq .write t .badValue
    | some p =>
      if powerValid p then s.replaceEntry rq t (.power p) else s.mgmtRespond rq .write t .badValue

/-- The pattern an index of SIGN_TABLE from 7 to 11 names (R118). -/
def patternAt (i : Nat) : PatternName :=
  match i with
  | 7 => .off
  | 8 => .vacant
  | 9 => .hired
  | 10 => .pay
  | _ => .emergency

/-- A WRITE whose data is no entry of the object it names: BAD_OBJECT for an object that takes no WRITE
or an index out of range, and otherwise what the owner's rule answers to such data (R25, R27).
DEDUCED, log entry 20. -/
def State.decideWrite (s : State) (rq : Req) (t : Target) : State :=
  match t with
  | .forwarding i => s.decideForwardingWrite rq i none
  | .roles a => s.decideRolesWrite rq a none
  | .signTable i =>
    if i = 0 then s.decideBrightnessWrite rq none
    else if within 7 11 i then s.decideSignPatternWrite rq (patternAt i) none
    else s.decideSignChannelWrite rq i none
  | .prompts i => s.decidePromptsWrite rq i none
  | .promptMap i => s.decidePromptMapWrite rq i none
  | .intercomSet i => s.decideIntercomSetWrite rq i none
  | .payLimits i => s.decidePayLimitsWrite rq i none
  | .noticeClass i => s.decideNoticeClassWrite rq i none
  | .powerSet i => s.decidePowerSetWrite rq i none
  | t => s.whenAllowed rq .write t false fun s => s

/-! ### Metrology loads (2.3) -/

/-- The load window closed; its staging area is discarded (R31). -/
def State.closeLoad (s : State) : State := { s with mgmt := { s.mgmt with window := none } }

/-- The copy in force of an object; `true` is TARIFF_SET. -/
def Metrology.copy (m : Metrology) (tariff : Bool) : Staged :=
  if tariff then .tariffSet m.tariffSet else .calibration m.calibration

/-- The slot holds a copy of an object. -/
def PendingSlot.holds (p : PendingSlot) (tariff : Bool) : Bool :=
  if tariff then p.tariffSet.isSome else p.calibration.isSome

/-- The open window, when it is a window of the named object. -/
def State.windowOf (s : State) (tariff : Bool) : Option LoadWindow :=
  s.mgmt.window.filter fun w => w.staging.isTariff == tariff

/-- OPEN_LOAD decided (R29). -/
def State.decideOpenLoad (s : State) (rq : Req) (t : Target) : State :=
  s.whenAllowed rq .openLoad t (loadTarget t).isSome fun s =>
    let tariff := (loadTarget t).getD true
    if s.pins.metrologyOpen = false then s.mgmtRespond rq .openLoad t .locked
    else if s.mgmt.window.isSome then s.mgmtRespond rq .openLoad t .busy
    else if s.mgmt.slot.holds tariff then s.mgmtRespond rq .openLoad t .refusedState
    else
      State.mgmtRespond
        { s with
          mgmt := { s.mgmt with window := some ⟨s.mgmt.metrology.copy tariff, rq.src, 120⟩ } }
        rq .openLoad t .ok

/-- WRITE_PART decided (R30). -/
def State.decideWritePart (s : State) (rq : Req) (t : Target) (d : PartData) : State :=
  s.whenAllowed rq .writePart t (partInRange t) fun s =>
    let p := match t with | .tariffSet p => p | _ => 0
    match s.windowOf ((loadTarget t).getD true) with
    | none => s.mgmtRespond rq .writePart t .refusedState
    | some w =>
      if w.holder ≠ rq.src then s.mgmtRespond rq .writePart t .busy
      else if s.pins.metrologyOpen = false then s.closeLoad.mgmtRespond rq .writePart t .locked
      else
        match w.staging.setPart p d with
        | none => s.mgmtRespond rq .writePart t .badValue
        | some st =>
          State.mgmtRespond
            { s with mgmt := { s.mgmt with window := some { w with staging := st, idle := 120 } } }
            rq .writePart t .ok

/-- A validated copy taken by the meter state: applied at once, or written into the slot (R33). DESIGN CHOICE,
log entry 46: the working slot holds it from here on. -/
def State.takeCommit (s : State) (rq : Req) (t : Target) (st : Staged) : State :=
  if s.meter.state = .hired ∨ s.meter.state = .pay then
    State.begin { s with mgmt := { s.mgmt with slot := s.mgmt.slot.put st } } (.pendingCopy st rq t)
  else s.beginApplication st (.commit rq t)

/-- COMMIT decided; an accepted one is answered when its store write has completed (R32, R33). -/
def State.decideCommit (s : State) (rq : Req) (t : Target) : State :=
  s.whenAllowed rq .commit t (loadTarget t).isSome fun s =>
    match s.windowOf ((loadTarget t).getD true) with
    | none => s.mgmtRespond rq .commit t .refusedState
    | some w =>
      if w.holder ≠ rq.src then s.mgmtRespond rq .commit t .busy
      else if s.pins.metrologyOpen = false then s.closeLoad.mgmtRespond rq .commit t .locked
      else
        match w.staging.firstFailure with
        | some i => s.mgmtRespond rq .commit t .badValue (.badPart i)
        | none => s.closeLoad.takeCommit rq t w.staging

/-- ABORT_LOAD decided: the holder's window closes, or a waiting copy is withdrawn (R31). DESIGN CHOICE, log
entry 35: a copy whose application has begun. -/
def State.decideAbortLoad (s : State) (rq : Req) (t : Target) : State :=
  s.whenAllowed rq .abortLoad t (loadTarget t).isSome fun s =>
    let tariff := (loadTarget t).getD true
    if (s.windowOf tariff).map (·.holder) = some rq.src then
      s.closeLoad.mgmtRespond rq .abortLoad t .ok
    else if s.mgmt.slot.holds tariff then
      if s.pins.metrologyOpen then
        (State.begin { s with mgmt := { s.mgmt with slot := s.mgmt.slot.remove tariff } }
          (.slotRemove tariff)).mgmtRespond rq .abortLoad t .ok
      else s.mgmtRespond rq .abortLoad t .locked
    else if (s.windowOf tariff).isSome then s.mgmtRespond rq .abortLoad t .busy
    else s.mgmtRespond rq .abortLoad t .refusedState

/-! ### Meanings -/

/-- WRITE, of data that no direct table takes. -/
def execWrite (rq : Req) (t : Target) (s : State) : Host.Outcome State Fault Refusal :=
  .next (s.whenMgmt rq fun s => s.decideWrite rq t)

/-- FORWARDING_WRITE. -/
def execForwardingWrite (rq : Req) (i : Nat) (d : Option FwdData) (s : State) :
    Host.Outcome State Fault Refusal :=
  .next (s.whenMgmt rq fun s => s.decideForwardingWrite rq i d)

/-- ROLES_WRITE. -/
def execRolesWrite (rq : Req) (a : NodeAddr) (d : Option RoleEntry) (s : State) :
    Host.Outcome State Fault Refusal :=
  .next (s.whenMgmt rq fun s => s.decideRolesWrite rq a d)

/-- NOTICE_CLASS_WRITE. -/
def execNoticeClassWrite (rq : Req) (i : NoticeIndex) (d : Option ClassRoute) (s : State) :
    Host.Outcome State Fault Refusal :=
  .next (s.whenMgmt rq fun s => s.decideNoticeClassWrite rq i d)

/-- SIGN_CHANNEL_WRITE. -/
def execSignChannelWrite (rq : Req) (i : Nat) (d : Option ChannelEntry) (s : State) :
    Host.Outcome State Fault Refusal :=
  .next (s.whenMgmt rq fun s => s.decideSignChannelWrite rq i d)

/-- SIGN_PATTERN_WRITE. -/
def execSignPatternWrite (rq : Req) (n : PatternName) (d : Option Pattern) (s : State) :
    Host.Outcome State Fault Refusal :=
  .next (s.whenMgmt rq fun s => s.decideSignPatternWrite rq n d)

/-- BRIGHTNESS_WRITE. -/
def execBrightnessWrite (rq : Req) (d : Option Brightness) (s : State) :
    Host.Outcome State Fault Refusal :=
  .next (s.whenMgmt rq fun s => s.decideBrightnessWrite rq d)

/-- PROMPTS_WRITE. -/
def execPromptsWrite (rq : Req) (i : Nat) (d : Option PromptData) (s : State) :
    Host.Outcome State Fault Refusal :=
  .next (s.whenMgmt rq fun s => s.decidePromptsWrite rq i d)

/-- PROMPT_MAP_WRITE. -/
def execPromptMapWrite (rq : Req) (i : Nat) (d : Option MapData) (s : State) :
    Host.Outcome State Fault Refusal :=
  .next (s.whenMgmt rq fun s => s.decidePromptMapWrite rq i d)

/-- INTERCOM_SET_WRITE. -/
def execIntercomSetWrite (rq : Req) (i : Nat) (d : Option IntercomSettings) (s : State) :
    Host.Outcome State Fault Refusal :=
  .next (s.whenMgmt rq fun s => s.decideIntercomSetWrite rq i d)

/-- PAY_LIMITS_WRITE. -/
def execPayLimitsWrite (rq : Req) (i : Nat) (d : Option PayLimits) (s : State) :
    Host.Outcome State Fault Refusal :=
  .next (s.whenMgmt rq fun s => s.decidePayLimitsWrite rq i d)

/-- POWER_SET_WRITE. -/
def execPowerSetWrite (rq : Req) (i : Nat) (d : Option PowerSettings) (s : State) :
    Host.Outcome State Fault Refusal :=
  .next (s.whenMgmt rq fun s => s.decidePowerSetWrite rq i d)

/-- TABLE_WRITE_COMPLETE: a direct table's store write completes, and OK is offered (R27). -/
def execTableWriteComplete (s : State) : Host.Outcome State Fault Refusal :=
  .next (s.whenPowered fun s =>
    match s.takeWrite fun w => match w with | .table .. => true | _ => false with
    | some (.table _ rq t, s') => s'.mgmtRespond rq .write t .ok
    | _ => s)

/-- OPEN_LOAD. -/
def execOpenLoad (rq : Req) (t : Target) (s : State) : Host.Outcome State Fault Refusal :=
  .next (s.whenMgmt rq fun s => s.decideOpenLoad rq t)

/-- WRITE_PART. -/
def execWritePart (rq : Req) (t : Target) (d : PartData) (s : State) :
    Host.Outcome State Fault Refusal :=
  .next (s.whenMgmt rq fun s => s.decideWritePart rq t d)

/-- COMMIT. -/
def execCommit (rq : Req) (t : Target) (s : State) : Host.Outcome State Fault Refusal :=
  .next (s.whenMgmt rq fun s => s.decideCommit rq t)

/-- ABORT_LOAD. -/
def execAbortLoad (rq : Req) (t : Target) (s : State) : Host.Outcome State Fault Refusal :=
  .next (s.whenMgmt rq fun s => s.decideAbortLoad rq t)

/-- LOAD_WINDOW_EXPIRY: an open window closes (R31). DEDUCED, log entry 9: the row closes any window. -/
def execLoadWindowExpiry (s : State) : Host.Outcome State Fault Refusal :=
  .next (s.whenPowered State.closeLoad)

/-- PENDING_COMMIT_STORED: PENDING is offered (R33). -/
def execPendingCommitStored (s : State) : Host.Outcome State Fault Refusal :=
  .next (s.whenPowered fun s =>
    match s.takeWrite fun w => match w with | .pendingCopy .. => true | _ => false with
    | some (.pendingCopy _ rq t, s') => s'.mgmtRespond rq .commit t .pending
    | _ => s)

/-- METROLOGY_SWITCH_OPEN: METROLOGY_OPEN is offered each time the switch opens (R28). -/
def execMetrologySwitchOpen (s : State) : Host.Outcome State Fault Refusal :=
  let s' := { s with pins := { s.pins with metrologyOpen := true } }
  .next (if s.powered && !s.pins.metrologyOpen then s'.offerNotice .metrologyOpen else s')

/-- METROLOGY_SWITCH_CLOSE: no notice, and no window closes (R28). -/
def execMetrologySwitchClose (s : State) : Host.Outcome State Fault Refusal :=
  .next { s with pins := { s.pins with metrologyOpen := false } }

end Sys2Proof.Machine
end

