-- ==== Sys2Proof/Machine/Reads.lean ====
section
/-! DEFINITION. READ: what each object returns and the refusals of its owner (R26 and the chapters that
own the objects). A READ changes nothing but the queue its answer joins. -/

namespace Sys2Proof.Machine

open Sys2Proof

/-- What a READ comes to: the data read, or the result that refuses it. -/
inductive ReadAnswer
  | data (d : ReadData)
  | refused (r : MgmtResult)
  deriving DecidableEq, Repr, Inhabited

/-- The data of something that may be absent, BAD_OBJECT without it. -/
def ReadAnswer.ofOption (o : Option ReadData) : ReadAnswer :=
  match o with
  | some d => .data d
  | none => .refused .badObject

/-! ### Status data -/

/-- PORT_STATUS of one port (R23). -/
def State.portStatus (s : State) (seg : Seg) : PortStatus :=
  let p := s.port seg
  { state :=
      match p.mode, p.health with
      | .loopback, _ => .loopback
      | .normal, .degraded => .degraded
      | .normal, .good => .up
    health := p.health
    window := p.window
    quiet := p.quiet
    loopRemaining := if p.mode = .loopback then p.loopTimer else 0
    queued := p.queue.length
    monitorQueued := if seg = .front then some s.link.monitor.length else none
    violations := p.violations
    crcErrors := p.crcErrors
    formatErrors := p.formatErrors
    overflow := p.overflow
    monitorDrop := if seg = .front then some s.link.monitorDrop else none }

/-- A node's missed-poll count; 0 outside the node table (R8). -/
def State.missedPolls (s : State) (a : NodeAddr) : Nat :=
  (((s.port a.seg).nodes[a.num - 1]?).map (·.missed)).getD 0

/-- METER_STATUS (R68, R91, R116). -/
def State.meterStatus (s : State) : MeterStatus where
  k := s.distance.k
  pMax := s.distance.pMax
  sMin := s.distance.sMin
  lastRaw := s.distance.lastRaw
  lastP := s.distance.lastP
  residual := s.distance.residual
  acceptedEdges := s.distance.edges
  glitches := s.distance.glitches
  overrate := s.distance.overrate
  distanceRunning := s.distance.running
  mode := s.engine.mode
  active := s.engine.active
  q := if s.engine.mode = .idle then 0 else s.engine.q
  pa := s.engine.pa
  fs := s.engine.fs
  segmentCount := (s.meter.trip.map (·.segments.length)).getD 0
  current := s.meter.trip.bind (·.segments.getLast?)
  fare := s.fare
  extrasTotal := (s.meter.trip.map (·.extrasTotal)).getD 0
  flags := s.tripFlags
  state := s.meter.state
  closing := s.meter.closing
  tripNumber := (s.meter.trip.map (·.number)).getD 0
  lastAssigned := s.meter.lastAssigned
  lastClosed := s.meter.lastClosed
  snapshot := if s.meter.state = .pay then s.meter.snapshot.getD 0 else 0
  remainingDue := s.remainingDue
  correction := s.meter.correction
  hiredM := (s.meter.trip.map (·.hiredM)).getD 0
  hiredDs := (s.meter.trip.map (·.hiredDs)).getD 0
  band := s.time.band
  timeInvalid := s.time.backup.timeInvalid
  metrologyOpen := s.pins.metrologyOpen
  shiftLimit := s.acct.shift.limitSet
  consoleMark := s.meter.console.mark
  paxMark := s.meter.pax.mark
  lastAck := s.meter.lastAck

/-- TIME (R54). -/
def State.timeStatus (s : State) : TimeStatus :=
  let c := s.now
  let d := dateOf c
  { counter := c
    invalid := s.time.backup.timeInvalid
    year := d.year
    month := d.month
    day := d.day
    weekday := weekday c
    minute := minuteOfDay c
    dayType := s.mgmt.metrology.tariffSet.dayType c
    band := s.time.band
    staged := s.time.staged.map (·.t)
    trim := s.time.backup.trim }

/-- The sign status (R134). -/
def State.signStatus (s : State) : SignStatus where
  condition := s.signCondition
  channels := s.tables.channels.zip s.sign.lamps
  emergency := s.sign.emergency
  switchClosed := s.pins.emergencyClosed
  hold := s.sign.hold
  test := s.sign.test
  ambient := s.sign.ambient

/-- What the intercom status shows of a detector (R154). -/
def Detector.status (d : Detector) : DetectorStatus :=
  ⟨d.floor, d.energies.headD 0, d.active, d.hangover, d.stuckCount, d.stuck⟩

/-- The intercom status (R154). -/
def State.intercomStatus (s : State) : IntercomStatus :=
  let i := s.intercom
  { run := i.run
    mode := i.mode
    arbiter := i.arbiter
    d2p := i.d2p
    p2d := i.p2d
    drv := i.drv.status
    pax := i.pax.status
    playing := (i.playing.filter (!·.ended)).map fun p => (p.index, p.segment + 1)
    queue := i.queue
    drops := i.drops
    monitor := i.monitor.state
    monitorSamples := i.monitor.samples.length
    monitorSeq := i.monitor.seq
    test := i.test.map fun t => (t.side, t.played) }

/-- The payment status (R179). -/
def State.payStatus (s : State) : PayStatus where
  session := s.pay.session
  auth := s.pay.auth
  held := s.pay.held.isSome
  tenders := s.pay.tenders
  remainingDue := s.remainingDue
  late := s.pay.late.length
  adviceCount := s.pay.advice.length
  adviceFree := s.adviceFree
  inFlight := (s.pay.advice.find? (·.inFlight)).map (·.ref)
  adviceTimer := s.pay.ackTimer
  epoch := s.pay.epoch
  counters := s.pay.counters

/-- The restart cause record in force: one still being written, or the stored one (R36, R212). -/
def State.currentCause (s : State) : Option CauseRecord :=
  (s.writes.reverse.findSome? fun w => match w with | .cause c => some c | _ => none).orElse
    fun _ => s.store.cause

/-- RESTART_INFO (R212). DEDUCED, log entry 28: which cause record is shown. -/
def State.restartInfo (s : State) : RestartInfo where
  cause := s.currentCause
  power := s.power.state
  sample := s.power.sample
  lowCount := s.power.lowCount
  progress := s.power.progress
  mark := s.store.mark
  park := s.power.park
  checkpoint := s.power.checkpoint
  wake := s.power.wake
  checkpointTime := s.store.checkpoint.time

/-! ### Records -/

/-- One part of a trip record of the log (R193); `none` for a part above 3. -/
def State.tripPart (s : State) (r : TripRecord) : Nat → Option ReadData
  | 0 =>
    some
      (.tripHead
        ⟨r.number, r.shift, r.epoch, r.start, r.stop, r.hiredM, r.hiredDs, r.flagFall, r.fare,
          r.unpaid, r.flags, decide (r.number ≤ s.acct.reportedThrough)⟩)
  | 1 => some (.tripSegments r.segments)
  | 2 => some (.tripExtras r.extras)
  | 3 => some (.tripTenders r.tenders)
  | _ => none

/-- The log status (R193). DESIGN CHOICE, log entry 44: the oldest and newest numbers of an empty log are 0. -/
def State.logStatus (s : State) : ReadData :=
  let l := s.store.log
  .logStatus l.length (unreported s.acct.reportedThrough l).length
    ((l.head?.map (·.number)).getD 0) (newestTrip l) s.acct.reportedThrough

/-- A READ of TRIP: number 0 is the log status, a number outside the log BAD_OBJECT, a part above 3
BAD_VALUE (R193). -/
def State.readTrip (s : State) (number part : Nat) : ReadAnswer :=
  if number = 0 then if part ≤ 3 then .data s.logStatus else .refused .badValue
  else
    match s.store.log.find? (·.number == number) with
    | none => .refused .badObject
    | some r =>
      match s.tripPart r part with
      | some d => .data d
      | none => .refused .badValue

/-- The part of a shift record that a READ's data selects: part 1 without data, `none` for a part other
than 1 and 2 (R189). -/
def shiftPart (r : ShiftRecord) : ReadSel → Option ShiftView
  | .part 1 => some (.part1 r.part1)
  | .part 2 => some (.part2 r.part2)
  | .part _ => none
  | _ => some (.part1 r.part1)

/-- A READ of a shift record's part, or BAD_VALUE for a part that it does not have. -/
def readShiftPart (r : ShiftRecord) (sel : ReadSel) (k : ShiftView → ReadData) : ReadAnswer :=
  match shiftPart r sel with
  | some v => .data (k v)
  | none => .refused .badValue

/-- A part of a tariff set (2.2). -/
def TariffSet.part (ts : TariffSet) (p : Nat) : PartView :=
  if p = 0 then .general ts.general
  else if p ≤ 8 then .tariff ((ts.tariffs[p - 1]?).join)
  else if p ≤ 20 then .band ((ts.bands[p - 9]?).join)
  else if p ≤ 44 then .holiday ((ts.holidays[p - 21]?).join)
  else .extra ((ts.extras[p - 45]?).join)

/-- The copy of a metrology object that a READ selects: ACTIVE without data, `none` for a code that
names no copy (R26). -/
def selectedCopy : ReadSel → Option Copy
  | .copy c => c
  | _ => some .active

/-- The tariff set a copy names, if the copy exists (R26). -/
def State.tariffCopy (s : State) : Copy → Option TariffSet
  | .active => some s.mgmt.metrology.tariffSet
  | .pending => s.mgmt.slot.tariffSet
  | .staging =>
    match s.mgmt.window with
    | some ⟨.tariffSet t, _, _⟩ => some t
    | _ => none

/-- The calibration a copy names, if the copy exists (R26). -/
def State.calibrationCopy (s : State) : Copy → Option Calibration
  | .active => some s.mgmt.metrology.calibration
  | .pending => s.mgmt.slot.calibration
  | .staging =>
    match s.mgmt.window with
    | some ⟨.calibration c, _, _⟩ => some c
    | _ => none

/-- A READ of a part of TARIFF_SET; the general part in force comes with its application record
(R26). -/
def State.readTariff (s : State) (p : Nat) (sel : ReadSel) : ReadAnswer :=
  match selectedCopy sel with
  | none => .refused .badValue
  | some c =>
    .ofOption ((s.tariffCopy c).map fun t =>
      .tariffPart (t.part p)
        (if p = 0 ∧ c = .active then some s.mgmt.metrology.tariffApp else none))

/-- A READ of CALIBRATION; the object in force comes with its application record (R26). -/
def State.readCalibration (s : State) (sel : ReadSel) : ReadAnswer :=
  match selectedCopy sel with
  | none => .refused .badValue
  | some c =>
    .ofOption ((s.calibrationCopy c).map fun x =>
      .calibration x (if c = .active then some s.mgmt.metrology.calibrationApp else none))

/-- A READ of SIGN_TABLE: brightness, channels 1–6, patterns 7–11, status 12 (R118). -/
def State.readSign (s : State) (i : Nat) : ReadAnswer :=
  if i = 0 then .data (.brightness s.tables.brightness)
  else if i ≤ 6 then .ofOption ((s.tables.channels[i - 1]?).map .channel)
  else if i ≤ 11 then .ofOption ((s.tables.patterns[i - 7]?).map .pattern)
  else .data (.sign s.signStatus)

/-- The notice queue's status: URGENT and ROUTINE occupancy, drops, next number (R26). -/
def State.noticeStatus (s : State) : ReadData :=
  let l := s.notices.entries
  .notices (l.filter (·.cls == .urgent)).length (l.filter (·.cls == .routine)).length s.notices.drops
    s.notices.nextSeq

/-! ### The READ -/

/-- What a READ of an object in range comes to (R26 and the objects' owners). DEDUCED, log entry 30: unused
selectors. -/
def State.readTarget (s : State) (t : Target) (sel : ReadSel) : ReadAnswer :=
  match t with
  | .forwarding i =>
    .ofOption ((s.tables.forwarding[i]?).map fun e => .forwarding e (s.link.hits.getD i 0))
  | .roles _ => .data (.roles s.tables.roles)
  | .signTable i => s.readSign i
  | .prompts i => .ofOption ((s.tables.prompts[i]?).map .prompt)
  | .promptMap i => .ofOption ((s.tables.promptMap[i]?).map .promptMap)
  | .intercomSet i =>
    if i = 0 then .data (.intercomSettings s.tables.intercom) else .data (.intercom s.intercomStatus)
  | .payLimits i =>
    if i = 0 then .data (.payLimits s.tables.payLimits) else .data (.pay s.payStatus)
  | .noticeClass (.kind k) => .data (.noticeClass (s.classRoute k))
  | .noticeClass .status => .data s.noticeStatus
  | .noticeClass .other => .refused .badObject
  | .powerSet _ => .data (.power s.tables.power)
  | .tariffSet p => s.readTariff p sel
  | .calibration _ => s.readCalibration sel
  | .totalizers =>
    if sel = .stored then .data (.totals s.store.totals (some s.store.totalsTime))
    else .data (.totals s.acct.totalsNow none)
  | .shift _ =>
    match s.acct.shiftNow.record with
    | some r => readShiftPart r sel fun v => .shift v s.acct.shift.limitSet
    | none => .refused .badObject
  | .lastShift _ =>
    match s.acct.last with
    | some l => readShiftPart l.record sel fun v => .lastShift v l.record.lateDispute l.console l.modem
    | none => .refused .badObject
  | .trip low =>
    match sel with
    | .trip high part => s.readTrip (high * 65536 + low) part
    | _ => s.readTrip low 0
  | .advice pos => .ofOption ((s.pay.advice[pos]?).map .advice)
  | .portStatus i =>
    if i = 0 then .data (.port (s.portStatus .front))
    else if i = 1 then .data (.port (s.portStatus .rear))
    else .data (.engine s.link.noMatch s.link.actionErrors s.link.localRejects)
  | .nodeTable a => .data (.node (s.roleEntry a) (s.presence a) (s.missedPolls a))
  | .meterStatus => .data (.meter s.meterStatus)
  | .time => .data (.time s.timeStatus)
  | .restartInfo => .data (.restart s.restartInfo)
  | .none | .unknown => .refused .badObject

/-- READ decided (R25, R26). DEDUCED, log entry 30: the order of the index and part checks. -/
def State.decideRead (s : State) (rq : Req) (t : Target) (sel : ReadSel) : State :=
  s.whenAllowed rq .read t (indexInRange t) fun s =>
    match s.readTarget t sel with
    | .data d => s.mgmtRespond rq .read t .ok (.read d)
    | .refused r => s.mgmtRespond rq .read t r

/-! ### Meanings -/

/-- READ. -/
def execRead (rq : Req) (t : Target) (sel : ReadSel) (s : State) : Host.Outcome State Fault Refusal :=
  .next (s.whenMgmt rq fun s => s.decideRead rq t sel)

end Sys2Proof.Machine
end

