-- ==== Sys2Proof/Machine/Link.lean ====
section
/-! DEFINITION. The cab link (chapter 1): polling and presence, reception and its check, classification
and delivery, the forwarding table, transmission, LOOPBACK. -/

namespace Sys2Proof.Machine

open Sys2Proof

/-! ### Own transmission opportunities (R9) -/

/-- The frame a port would send, and the queue it stands in (R9). -/
def State.nextFrame (s : State) : Seg → Option (Frame × TxOrigin)
  | .rear => s.link.rear.queue.head?.map fun f => (f, .transmit)
  | .front =>
    match s.link.turn, s.link.front.queue.head?, s.link.monitor.head? with
    | .transmit, some f, _ => some (f, .transmit)
    | .transmit, none, m => m.map fun f => (f, .monitor)
    | .monitor, _, some m => some (m, .monitor)
    | .monitor, q, none => q.map fun f => (f, .transmit)

/-- An own transmission opportunity: one frame starts to be sent, and stays at its queue's head until
it has been (R9, R5). -/
def State.opportunity (s : State) (seg : Seg) : State :=
  let p := s.port seg
  if p.running && p.mode == .normal && p.sending.isNone then
    match s.nextFrame seg with
    | some (f, o) => s.modPort seg fun p => { p with sending := some ⟨f, o, true⟩ }
    | none => s
  else s

/-! ### Polling and presence (R6 to R8) -/

/-- A node is due for a poll (R6). -/
def NodeEntry.due (n : NodeEntry) : Bool :=
  match n.presence with
  | .probing | .present => true
  | .lost => n.repollDue
  | .absent => false

/-- The next node to poll: the first due one after the pointer, the pointer's own last (R6). -/
def PortState.nextDue (p : PortState) : Option Nat :=
  ((List.range 7).map fun i => (p.pointer + i) % 7 + 1).find? fun n =>
    ((p.nodes[n - 1]?).map (·.due)).getD false

/-- A node's row after an answered poll (R8). -/
def NodeEntry.answered (n : NodeEntry) : NodeEntry :=
  match n.presence with
  | .absent => n
  | _ => ⟨.present, 0, false⟩

/-- A node's row after a missed poll (R8). -/
def NodeEntry.missedPoll (n : NodeEntry) : NodeEntry :=
  match n.presence with
  | .absent | .lost => n
  | _ => if 3 ≤ n.missed + 1 then ⟨.lost, 3, false⟩ else { n with missed := n.missed + 1 }

/-- The end of a poll exchange: the node's row, NODE_LOST or NODE_FOUND, and what follows the presence
(R8). DESIGN CHOICE, log entry 41: the notice comes first. -/
def State.endExchange (s : State) (seg : Seg) (answered : Bool) : State :=
  match (s.port seg).exchange with
  | none => s
  | some x =>
    let a : NodeAddr := ⟨seg, x.node⟩
    let s' := (s.modPort seg fun p => { p with exchange := none }).modNode a fun n =>
      if answered then n.answered else n.missedPoll
    let s' :=
      if s.presence a = .present ∧ s'.presence a = .lost then s'.offerNotice (.nodeLost a)
      else if s.presence a = .lost ∧ s'.presence a = .present then s'.offerNotice (.nodeFound a)
      else s'
    s.followPresence s'

/-- What follows a poll exchange: a waiting LOOPBACK takes effect, or the port takes an own transmission
opportunity (R7, R19). -/
def State.afterExchange (s : State) (seg : Seg) : State :=
  if (s.port seg).loopWanted then
    s.modPort seg fun p => { p with mode := .loopback, loopTimer := 60, loopWanted := false }
  else s.opportunity seg

/-- A poll exchange in progress is missed (R7). -/
def State.missExchange (s : State) (seg : Seg) : State :=
  if (s.port seg).exchange.isSome then (s.endExchange seg false).afterExchange seg else s

/-- The line is free: the port neither receives nor sends, and no exchange is in progress. DEDUCED, log
entry 22: when the line is free. -/
def PortState.free (p : PortState) : Bool :=
  p.running && p.mode == .normal && p.exchange.isNone && p.sending.isNone && p.rx == .waiting

/-- The port polls the next due node, or takes an own transmission opportunity (R6, R7). -/
def State.pollNext (s : State) (seg : Seg) : State :=
  match (s.port seg).nextDue with
  | some n =>
    s.modPort seg fun p =>
      { p with
        pointer := n, exchange := some ⟨n, false⟩
        nodes := p.nodes.modify (n - 1) fun e => { e with repollDue := false } }
  | none => s.opportunity seg

/-! ### Errors (R2 to R4) -/

/-- One more format error at a port. -/
def State.formatError (s : State) (seg : Seg) : State :=
  s.modPort seg fun p => { p with formatErrors := satInc max16 p.formatErrors }

/-- One more CRC error at a port. -/
def State.crcError (s : State) (seg : Seg) : State :=
  s.modPort seg fun p => { p with crcErrors := satInc max16 p.crcErrors }

/-- A counted violation: the window and the violation counter, and PORT_DEGRADED at 17 while GOOD
(R2, R4). -/
def State.countViolation (s : State) (seg : Seg) : State :=
  let p := s.port seg
  let window := satInc 255 p.window
  let s := s.modPort seg fun p => { p with window, violations := satInc max16 p.violations }
  if p.health = .good ∧ window = 17 then
    (s.modPort seg fun p => { p with health := .degraded, quiet := 0 }).offerNotice (.portDegraded seg)
  else s

/-- A frame aborted as overlength (R2). -/
def State.overlength (s : State) (seg : Seg) : State :=
  ((s.modPort seg fun p => { p with rx := .ignoring }).formatError seg).missExchange seg

/-! ### LOOPBACK (R19, R20) -/

/-- A valid frame in LOOPBACK: echoed at once, after the frame being sent, or counted and discarded
(R19). DESIGN CHOICE, log entry 34: one that arrives while an end of LOOPBACK waits for its echo, or while
the port still sends a frame of its own. -/
def PortState.takeEcho (p : PortState) (body : List Byte) : PortState :=
  if p.sending.isNone then { p with sending := some ⟨.relay body, .echo, false⟩ }
  else if p.echo.isNone then { p with echo := some body }
  else { p with overflow := satInc max16 p.overflow }

/-- LOOPBACK ends by a request or its timer; an echo being sent or pending goes out first (R20). DESIGN
CHOICE, log entry 34: an echo that is being sent. -/
def PortState.leaveLoopback (p : PortState) : PortState :=
  if p.echo.isSome || ((p.sending.map (·.origin == .echo)).getD false) then
    { p with loopTimer := 0, loopLeaving := true }
  else { p with mode := .normal, loopTimer := 0, loopLeaving := false }

/-- LOOPBACK set on a port; during a poll exchange it waits for the exchange's end (R19). DESIGN CHOICE, log
entry 34: an ON while an end of LOOPBACK waits for its echo, or while the port sends a frame of its own. -/
def PortState.enterLoopback (p : PortState) : PortState :=
  if p.exchange.isSome then { p with loopWanted := true }
  else { p with mode := .loopback, loopTimer := 60, loopLeaving := false }

/-- LOOPBACK ended on a port; a port in NORMAL mode stays as it is, with an ON that waits for the end of
its poll exchange (R19, R20). -/
def PortState.offLoopback (p : PortState) : PortState :=
  match p.mode with
  | .normal => p
  | .loopback => if p.loopLeaving then p else p.leaveLoopback

/-- LOOPBACK decided (R19). -/
def State.decideLoopback (s : State) (rq : Req) (d : Option (Seg × Bool)) : State :=
  s.whenAllowed rq .loopback .none true fun s =>
    match d with
    | none => s.mgmtRespond rq .loopback .none .badValue
    | some (seg, true) =>
      if s.meter.state = .hired ∨ s.meter.state = .pay then
        s.mgmtRespond rq .loopback .none .refusedState
      else (s.modPort seg PortState.enterLoopback).mgmtRespond rq .loopback .none .ok
    | some (seg, false) =>
      (s.modPort seg PortState.offLoopback).mgmtRespond rq .loopback .none .ok

/-- The next echo of a port in LOOPBACK, or the end of LOOPBACK that waited for it (R19, R20). DESIGN CHOICE,
log entry 34: every echo that has come by then goes out before the end. -/
def PortState.nextEcho (p : PortState) : PortState :=
  match p.mode, p.echo with
  | .normal, _ => p
  | .loopback, some body => { p with echo := none, sending := some ⟨.relay body, .echo, false⟩ }
  | .loopback, none =>
    if p.loopLeaving then { p with mode := .normal, loopTimer := 0, loopLeaving := false } else p

/-! ### Departure (R9, R10) -/

/-- The attempts a departure from the front transmit queue prompts: a notice drain, the console's view
and an advice. -/
inductive Attempt | drain | view | advice
  deriving DecidableEq, Repr, Inhabited

/-- An attempt taken (R39, R113, R174). -/
def State.attempt (s : State) : Attempt → State
  | .drain => s.drain
  | .view => s.tryView .console
  | .advice => s.tryAdvice

/-- The six orders of the attempts. -/
def attemptOrder : Nat → List Attempt
  | 0 => [.drain, .view, .advice]
  | 1 => [.drain, .advice, .view]
  | 2 => [.view, .drain, .advice]
  | 3 => [.view, .advice, .drain]
  | 4 => [.advice, .drain, .view]
  | _ => [.advice, .view, .drain]

/-- The attempts at a departure, in an order that R10 leaves free (log entry 3). -/
def State.departed (s : State) : Seg → State
  | .front =>
    (attemptOrder (Config.departureOrder s.free % 6)).foldl State.attempt { s with free := s.free + 1 }
  | .rear => s.tryView .paxDisplay

/-- The sent frame leaves its queue (R5). DEDUCED, log entry 22: a frame stays at the head until sent. -/
def State.removeSent (s : State) (seg : Seg) (x : Sending) : State :=
  let s := s.modPort seg fun p => { p with sending := none }
  match x.origin, x.queued with
  | .transmit, true => s.modPort seg fun p => { p with queue := p.queue.drop 1 }
  | .monitor, true => { s with link := { s.link with monitor := s.link.monitor.drop 1 } }
  | _, _ => s

/-- The turn mark after a frame has been sent (R9). -/
def State.turnAfter (s : State) (seg : Seg) (x : Sending) : State :=
  match seg, x.origin with
  | .front, .transmit => { s with link := { s.link with turn := .monitor } }
  | .front, .monitor => { s with link := { s.link with turn := .transmit } }
  | _, _ => s

/-- A frame's end delimiter has been sent (R5, R9, R10, R19). DESIGN CHOICE, log entry 34: a frame of the
port's own queue that an ON found being sent leaves that queue in LOOPBACK. -/
def State.frameSent (s : State) (seg : Seg) : State :=
  match (s.port seg).sending with
  | none => s
  | some x =>
    let s := ((s.removeSent seg x).turnAfter seg x).modPort seg PortState.nextEcho
    if x.origin = .transmit ∧ x.queued then s.departed seg else s

/-! ### Classification and the forwarding table (R12 to R15) -/

/-- The other segment. -/
def otherSeg : Seg → Seg
  | .front => .rear
  | .rear => .front

/-- A PASS: the frame is offered unchanged to the other port, which counts a refusal (R15). -/
def State.pass (s : State) (src : Seg) (body : List Byte) : State :=
  match s.offerFrame (otherSeg src) (.relay body) with
  | (s, true) => s
  | (s, false) => s.modPort (otherSeg src) fun p => { p with overflow := satInc max16 p.overflow }

/-- The first entry that matches a frame, with its number (R14). -/
def State.matching (s : State) (h : Header) : Option (Nat × FwdEntry) :=
  (s.tables.forwarding.findIdx? fun e => (e.map (s.entryMatches · h)).getD false).bind fun i =>
    ((s.tables.forwarding[i]?).join).map fun e => (i, e)

/-- A frame looked up in the forwarding table; `pay` is its delivery to the payment controller
(R14, R15). -/
def State.lookup (s : State) (h : Header) (body : List Byte) (pay : State → State) : State :=
  match s.matching h with
  | none => { s with link := { s.link with noMatch := satInc max16 s.link.noMatch } }
  | some (i, e) =>
    let s := { s with link := { s.link with hits := s.link.hits.modify i (satInc max16) } }
    match e.action with
    | .pass => s.pass h.src.seg body
    | .drop => s
    | .payment =>
      if h.kind = .payReq ∨ h.kind = .payResp then pay s
      else { s with link := { s.link with actionErrors := satInc max16 s.link.actionErrors } }

/-- Classification of a frame that arrived on its source's segment; `deliver` is its delivery as a LOCAL
frame (R12). -/
def State.classify (s : State) (h : Header) (body : List Byte) (deliver pay : State → State) : State :=
  if (h.kind = .mgmtReq ∨ h.kind = .consoleReq) ∧ h.src.seg = .rear then s
  else if h.dst.num = 0 then deliver s
  else if h.dst.seg = h.src.seg then s
  else s.lookup h body pay

/-! ### Delivery of LOCAL frames (R13, R25, R94) -/

/-- A management request decided by the rule or chapter of its operation (R25). -/
def State.decideMgmt (s : State) (rq : Req) : Config.MgmtOp → State
  | .read t sel => s.decideRead rq t sel
  | .write t => s.decideWrite rq t
  | .forwardingWrite i d => s.decideForwardingWrite rq i d
  | .rolesWrite a d => s.decideRolesWrite rq a d
  | .noticeClassWrite i d => s.decideNoticeClassWrite rq i d
  | .signChannelWrite i d => s.decideSignChannelWrite rq i d
  | .signPatternWrite n d => s.decideSignPatternWrite rq n d
  | .brightnessWrite d => s.decideBrightnessWrite rq d
  | .promptsWrite i d => s.decidePromptsWrite rq i d
  | .promptMapWrite i d => s.decidePromptMapWrite rq i d
  | .intercomSetWrite i d => s.decideIntercomSetWrite rq i d
  | .payLimitsWrite i d => s.decidePayLimitsWrite rq i d
  | .powerSetWrite i d => s.decidePowerSetWrite rq i d
  | .openLoad t => s.decideOpenLoad rq t
  | .writePart t d => s.decideWritePart rq t d
  | .commit t => s.decideCommit rq t
  | .abortLoad t => s.decideAbortLoad rq t
  | .setTime t => s.decideSetTime rq t
  | .ackTrips n => s.decideAckTrips rq n
  | .emergencyClear => s.decideEmergencyClear rq
  | .clearLamp c => s.decideClearLamp rq c
  | .signTest d v => s.decideSignTest rq d v
  | .speakerTest side => s.decideSpeakerTest rq side
  | .loopback d => s.decideLoopback rq d
  | .restart => s.decideRestart rq
  | .unknown t => s.mgmtRespond rq .unknown t .badValue

/-- A console request decided, or handed to the block that decides it (R94). -/
def State.decideConsole (s : State) (rq : Req) : Config.ConsoleOp → State
  | .onDuty => s.decideOnDuty rq
  | .offDuty => s.decideOffDuty rq
  | .hire t => s.decideHire rq t
  | .pay => s.decidePay rq
  | .resume => s.decideResume rq
  | .extra c => s.decideExtra rq c
  | .endUnpaid => s.decideEndUnpaid rq
  | .payCard a => s.decidePayCard rq a
  | .payCancel => s.decidePayCancel rq
  | .cash a => s.decideCash rq a
  | .shiftOpen d => s.decideShiftOpen rq d
  | .shiftClose => s.decideShiftClose rq
  | .auxLamp c v => s.decideAuxLamp rq c v
  | .prompt i => s.decidePrompt rq i
  | .malformed n => s.consoleRespond rq n .badValue

/-- A LOCAL frame taken by the block of its kind, once its sender has been checked (R13). -/
def State.deliver (s : State) (h : Header) (payload : List Byte) : State :=
  match h.kind with
  | .mgmtReq =>
    let r := Config.readMgmt payload
    s.checkMgmtSender h.src fun s => s.decideMgmt ⟨h.src, r.1 % 256, r.2.1⟩ r.2.2
  | .consoleReq =>
    let r := Config.readConsole payload
    s.checkConsoleSender h.src fun s => s.decideConsole ⟨h.src, r.1 % 256, .none⟩ r.2
  | .viewAck =>
    let r := Config.readViewAck payload
    s.checkSender .paxDisplay h.src fun s => s.takeViewAck r.1 r.2
  | .offerAck =>
    let r := Config.readOfferAck payload
    s.checkSender .reader h.src fun s => s.takeOfferAck r.1 r.2
  | .adviceAck =>
    let r := Config.readAdviceAck payload
    s.checkSender .modem h.src fun s => s.takeAdviceAck r.1 r.2
  | _ => s.localReject

/-- A PAY_REQ or PAY_RESP of a received frame given to the payment controller (R15). -/
def State.takePayment (s : State) (h : Header) (payload : List Byte) : State :=
  match h.kind with
  | .payReq => s.takePayReq h.src (Config.readPayReq payload)
  | _ => s.takePayResp h.src (Config.readPayResp payload)

/-! ### Reception (R3, R7, R19) -/

/-- A valid frame in NORMAL mode at the poll exchange (R7). -/
def State.takeReply (s : State) (seg : Seg) (h : Header) (payload body : List Byte) : State :=
  match (s.port seg).exchange with
  | none => s.formatError seg
  | some x =>
    if h.src = ⟨seg, x.node⟩ then
      let s := s.endExchange seg true
      let s :=
        if h.kind = .empty then s
        else s.classify h body (·.deliver h payload) (·.takePayment h payload)
      s.afterExchange seg
    else (s.formatError seg).missExchange seg

/-- The port receives: it runs, and does not ignore the line. -/
def PortState.listens (p : PortState) : Bool := p.running && p.rx != .ignoring

/-- A frame that ended with an end delimiter, checked and taken (R2, R3, R7, R19). DEDUCED, log entry 19: in
which receiver states the row acts. -/
def State.receiveFrame (s : State) (seg : Seg) (body : List Byte) : State :=
  if (s.port seg).listens then
    if 66 < body.length then s.overlength seg
    else
      let s := s.modPort seg fun p => { p with rx := .waiting }
      match checkFrame seg body with
      | .formatError => (s.formatError seg).missExchange seg
      | .crcError => (s.crcError seg).missExchange seg
      | .valid h payload =>
        match (s.port seg).mode with
        | .loopback => s.modPort seg fun p => p.takeEcho body
        | .normal => s.takeReply seg h payload body
  else s

/-! ### Meanings -/

/-- FRAME_RECEIVED. -/
def execFrameReceived (seg : Seg) (body : List Byte) (s : State) : Host.Outcome State Fault Refusal :=
  .next (s.receiveFrame seg body)

/-- POLL_REPLY_EMPTY: the polled node has answered with EMPTY (R7, R8). -/
def execPollReplyEmpty (seg : Seg) (s : State) : Host.Outcome State Fault Refusal :=
  .next
    (if (s.port seg).listens && (s.port seg).exchange.isSome then
      ((s.modPort seg fun p => { p with rx := .waiting }).endExchange seg true).afterExchange seg
     else s)

/-- DATA_FRAME: the body 1.3 gives a DATA frame, received. DEDUCED, log entry 21: the path of the row. -/
def execDataFrame (seg : Seg) (src dst : NodeAddr) (payload : List Byte) (s : State) :
    Host.Outcome State Fault Refusal :=
  .next (s.receiveFrame seg (frameBody dst src .data payload))

/-- POLL_START (R6). -/
def execPollStart (seg : Seg) (s : State) : Host.Outcome State Fault Refusal :=
  .next (if (s.port seg).free then s.pollNext seg else s)

/-- POLL_REPLY_TIMEOUT: no reply began within the window (R7). -/
def execPollReplyTimeout (seg : Seg) (s : State) : Host.Outcome State Fault Refusal :=
  .next
    (match (s.port seg).exchange with
     | some ⟨_, false⟩ => s.missExchange seg
     | _ => s)

/-- REPOLL_DUE: 200 ms have passed since a LOST node's last POLL (R6). -/
def execRepollDue (a : NodeAddr) (s : State) : Host.Outcome State Fault Refusal :=
  .next (s.modNode a fun n => if n.presence = .lost then { n with repollDue := true } else n)

/-- FRAME_SENT. -/
def execFrameSent (seg : Seg) (s : State) : Host.Outcome State Fault Refusal :=
  .next (s.frameSent seg)

/-- LINE_WAKE_BURST: in PARKED, the first start delimiter on a port's line wakes the part (R21, R206). -/
def execLineWakeBurst (seg : Seg) (s : State) : Host.Outcome State Fault Refusal :=
  .next (s.wakeBy (match seg with | .front => .frontLine | .rear => .rearLine))

/-- LOOPBACK. -/
def execLoopback (rq : Req) (d : Option (Seg × Bool)) (s : State) : Host.Outcome State Fault Refusal :=
  .next (s.whenMgmt rq fun s => s.decideLoopback rq d)

/-- LOOPBACK_TIMER_EXPIRY (R20). -/
def execLoopbackTimerExpiry (seg : Seg) (s : State) : Host.Outcome State Fault Refusal :=
  .next
    (s.modPort seg fun p =>
      if p.mode = .loopback ∧ p.loopLeaving = false then p.leaveLoopback else p)

/-- A payment frame on the line, classified; it is no kind that a block takes as LOCAL (R12, R13). DEDUCED,
log entry 21: the path of the row. -/
def State.classifyPayment (s : State) (src dst : NodeAddr) (k : FrameKind) (payload : List Byte)
    (pay : State → State) : State :=
  if s.receives src.seg then
    if src.num = 0 then s.formatError src.seg
    else s.classify ⟨dst, src, k⟩ (frameBody dst src k payload) State.localReject pay
  else s

/-- PAY_REQ. -/
def execPayReq (src dst : NodeAddr) (d : PayReq) (s : State) : Host.Outcome State Fault Refusal :=
  .next (s.classifyPayment src dst .payReq (Config.payReqBytes d) fun s => s.takePayReq src d)

/-- PAY_RESP. -/
def execPayResp (src dst : NodeAddr) (d : PayResp) (s : State) : Host.Outcome State Fault Refusal :=
  .next (s.classifyPayment src dst .payResp (Config.payRespBytes d) fun s => s.takePayResp src d)

/-- START_DELIMITER_SEEN: a frame begins, and within a reply window the reply has begun (R2, R7). -/
def execStartDelimiterSeen (seg : Seg) (s : State) : Host.Outcome State Fault Refusal :=
  .next
    (if (s.port seg).running && (s.port seg).rx == .waiting then
      s.modPort seg fun p =>
        { p with
          rx := .receiving
          exchange := p.exchange.map fun x => ({ x with replying := true } : Exchange) }
     else s)

/-- RECEIVED_CODE_VIOLATION: the frame being received is aborted and the violation counted (R2, R4).
DEDUCED, log entry 19: in which receiver states the row acts. DESIGN CHOICE, log entry 41: where one violation
does both, PORT_DEGRADED comes before NODE_LOST. -/
def execReceivedCodeViolation (seg : Seg) (s : State) : Host.Outcome State Fault Refusal :=
  .next
    (if (s.port seg).running && (s.port seg).rx == .receiving then
      ((s.modPort seg fun p => { p with rx := .ignoring }).countViolation seg).missExchange seg
     else s)

/-- OVERLENGTH_ABORT (R2). -/
def execOverlengthAbort (seg : Seg) (s : State) : Host.Outcome State Fault Refusal :=
  .next
    (if (s.port seg).running && (s.port seg).rx == .receiving then s.overlength seg else s)

/-- LINE_IDLE_RESUME: the line has been idle for 8 µs after an aborted frame (R2). -/
def execLineIdleResume (seg : Seg) (s : State) : Host.Outcome State Fault Refusal :=
  .next
    (if (s.port seg).rx = .ignoring then s.modPort seg fun p => { p with rx := .waiting } else s)

end Sys2Proof.Machine
end

