-- ==== Sys2Proof/Machine/Dispatch.lean ====
section
/-! DEFINITION. The effect of every command: one arm a row of spec/opcode_table.json, in its order. -/

namespace Sys2Proof.Machine

open Sys2Proof

/-- A command's effect on everything but the queue of waiting commands. -/
def exec (i : Instr) (s : State) : Host.Outcome State Fault Refusal :=
  match i with
  | .frameReceived port body => Sys2Proof.Machine.execFrameReceived port body s
  | .pollReplyEmpty port => Sys2Proof.Machine.execPollReplyEmpty port s
  | .dataFrame port src dst payload => Sys2Proof.Machine.execDataFrame port src dst payload s
  | .pollStart port => Sys2Proof.Machine.execPollStart port s
  | .pollReplyTimeout port => Sys2Proof.Machine.execPollReplyTimeout port s
  | .repollDue node => Sys2Proof.Machine.execRepollDue node s
  | .frameSent port => Sys2Proof.Machine.execFrameSent port s
  | .lineWakeBurst port => Sys2Proof.Machine.execLineWakeBurst port s
  | .loopback rq setting => Sys2Proof.Machine.execLoopback rq setting s
  | .loopbackTimerExpiry port => Sys2Proof.Machine.execLoopbackTimerExpiry port s
  | .read rq target sel => Sys2Proof.Machine.execRead rq target sel s
  | .write rq target => Sys2Proof.Machine.execWrite rq target s
  | .forwardingWrite rq index data => Sys2Proof.Machine.execForwardingWrite rq index data s
  | .rolesWrite rq node data => Sys2Proof.Machine.execRolesWrite rq node data s
  | .noticeClassWrite rq index data => Sys2Proof.Machine.execNoticeClassWrite rq index data s
  | .signChannelWrite rq index data => Sys2Proof.Machine.execSignChannelWrite rq index data s
  | .signPatternWrite rq pattern data => Sys2Proof.Machine.execSignPatternWrite rq pattern data s
  | .brightnessWrite rq data => Sys2Proof.Machine.execBrightnessWrite rq data s
  | .promptsWrite rq index data => Sys2Proof.Machine.execPromptsWrite rq index data s
  | .promptMapWrite rq index data => Sys2Proof.Machine.execPromptMapWrite rq index data s
  | .intercomSetWrite rq index data => Sys2Proof.Machine.execIntercomSetWrite rq index data s
  | .payLimitsWrite rq index data => Sys2Proof.Machine.execPayLimitsWrite rq index data s
  | .powerSetWrite rq index data => Sys2Proof.Machine.execPowerSetWrite rq index data s
  | .tableWriteComplete => Sys2Proof.Machine.execTableWriteComplete s
  | .openLoad rq target => Sys2Proof.Machine.execOpenLoad rq target s
  | .writePart rq target data => Sys2Proof.Machine.execWritePart rq target data s
  | .commit rq target => Sys2Proof.Machine.execCommit rq target s
  | .abortLoad rq target => Sys2Proof.Machine.execAbortLoad rq target s
  | .loadWindowExpiry => Sys2Proof.Machine.execLoadWindowExpiry s
  | .pendingCommitStored => Sys2Proof.Machine.execPendingCommitStored s
  | .applicationComplete => Sys2Proof.Machine.execApplicationComplete s
  | .metrologySwitchOpen => Sys2Proof.Machine.execMetrologySwitchOpen s
  | .metrologySwitchClose => Sys2Proof.Machine.execMetrologySwitchClose s
  | .meterInterval => Sys2Proof.Machine.execMeterInterval s
  | .trimCountExpiry => Sys2Proof.Machine.execTrimCountExpiry s
  | .secondEvent => Sys2Proof.Machine.execSecondEvent s
  | .minuteEvent => Sys2Proof.Machine.execMinuteEvent s
  | .setTime rq t => Sys2Proof.Machine.execSetTime rq t s
  | .backupLoss => Sys2Proof.Machine.execBackupLoss s
  | .odometerEdge capture => Sys2Proof.Machine.execOdometerEdge capture s
  | .holdoffExpiry => Sys2Proof.Machine.execHoldoffExpiry s
  | .onDuty rq => Sys2Proof.Machine.execOnDuty rq s
  | .offDuty rq => Sys2Proof.Machine.execOffDuty rq s
  | .hire rq tariff => Sys2Proof.Machine.execHire rq tariff s
  | .pay rq => Sys2Proof.Machine.execPay rq s
  | .resume rq => Sys2Proof.Machine.execResume rq s
  | .extra rq code => Sys2Proof.Machine.execExtra rq code s
  | .endUnpaid rq => Sys2Proof.Machine.execEndUnpaid rq s
  | .closeUpdateComplete => Sys2Proof.Machine.execCloseUpdateComplete s
  | .correctionWindowExpiry => Sys2Proof.Machine.execCorrectionWindowExpiry s
  | .viewHoldoffExpiry dest => Sys2Proof.Machine.execViewHoldoffExpiry dest s
  | .viewAck src seq fare => Sys2Proof.Machine.execViewAck src seq fare s
  | .auxLamp rq channel value => Sys2Proof.Machine.execAuxLamp rq channel value s
  | .signTest rq duration values => Sys2Proof.Machine.execSignTest rq duration values s
  | .signTestExpiry => Sys2Proof.Machine.execSignTestExpiry s
  | .ambientSample sample => Sys2Proof.Machine.execAmbientSample sample s
  | .lampCheck channel current => Sys2Proof.Machine.execLampCheck channel current s
  | .clearLamp rq channel => Sys2Proof.Machine.execClearLamp rq channel s
  | .emergencySwitchClose => Sys2Proof.Machine.execEmergencySwitchClose s
  | .emergencySwitchOpen => Sys2Proof.Machine.execEmergencySwitchOpen s
  | .emergencyHoldExpiry => Sys2Proof.Machine.execEmergencyHoldExpiry s
  | .emergencyClear rq => Sys2Proof.Machine.execEmergencyClear rq s
  | .codecFrame drv pax => Sys2Proof.Machine.execCodecFrame drv pax s
  | .promptEnd => Sys2Proof.Machine.execPromptEnd s
  | .monitorFrameComplete => Sys2Proof.Machine.execMonitorFrameComplete s
  | .blockBoundary => Sys2Proof.Machine.execBlockBoundary s
  | .prompt rq index => Sys2Proof.Machine.execPrompt rq index s
  | .speakerTest rq side => Sys2Proof.Machine.execSpeakerTest rq side s
  | .speakerTestEnd => Sys2Proof.Machine.execSpeakerTestEnd s
  | .payCard rq amount => Sys2Proof.Machine.execPayCard rq amount s
  | .offerAck src trip index => Sys2Proof.Machine.execOfferAck src trip index s
  | .payCancel rq => Sys2Proof.Machine.execPayCancel rq s
  | .cash rq amount => Sys2Proof.Machine.execCash rq amount s
  | .payReq src dst data => Sys2Proof.Machine.execPayReq src dst data s
  | .payResp src dst data => Sys2Proof.Machine.execPayResp src dst data s
  | .authTimerExpiry => Sys2Proof.Machine.execAuthTimerExpiry s
  | .adviceAckTimeout => Sys2Proof.Machine.execAdviceAckTimeout s
  | .adviceAck src ref kind => Sys2Proof.Machine.execAdviceAck src ref kind s
  | .shiftOpen rq driver => Sys2Proof.Machine.execShiftOpen rq driver s
  | .shiftOpenUpdateComplete => Sys2Proof.Machine.execShiftOpenUpdateComplete s
  | .shiftClose rq => Sys2Proof.Machine.execShiftClose rq s
  | .shiftCloseUpdateComplete => Sys2Proof.Machine.execShiftCloseUpdateComplete s
  | .shiftLimitReached => Sys2Proof.Machine.execShiftLimitReached s
  | .ackTrips rq n => Sys2Proof.Machine.execAckTrips rq n s
  | .ackTripsWriteComplete => Sys2Proof.Machine.execAckTripsWriteComplete s
  | .supplySample sample => Sys2Proof.Machine.execSupplySample sample s
  | .holdupSaveComplete => Sys2Proof.Machine.execHoldupSaveComplete s
  | .supplyGone => Sys2Proof.Machine.execSupplyGone s
  | .ignitionOff => Sys2Proof.Machine.execIgnitionOff s
  | .ignitionOn => Sys2Proof.Machine.execIgnitionOn s
  | .parkDelayExpiry => Sys2Proof.Machine.execParkDelayExpiry s
  | .checkpointTimerExpiry => Sys2Proof.Machine.execCheckpointTimerExpiry s
  | .checkpointComplete => Sys2Proof.Machine.execCheckpointComplete s
  | .restart rq => Sys2Proof.Machine.execRestart rq s
  | .restartSaveComplete ambient => Sys2Proof.Machine.execRestartSaveComplete ambient s
  | .coldStart sample ambient => Sys2Proof.Machine.execColdStart sample ambient s
  | .pinReset ambient => Sys2Proof.Machine.execPinReset ambient s
  | .startDelimiterSeen port => Sys2Proof.Machine.execStartDelimiterSeen port s
  | .receivedCodeViolation port => Sys2Proof.Machine.execReceivedCodeViolation port s
  | .overlengthAbort port => Sys2Proof.Machine.execOverlengthAbort port s
  | .lineIdleResume port => Sys2Proof.Machine.execLineIdleResume port s

end Sys2Proof.Machine
end

