-- ==== Sys2Proof/Machine/LineCode.lean ====
section
/-! DEFINITION. Line coding (1.1): the bit times of a frame on a segment's line, and what a receiver makes
of the bit times it sees. The commands of the table stand for what the receiver decides. -/

namespace Sys2Proof.Machine

open Sys2Proof

/-- One bit time: the levels of its two half-bit cells, `true` for high (R1). -/
abbrev BitTime := Bool × Bool

/-- A coded bit: its value in the first cell, the opposite level in the second (R1). -/
def codedBit (b : Bool) : BitTime := (b, !b)

/-- The start delimiter: H H, L L, a coded 1 (R1). -/
def startDelimiter : List BitTime := [(true, true), (false, false), codedBit true]

/-- The end delimiter: L L, H H, a coded 0 (R1). -/
def endDelimiter : List BitTime := [(false, false), (true, true), codedBit false]

/-- A byte on the line, most significant bit first (R1). -/
def codedByte (b : Byte) : List BitTime :=
  [7, 6, 5, 4, 3, 2, 1, 0].map fun i => codedBit (b.getLsbD i)

/-- A frame on the line: start delimiter, body, end delimiter (R1). -/
def lineBits (body : List Byte) : List BitTime :=
  startDelimiter ++ body.flatMap codedByte ++ endDelimiter

/-- The body of the POLL a port sends to a node (1.3, R7). -/
def pollBody (seg : Seg) (node : Nat) : List Byte := frameBody ⟨seg, node⟩ ⟨seg, 0⟩ .poll []

/-- The bit times of the frame a port is sending; none while it sends no frame (R5). -/
def State.lineOut (s : State) (seg : Seg) : List BitTime :=
  match (s.port seg).sending with
  | some x => lineBits x.frame.body
  | none => []

/-- How the reception of a frame ends (R2); `unfinished` while none of the three has happened. -/
inductive Reception
  | frame (body : List Byte)
  | violation
  | overlength
  | unfinished
  deriving DecidableEq, Repr, Inhabited

/-- The byte of eight bits, most significant first. -/
def byteOf (bits : List Bool) : Byte :=
  BitVec.ofNat 8 (bits.foldl (fun n b => 2 * n + b.toNat) 0)

/-- Reception after a start delimiter (R2): the bytes collected, the bits of the byte in progress, and how
many pairs of an end delimiter have been seen. DEDUCED, log entry 32: whole bit times after the start
delimiter. -/
def receiveBits (bytes : List Byte) (bits : List Bool) (ending : Nat) : List BitTime → Reception
  | [] => .unfinished
  | (a, b) :: rest =>
    match ending with
    | 0 =>
      if a != b then
        if bits.length = 7 then
          if 66 ≤ bytes.length then .overlength
          else receiveBits (bytes ++ [byteOf (bits ++ [a])]) [] 0 rest
        else receiveBits bytes (bits ++ [a]) 0 rest
      else if !a && bits.isEmpty then receiveBits bytes [] 1 rest
      else .violation
    | 1 => if a && b then receiveBits bytes [] 2 rest else .violation
    | _ => if !a && b then .frame bytes else .violation

/-- The commands that stand for what a receiver sees on an idle line: the start delimiter, and the end of
the reception (R2). -/
def lineCommands (seg : Seg) (line : List BitTime) : List Instr :=
  if line.take 3 = startDelimiter then
    .startDelimiterSeen seg ::
      (match receiveBits [] [] 0 (line.drop 3) with
       | .frame body => [.frameReceived seg body]
       | .violation => [.receivedCodeViolation seg]
       | .overlength => [.overlengthAbort seg]
       | .unfinished => [])
  else []

end Sys2Proof.Machine
end

