-- ==== Sys2Proof/WellFormed.lean ====
section
/-! DEFINITION. Which commands the outside can send: every number a command carries fits the field that
carries it. A value that fits its field and breaks an owner's range is well formed; the owner's rule
refuses it. -/

namespace Sys2Proof

/-- A node number fits an address (Conventions). -/
def NodeAddr.wellFormed (a : NodeAddr) : Bool := decide (a.num ≤ 7)

/-- The address of an external node: node 1–7 of a segment (1.3). -/
def NodeAddr.external (a : NodeAddr) : Bool := decide (1 ≤ a.num) && decide (a.num ≤ 7)

/-- An index fits its field, 0–65,535 (R24). -/
def indexFits (i : Nat) : Bool := decide (i ≤ 65535)

/-- A request comes from an external node under a tag 0–255, with an index that fits (R24, R94). -/
def Req.wellFormed (rq : Req) : Bool :=
  rq.src.external && decide (rq.tag ≤ 255) && indexFits rq.echo.index

/-- An object's index fits its field, or is a node address (R24). -/
def Target.wellFormed : Target → Bool
  | .forwarding i | .signTable i | .prompts i | .promptMap i | .intercomSet i | .payLimits i
  | .powerSet i | .tariffSet i | .calibration i | .shift i | .lastShift i | .trip i | .advice i
  | .portStatus i => indexFits i
  | .roles a | .nodeTable a => a.wellFormed
  | .noticeClass _ | .none | .totalizers | .meterStatus | .time | .restartInfo | .unknown => true

/-- A READ's data fits its bytes (R189, R193). -/
def ReadSel.wellFormed : ReadSel → Bool
  | .part n => indexFits n
  | .trip high p => indexFits high && decide (p ≤ 255)
  | .none | .copy _ | .stored => true

/-- A frame body that R2 lets through: at most 66 bytes. -/
def bodyFits (l : List Byte) : Bool := decide (l.length ≤ 66)

/-- A payload fits a frame (1.3). -/
def payloadFits (l : List Byte) : Bool := decide (l.length ≤ 60)

/-- A 32-bit number fits. -/
def fits32 (n : Nat) : Bool := decide (n ≤ max32)

/-- A pattern names each of the six channels (R120). -/
def patternFitsSix (p : Option Pattern) : Bool :=
  match p with
  | some l => l.length == 6
  | none => true

/-- A 12-bit ambient sample (R128). -/
def ambientFits (x : Nat) : Bool := decide (x ≤ 4095)

/-- A supply sample, 0–4,095 (11). -/
def supplyFits (x : Nat) : Bool := decide (x ≤ 4095)

/-- A payment reference fits: a boot epoch of one byte (R157). -/
def Ref.wellFormed (r : Ref) : Bool :=
  decide (r.epoch ≤ 255) && fits32 r.trip && decide (1 ≤ r.index) && decide (r.index ≤ 6)

/-- The fields of an authorization request fit (R164). -/
def PayReq.wellFormed (d : PayReq) : Bool := indexFits d.requestId && decide (d.card.length ≤ 40)

/-- The fields of an authorization response fit (R167). -/
def PayResp.wellFormed (d : PayResp) : Bool := d.ref.wellFormed && decide (d.authCode.length ≤ 8)

/-- A command is well formed. -/
def Instr.wellFormed : Instr → Bool
  | .frameReceived _ body => bodyFits body
  | .dataFrame _ src dst payload => src.external && dst.wellFormed && payloadFits payload
  | .repollDue a => a.external
  | .loopback rq _ | .setTime rq _ | .onDuty rq | .offDuty rq | .pay rq | .resume rq | .endUnpaid rq
  | .emergencyClear rq | .speakerTest rq _ | .payCard rq _ | .payCancel rq | .cash rq _
  | .shiftClose rq | .restart rq | .brightnessWrite rq _ | .noticeClassWrite rq _ _
  | .hire rq _ => rq.wellFormed
  | .read rq t sel => rq.wellFormed && t.wellFormed && sel.wellFormed
  | .write rq t | .openLoad rq t | .writePart rq t _ | .commit rq t | .abortLoad rq t =>
    rq.wellFormed && t.wellFormed
  | .forwardingWrite rq i _ | .signChannelWrite rq i _ | .promptsWrite rq i _
  | .promptMapWrite rq i _ | .intercomSetWrite rq i _ | .payLimitsWrite rq i _
  | .powerSetWrite rq i _ => rq.wellFormed && indexFits i
  | .rolesWrite rq a _ => rq.wellFormed && a.wellFormed
  | .signPatternWrite rq _ d => rq.wellFormed && patternFitsSix d
  | .signTest rq duration d => rq.wellFormed && indexFits duration && patternFitsSix d
  | .extra rq n | .auxLamp rq n _ | .clearLamp rq n | .prompt rq n => rq.wellFormed && indexFits n
  | .shiftOpen rq n | .ackTrips rq n => rq.wellFormed && fits32 n
  | .viewAck src seq fare => src.external && indexFits seq && fits32 fare
  | .offerAck src trip index => src.external && fits32 trip && indexFits index
  | .adviceAck src ref _ => src.external && ref.wellFormed
  | .payReq src dst d => src.external && dst.wellFormed && d.wellFormed
  | .payResp src dst d => src.external && dst.wellFormed && d.wellFormed
  | .ambientSample x => ambientFits x
  | .lampCheck channel current => decide (1 ≤ channel) && decide (channel ≤ 6) && indexFits current
  | .supplySample x => supplyFits x
  | .restartSaveComplete ambient | .pinReset ambient => ambientFits ambient
  | .coldStart sample ambient => supplyFits sample && ambientFits ambient
  | .pollReplyEmpty _ | .pollStart _ | .pollReplyTimeout _ | .frameSent _ | .lineWakeBurst _
  | .loopbackTimerExpiry _ | .tableWriteComplete | .loadWindowExpiry | .pendingCommitStored
  | .applicationComplete | .metrologySwitchOpen | .metrologySwitchClose | .meterInterval
  | .trimCountExpiry | .secondEvent | .minuteEvent | .backupLoss | .odometerEdge _
  | .holdoffExpiry | .closeUpdateComplete | .correctionWindowExpiry | .viewHoldoffExpiry _
  | .signTestExpiry | .emergencySwitchClose | .emergencySwitchOpen | .emergencyHoldExpiry
  | .codecFrame _ _ | .promptEnd | .monitorFrameComplete | .blockBoundary | .speakerTestEnd
  | .authTimerExpiry | .adviceAckTimeout | .shiftOpenUpdateComplete | .shiftCloseUpdateComplete
  | .shiftLimitReached | .ackTripsWriteComplete | .holdupSaveComplete | .supplyGone | .ignitionOff
  | .ignitionOn | .parkDelayExpiry | .checkpointTimerExpiry | .checkpointComplete
  | .startDelimiterSeen _ | .receivedCodeViolation _ | .overlengthAbort _ | .lineIdleResume _ => true

end Sys2Proof
end

