-- ==== Sys2Proof/Safety.lean ====
section
/-! DEFINITION. The terms the statements are written in: what a command leaves alone, what keeps the
part inside its limits, when a request reaches its decision, and the frames that answer it. -/

namespace Sys2Proof.Machine

open Sys2Proof

/-! ### Frames: what a command leaves alone -/

/-- The parts of the state. -/
inductive Part
  | pending | link | tables | mgmt | notices | time | distance | engine | meter | sign | intercom
  | pay | acct | power | pins | store | writes | free
  deriving DecidableEq, Repr

/-- Two states agree in one part. -/
def Part.same (s t : State) : Part → Prop
  | .pending => t.pending = s.pending
  | .link => t.link = s.link
  | .tables => t.tables = s.tables
  | .mgmt => t.mgmt = s.mgmt
  | .notices => t.notices = s.notices
  | .time => t.time = s.time
  | .distance => t.distance = s.distance
  | .engine => t.engine = s.engine
  | .meter => t.meter = s.meter
  | .sign => t.sign = s.sign
  | .intercom => t.intercom = s.intercom
  | .pay => t.pay = s.pay
  | .acct => t.acct = s.acct
  | .power => t.power = s.power
  | .pins => t.pins = s.pins
  | .store => t.store = s.store
  | .writes => t.writes = s.writes
  | .free => t.free = s.free

/-- Two states agree in every part but the listed ones. -/
def State.sameBut (l : List Part) (s t : State) : Prop := ∀ p, p ∉ l → p.same s t

/-! ### Invariants -/

/-- The tenders that a save or a checkpoint carries. -/
def SaveRecord.tenders (r : SaveRecord) : List Tender := (r.trip.map (·.record.tenders)).getD []

/-- The tenders that a waiting store write carries for a later start-up. -/
def StoreWrite.tenders : StoreWrite → List Tender
  | .save _ r _ _ | .checkpoint r _ _ _ _ => r.tenders
  | _ => []

/-- The collections whose limits the manual gives hold no more than those limits: the transmit queues
(R10), the monitor queue (R11), the notice queue (2.5), the prompt queue (R147), the tender list (R157) with
its saved copies, the late match list (R170), the advice queue (R172) with its stored copy, and the trip log
(R190). -/
def State.bounded (s : State) : Prop :=
  s.link.front.queue.length ≤ 24 ∧ s.link.rear.queue.length ≤ 24 ∧ s.link.monitor.length ≤ 4
    ∧ s.notices.entries.length ≤ 16 ∧ s.intercom.queue.length ≤ 8 ∧ s.pay.late.length ≤ 16
    ∧ s.store.log.length ≤ 64 ∧ s.pay.advice.length ≤ 32 ∧ s.store.advice.length ≤ 32
    ∧ s.pay.tenders.length ≤ 6 ∧ s.store.save.tenders.length ≤ 6
    ∧ s.store.checkpoint.tenders.length ≤ 6 ∧ ∀ w ∈ s.writes, w.tenders.length ≤ 6

/-- The fare engine runs exactly in HIRED and is held exactly in PAY (R72, R93), a trip is open exactly
in HIRED and PAY, and a snapshot is kept exactly in PAY (R102). -/
def State.meterAgrees (s : State) : Prop :=
  (s.meter.state = .hired ↔ s.engine.mode = .running)
    ∧ (s.meter.state = .pay ↔ s.engine.mode = .held)
    ∧ (s.tripOpen = true ↔ s.meter.trip.isSome = true)
    ∧ (s.meter.state = .pay ↔ s.meter.snapshot.isSome = true)

/-! ### Requests that reach their decision -/

/-- A console request reaches its block: the front port takes frames for the part, and the sender is the
CONSOLE node (R12, R13, R19, R21). -/
abbrev State.fromConsole (s : State) (rq : Req) : Prop :=
  s.receives .front = true ∧ s.holder .console = some rq.src

/-- A management request reaches the rule of its operation: the front port takes frames for the part,
and the sender is a front node whose role has the authority (R12, R13, R25). -/
abbrev State.fromMgmt (s : State) (op : OpName) (rq : Req) : Prop :=
  s.receives .front = true ∧ rq.src.seg = .front ∧ authorised op (s.roleEntry rq.src) = true

/-- A frame of one role's block reaches it (R12, R13). -/
abbrev State.fromRole (s : State) (r : Role) (src : NodeAddr) : Prop :=
  s.receives src.seg = true ∧ s.holder r = some src

/-- The management requests: sender, operation and the object the answer names. -/
def mgmtRow : Instr → Option (Req × OpName × Target)
  | .loopback rq _ => some (rq, .loopback, .none)
  | .read rq t _ => some (rq, .read, t)
  | .write rq t => some (rq, .write, t)
  | .forwardingWrite rq i _ => some (rq, .write, .forwarding i)
  | .rolesWrite rq a _ => some (rq, .write, .roles a)
  | .noticeClassWrite rq i _ => some (rq, .write, .noticeClass i)
  | .signChannelWrite rq i _ => some (rq, .write, .signTable i)
  | .signPatternWrite rq n _ => some (rq, .write, .signTable (7 + patternPlace n))
  | .brightnessWrite rq _ => some (rq, .write, .signTable 0)
  | .promptsWrite rq i _ => some (rq, .write, .prompts i)
  | .promptMapWrite rq i _ => some (rq, .write, .promptMap i)
  | .intercomSetWrite rq i _ => some (rq, .write, .intercomSet i)
  | .payLimitsWrite rq i _ => some (rq, .write, .payLimits i)
  | .powerSetWrite rq i _ => some (rq, .write, .powerSet i)
  | .openLoad rq t => some (rq, .openLoad, t)
  | .writePart rq t _ => some (rq, .writePart, t)
  | .commit rq t => some (rq, .commit, t)
  | .abortLoad rq t => some (rq, .abortLoad, t)
  | .setTime rq _ => some (rq, .setTime, .none)
  | .signTest rq _ _ => some (rq, .signTest, .none)
  | .clearLamp rq _ => some (rq, .clearLamp, .none)
  | .emergencyClear rq => some (rq, .emergencyClear, .none)
  | .speakerTest rq _ => some (rq, .speakerTest, .none)
  | .ackTrips rq _ => some (rq, .ackTrips, .none)
  | .restart rq => some (rq, .restart, .none)
  | _ => none

/-- The console requests that need the power state RUN (R95, R180, R181), with a name each. A HIRE whose
tariff lies outside 1–8 is refused before its power check (R94). -/
def runRow : Instr → Option (Req × ConsoleName)
  | .onDuty rq => some (rq, .onDuty)
  | .offDuty rq => some (rq, .offDuty)
  | .hire rq .auto => some (rq, .hire)
  | .hire rq (.number t) => if within 1 8 t then some (rq, .hire) else none
  | .pay rq => some (rq, .pay)
  | .resume rq => some (rq, .resume)
  | .extra rq _ => some (rq, .extra)
  | .endUnpaid rq => some (rq, .endUnpaid)
  | .shiftOpen rq _ => some (rq, .shiftOpen)
  | .shiftClose rq => some (rq, .shiftClose)
  | _ => none

/-! ### Answers -/

/-- A transmit queue after an offer: a full queue refuses it (R10). -/
def joined (q : List Frame) (f : Frame) : List Frame := if q.length < 24 then q ++ [f] else q

/-- The MGMT_RESP to a request (R24). -/
def mgmtAnswer (rq : Req) (op : OpName) (t : Target) (r : MgmtResult) (d : RespData := .none) : Frame :=
  .own .front rq.src (.mgmtResp ⟨rq.tag, rq.echo, op, t, r, d⟩)

/-- The CONSOLE_RESP to a request (R94). -/
def consoleAnswer (rq : Req) (name : ConsoleName) (r : ConsoleResult) (d : ConsoleData := .none) :
    Frame :=
  .own .front rq.src (.consoleResp ⟨rq.tag, name, r, d⟩)

/-- The front transmit queue takes one more frame, and nothing else of the link changes. -/
def State.frontTook (s t : State) (f : Frame) : Prop :=
  t.link = { s.link with front := { s.link.front with queue := joined s.link.front.queue f } }

/-- The notice queue stands as an offer of this notice and the drain attempt after it leave it, and the
front transmit queue begins with what they make of it (R38, R39). -/
def State.noticed (s t : State) (n : Notice) : Prop :=
  t.notices = (s.offerNotice n).notices
    ∧ (s.offerNotice n).link.front.queue <+: t.link.front.queue

/-- The state with one more frame in its front transmit queue, unless that is full (R10). -/
def State.answered (s : State) (f : Frame) : State :=
  { s with
    link := { s.link with front := { s.link.front with queue := joined s.link.front.queue f } } }

/-- What a band check in RUNNING makes of the open trip and the engine, given as they stand before it: no
new segment where the active tariff does not follow bands or is already the band's default, SEGMENT_LIMIT
where the list is full, and else a segment on the band's default tariff (R83 to R85, R87). -/
def State.followsBand (s t : State) (band : Option Nat) (r : TripRecord) (e : Engine) : Prop :=
  ∀ cur, s.activeTariff = some cur →
    ((∀ b, s.bandEntry band = some b → cur.followBand = true → s.engine.active = some b.default) →
      t.meter.trip = some r ∧ t.engine = e)
    ∧ ∀ b, s.bandEntry band = some b → cur.followBand = true → s.engine.active ≠ some b.default →
      (4 ≤ r.segments.length →
        t.meter.trip = some { r with flags := { r.flags with segmentLimit := true } } ∧ t.engine = e)
      ∧ (∀ tar, r.segments.length < 4 → s.tariff b.default = some tar →
        let q := tar.stepDm * s.distance.k * tar.stepDs
        t.meter.trip = some { r with segments := r.segments ++ [⟨b.default, s.now, 0, 0, 0, 0⟩] }
          ∧ t.engine =
            { e with
              active := some b.default, q, uD := 10000 * tar.stepDs
              uT := tar.stepDm * s.distance.k, inc := tar.increment, pa := e.pa * q / e.q })

/-- A destination's view has been left pending, or was sent under its next sequence number (R112, R113). -/
def State.viewMarked (s t : State) (d : ViewDest) : Prop :=
  (t.viewState d).mark = true ∨ (t.viewState d).seq = ((s.viewState d).seq + 1) % 65536

/-- What every change of the meter state does: the view acknowledgement is cleared, the intercom takes
its mode, a checkpoint of the new state is begun and both views are marked (R93, R115, R139, R207). -/
def State.movedTo (s t : State) (m : MeterState) : Prop :=
  t.meter.state = m ∧ t.meter.lastAck = none
    ∧ t.intercom.mode = (if m = .hired ∨ m = .pay then .arbiter else .closed)
    ∧ (∃ r a c o, r.meter = m ∧ .checkpoint r a c o none ∈ t.writes)
    ∧ s.viewMarked t .console ∧ s.viewMarked t .paxDisplay

/-- A port that has just started: NORMAL, with the poll pointer at 7, no exchange, an empty transmit queue
but for what blocks offer at the start, and its configured nodes PROBING (R22). -/
def PortState.fresh (p : PortState) (roles : List RoleEntry) : Prop :=
  p.running = true ∧ p.mode = .normal ∧ p.pointer = 7 ∧ p.exchange = none ∧ p.nodes = roles.map .start

/-- A port that stands stopped (R21). -/
def PortState.stopped (p : PortState) : Prop :=
  p.running = false ∧ p.mode = .normal ∧ p.loopTimer = 0 ∧ p.exchange = none ∧ p.echo = none
    ∧ p.queue = []

/-- The views after a return or a wake: both pending, no hold-off timer running and no acknowledgement kept
(R117). -/
def State.viewsRenewed (s : State) : Prop :=
  s.meter.console.mark = true ∧ s.meter.pax.mark = true ∧ s.meter.console.holdoff = false
    ∧ s.meter.pax.holdoff = false ∧ s.meter.lastAck = none

/-- A wake from PARKED by a source, with the supply at RESTORE: RUN, the source recorded, the ports started
with their nodes PROBING and the poll pointers at 7, both views pending and the intercom running (R22, R117,
R206). -/
def State.wokenBy (s t : State) (src : WakeSource) : Prop :=
  t.power.state = .run
    ∧ t.power.wake =
      ⟨s.power.wake.sources ++ [(src, s.now)], s.power.wake.entered, some s.now⟩
    ∧ t.link.front.running = true ∧ t.link.rear.running = true ∧ t.link.front.pointer = 7
    ∧ t.link.rear.pointer = 7 ∧ t.link.front.nodes = s.tables.roles.front.map .start
    ∧ t.link.rear.nodes = s.tables.roles.rear.map .start ∧ t.viewsRenewed
    ∧ t.intercom.run = .running

/-- The notice WAKE waits for the modem after a wake with a notice queue of fewer than 16 entries: it
carries the sources of the wake record (R206). -/
def State.wakeNoticed (s t : State) (src : WakeSource) : Prop :=
  s.link.front.running = false → s.notices.entries.length < 16 →
    (s.classRoute .wake).route ≠ .console → s.holder .modem ≠ none →
    ∃ e ∈ t.notices.entries, e.seq = s.notices.nextSeq
      ∧ e.notice = .wake ((s.power.wake.sources ++ [(src, s.now)]).map (·.1))

/-- A wake with the supply below RESTORE: HOLDUP, with its save begun and both views pending (R117, R206,
R201). -/
def State.wokenLow (s t : State) (src : WakeSource) : Prop :=
  t.power.state = .holdup ∧ t.power.progress = .writing ∧ t.power.park = .stopped
    ∧ t.power.wake.sources = s.power.wake.sources ++ [(src, s.now)]
    ∧ t.link.front.stopped ∧ t.link.rear.stopped ∧ t.distance.running = false
    ∧ t.intercom.run = .muted ∧ t.viewsRenewed
    ∧ ∃ c, c.shift = t.acct.shiftNow ∧ c.lastNumber = t.acct.lastNumber
      ∧ .save .freshHoldup t.saveRecord c t.acct.totalsNow ∈ t.writes

/-- What a start-up leaves, whatever it restores: the power state RUN, the next boot epoch stored and in
use, the ports fresh with their counters 0, the tables and the metrology of the store, the load window
closed, the session IDLE and the distance input running afresh (R22, R35, R67, R176, R178, R213). -/
def State.startedUp (s t : State) : Prop :=
  t.power.state = .run ∧ t.pay.epoch = (s.store.epoch + 1) % 256 ∧ t.store.epoch = t.pay.epoch
    ∧ t.tables = t.store.tables ∧ t.mgmt.window = none
    ∧ t.link.front.fresh t.tables.roles.front ∧ t.link.rear.fresh t.tables.roles.rear
    ∧ t.link.front.violations = 0 ∧ t.link.rear.violations = 0 ∧ t.link.noMatch = 0
    ∧ t.link.localRejects = 0 ∧ t.link.monitor = [] ∧ t.link.turn = .transmit
    ∧ t.pay.session.state = .idle ∧ t.pay.auth = .stopped ∧ t.pay.counters = .zero
    ∧ t.distance.running = true ∧ t.distance.holdoff = none ∧ t.distance.count = 0
    ∧ t.now = s.now ∧ t.time.staged = none ∧ t.intercom.run = .running
    ∧ t.meter.closing = false ∧ t.meter.correction = 0

/-- A frame stands in a transmit queue, unless that queue is full. -/
def offeredTo (q : List Frame) (f : Frame) : Prop := f ∈ q ∨ 24 ≤ q.length

/-- Days from 2000-01-01 to a date, by the Gregorian rule (R47). -/
def Date.daysBefore (d : Date) : Nat :=
  ((List.range (d.year - 2000)).map fun i => yearDays (2000 + i)).sum
    + ((List.range (d.month - 1)).map fun i => monthDays (leapYear d.year) (i + 1)).sum + (d.day - 1)

/-- The object is one of the direct tables (2.2), whose owners decide a WRITE of it. -/
def isDirect : Target → Bool
  | .forwarding _ | .roles _ | .signTable _ | .prompts _ | .promptMap _ | .intercomSet _
  | .payLimits _ | .noticeClass _ | .powerSet _ => true
  | _ => false

end Sys2Proof.Machine
end

