-- ==== Sys2Proof/Certificates/Slice0/Obligations.lean ====
section
/-! DEFINITION. The statements about the model, one `Prop` each. -/

open Sys2Proof Sys2Proof.Machine

/-! ### The whole machine -/

/-- A step takes the command at the front of the queue and runs it on the state with the rest. -/
def Obligations.StepTakesFrontCommand : Prop :=
  ∀ (c : Instr) (rest : List Instr) (s : State), s.pending = c :: rest →
    step s = exec c { s with pending := rest }

/-- No command stops the part, and none touches the queue of waiting commands. -/
def Obligations.EveryCommandAnswers : Prop :=
  ∀ (c : Instr) (s : State), ∃ t, exec c s = .next t ∧ t.pending = s.pending

/-- Every step keeps the limits of the queues, the tender list with its saved copies, the late match list,
the advice queue with its stored copy, and the trip log. -/
def Obligations.StepKeepsQueueLimits : Prop :=
  ∀ s t : State, s.bounded → step s = .next t → t.bounded

/-- Every step keeps the engine mode, the open trip and the snapshot in step with the meter state. -/
def Obligations.StepKeepsMeterAgreement : Prop :=
  ∀ s t : State, s.meterAgrees → step s = .next t → t.meterAgrees

/-- The state after reset keeps both invariants. -/
def Obligations.ResetMeetsInvariants : Prop := State.reset.bounded ∧ State.reset.meterAgrees

/-- Only a second event and a loss of the backup domain's power change the seconds counter. -/
def Obligations.CounterChangesAtSecondsOnly : Prop :=
  ∀ (c : Instr) (s t : State), exec c s = .next t → t.now ≠ s.now →
    c = .secondEvent ∨ c = .backupLoss

/-- The model's choice (log entries 6, 7 and 44): the state after reset is what COLD_START makes of a part
without supply, new from the factory, at a supply sample of 1,050 and an ambient sample of 0. -/
def Obligations.ResetIsFirstColdStart : Prop :=
  ∀ s : State, s.power.state = .off → s.store = .factory → s.time.backup = .lost →
    s.pins = ⟨true, false, false⟩ → s.pending = [] → s.writes = [] → s.free = 0 →
    exec (.coldStart 1050 0) s = .next .reset

/-! ### The cab link -/

/-- A body of at most 66 bytes sent with its delimiters is received as that body, in 8 bit times a byte and
6 more; a longer one is aborted as overlength, and a violation pair inside a byte, or two high cells at its
start, aborts the frame. The body 1.3 lays out for an external node's frame passes the check of R3 at that
node's port, with the header and the payload it was made from. That the line is decided on whole bit times
after the start delimiter is the model's choice (log entry 32). -/
def Obligations.LineCarriesFrames : Prop :=
  (∀ (seg : Seg) (body : List Byte),
    (lineBits body).length = 8 * body.length + 6
    ∧ (body.length ≤ 66 →
      lineCommands seg (lineBits body) = [.startDelimiterSeen seg, .frameReceived seg body])
    ∧ (66 < body.length →
      lineCommands seg (lineBits body) = [.startDelimiterSeen seg, .overlengthAbort seg])
    ∧ ∀ (bits : List Bool) (level : Bool) (rest : List BitTime), body.length ≤ 66 →
      bits.length < 8 → (bits ≠ [] ∨ level = true) →
      lineCommands seg
          (startDelimiter ++ body.flatMap codedByte ++ bits.map codedBit ++ (level, level) :: rest)
        = [.startDelimiterSeen seg, .receivedCodeViolation seg])
  ∧ ∀ (dst src : NodeAddr) (k : FrameKind) (payload : List Byte), dst.num ≤ 7 → 1 ≤ src.num →
    src.num ≤ 7 → payload.length ≤ 60 → k ≠ .poll → (k = .empty → payload = []) →
    checkFrame src.seg (frameBody dst src k payload) = .valid ⟨dst, src, k⟩ payload

/-- FRAME_RECEIVED outside a poll exchange: a frame of fewer than 6 bytes, or of another length than its
Length field gives, counts a format error; one of the right length with another CRC, a CRC error; one longer
than 66 bytes, a format error, and the line is ignored; one with a header error of step 2 of R3, a format
error; a valid frame in NORMAL mode, a format error. In LOOPBACK a valid frame is echoed: at once, after the
frame being sent, or counted in the overflow counter while an echo is pending. Nothing else changes. That
FRAME_RECEIVED acts with no START_DELIMITER_SEEN before it, and on a body of over 66 bytes too, and that a
frame is echoed while an end of LOOPBACK waits, or while the port still sends a frame of its own, are the
model's choices (log entries 19 and 34). -/
def Obligations.FramesAreCheckedAndEchoed : Prop :=
  ∀ (seg : Seg) (body : List Byte) (s : State), (s.port seg).listens = true →
    (s.port seg).exchange = none →
    (66 < body.length →
      exec (.frameReceived seg body) s =
        .next (s.modPort seg fun p =>
          { p with rx := .ignoring, formatErrors := min (p.formatErrors + 1) 65535 }))
    ∧ (body.length ≤ 66 → (body.length < 6 ∨ body.length ≠ 6 + (body.getD 3 0).toNat) →
      exec (.frameReceived seg body) s =
        .next (s.modPort seg fun p =>
          { p with rx := .waiting, formatErrors := min (p.formatErrors + 1) 65535 }))
    ∧ (body.length ≤ 66 → 6 ≤ body.length → body.length = 6 + (body.getD 3 0).toNat →
      (crc (body.take (body.length - 2))).toNat
        ≠ (body.getD (body.length - 2) 0).toNat * 256 + (body.getD (body.length - 1) 0).toNat →
      exec (.frameReceived seg body) s =
        .next (s.modPort seg fun p =>
          { p with rx := .waiting, crcErrors := min (p.crcErrors + 1) 65535 }))
    ∧ (body.length ≤ 66 → 6 ≤ body.length → body.length = 6 + (body.getD 3 0).toNat →
      (crc (body.take (body.length - 2))).toNat
        = (body.getD (body.length - 2) 0).toNat * 256 + (body.getD (body.length - 1) 0).toNat →
      (let dst := body.getD 0 0
       let src := body.getD 1 0
       let kind := body.getD 2 0
       dst &&& 0x78#8 ≠ 0#8 ∨ src &&& 0x78#8 ≠ 0#8 ∨ (src.getLsbD 7 = true ↔ seg = .front)
         ∨ src &&& 7#8 = 0#8 ∨ kindOfCode kind.toNat = none ∨ kind = 1#8
         ∨ kind = 2#8 ∧ body.getD 3 0 ≠ 0#8) →
      exec (.frameReceived seg body) s =
        .next (s.modPort seg fun p =>
          { p with rx := .waiting, formatErrors := min (p.formatErrors + 1) 65535 }))
    ∧ (∀ h payload, body.length ≤ 66 → checkFrame seg body = .valid h payload →
      (s.port seg).mode = .normal →
      exec (.frameReceived seg body) s =
        .next (s.modPort seg fun p =>
          { p with rx := .waiting, formatErrors := min (p.formatErrors + 1) 65535 }))
    ∧ (∀ h payload, body.length ≤ 66 → checkFrame seg body = .valid h payload →
      (s.port seg).mode = .loopback →
      exec (.frameReceived seg body) s =
        .next (s.modPort seg fun p =>
          if p.sending = none then
            { p with rx := .waiting, sending := some ⟨.relay body, .echo, false⟩ }
          else if p.echo = none then { p with rx := .waiting, echo := some body }
          else { p with rx := .waiting, overflow := min (p.overflow + 1) 65535 }))

/-- LOOPBACK and its timer. ON is accepted in OFF_DUTY and VACANT and refused in HIRED and PAY; during a
poll exchange it waits. OFF and the timer's expiry return a port with no echo to NORMAL mode; an OFF for a
port in NORMAL mode changes nothing but the queue its answer joins. That the expiry's row acts whatever time
is left (log entry 9), that an ON which waits for its exchange stays through an OFF (log entry 22), and what
an OFF or an expiry makes of an echo being sent and an ON of a frame being sent (log entry 34), are the
model's choices. -/
def Obligations.LoopbackModes : Prop :=
  ∀ (rq : Req) (seg : Seg) (s : State),
    (s.fromMgmt .loopback rq → s.tripOpen = true →
      ∃ t, exec (.loopback rq (some (seg, true))) s = .next t ∧ s.sameBut [.link] t
        ∧ s.frontTook t (mgmtAnswer rq .loopback .none .refusedState))
    ∧ (s.fromMgmt .loopback rq → s.tripOpen = false →
      ∃ t, exec (.loopback rq (some (seg, true))) s = .next t ∧ s.sameBut [.link] t
        ∧ ((s.port seg).exchange = none →
          (t.port seg).mode = .loopback ∧ (t.port seg).loopTimer = 60)
        ∧ ((s.port seg).exchange ≠ none →
          (t.port seg).mode = (s.port seg).mode ∧ (t.port seg).loopWanted = true)
        ∧ t.link.front.queue =
          joined s.link.front.queue (mgmtAnswer rq .loopback .none .ok))
    ∧ (s.fromMgmt .loopback rq →
      ∃ t, exec (.loopback rq (some (seg, false))) s = .next t ∧ s.sameBut [.link] t
        ∧ ((s.port seg).mode = .normal → s.frontTook t (mgmtAnswer rq .loopback .none .ok))
        ∧ ((s.port seg).echo = none → (s.port seg).sending = none →
          (s.port seg).loopLeaving = false → (t.port seg).mode = .normal)
        ∧ t.link.front.queue =
          joined s.link.front.queue (mgmtAnswer rq .loopback .none .ok))
    ∧ ((s.port seg).mode = .loopback → (s.port seg).loopLeaving = false →
      ∃ t, exec (.loopbackTimerExpiry seg) s = .next t ∧ s.sameBut [.link] t
        ∧ (t.port seg).loopTimer = 0 ∧ (t.port seg).pointer = (s.port seg).pointer
        ∧ (t.port seg).queue = (s.port seg).queue
        ∧ ((s.port seg).echo = none → (s.port seg).sending = none →
          (t.port seg).mode = .normal)
        ∧ ((s.port seg).echo ≠ none → (t.port seg).mode = .loopback
          ∧ (t.port seg).loopLeaving = true))

/-- A DATA frame in the reply of its sender, PRESENT, whose first matching entry is a PASS, joins the other
port's transmit queue unchanged, and the entry's hit counter increments; a full or stopped queue counts an
overflow instead. That DATA_FRAME is the receipt of that frame is the model's choice (log entry 21). -/
def Obligations.PassedDataJoinsOtherQueue : Prop :=
  ∀ (s : State) (src dst : NodeAddr) (payload : List Byte) (replying : Bool) (i : Nat) (e : FwdEntry),
    (s.port src.seg).listens = true → (s.port src.seg).mode = .normal →
    (s.port src.seg).exchange = some ⟨src.num, replying⟩ → 1 ≤ src.num → src.num ≤ 7 →
    1 ≤ dst.num → dst.num ≤ 7 → dst.seg ≠ src.seg → payload.length ≤ 60 →
    s.presence src = .present → s.matching ⟨dst, src, .data⟩ = some (i, e) → e.action = .pass →
    ∃ t, exec (.dataFrame src.seg src dst payload) s = .next t
      ∧ exec (.frameReceived src.seg (frameBody dst src .data payload)) s = .next t
      ∧ s.sameBut [.link] t
      ∧ t.link.hits = s.link.hits.modify i (fun n => min (n + 1) 65535)
      ∧ (t.port src.seg).exchange = none
      ∧ (s.accepts dst.seg = true →
        (t.port dst.seg).queue =
            (s.port dst.seg).queue ++ [.relay (frameBody dst src .data payload)]
          ∧ (t.port dst.seg).overflow = (s.port dst.seg).overflow)
      ∧ (s.accepts dst.seg = false →
        (t.port dst.seg).queue = (s.port dst.seg).queue
          ∧ (t.port dst.seg).overflow = min ((s.port dst.seg).overflow + 1) 65535)

/-- Classification takes the first of the four tests of R12 that a frame meets, and the outcomes 1 and 3
change nothing. -/
def Obligations.ClassificationOrder : Prop :=
  ∀ (s : State) (h : Header) (body : List Byte) (deliver pay : State → State),
    ((h.kind = .mgmtReq ∨ h.kind = .consoleReq) → h.src.seg = .rear →
      s.classify h body deliver pay = s)
    ∧ (¬((h.kind = .mgmtReq ∨ h.kind = .consoleReq) ∧ h.src.seg = .rear) → h.dst.num = 0 →
      s.classify h body deliver pay = deliver s)
    ∧ (h.dst.num ≠ 0 → h.dst.seg = h.src.seg → s.classify h body deliver pay = s)
    ∧ (¬((h.kind = .mgmtReq ∨ h.kind = .consoleReq) ∧ h.src.seg = .rear) → h.dst.num ≠ 0 →
      h.dst.seg ≠ h.src.seg →
      s.classify h body deliver pay = s.lookup h body pay)

/-- With the line free, POLL_START polls the due node that comes first after the pointer in ascending order,
the pointer's own node last; with no node due the poll state is kept and the head of the queue the port
draws from starts to be sent. That the row polls only with the line free, and that a frame leaves its queue
when sent, are the model's choices (log entry 22). -/
def Obligations.PollTakesNextDueNode : Prop :=
  ∀ (seg : Seg) (s : State), (s.port seg).free = true → 1 ≤ (s.port seg).pointer →
    (s.port seg).pointer ≤ 7 →
    let due := fun n : Nat => ((s.port seg).nodes[n - 1]?).any (·.due)
    let dist := fun n : Nat => (n + 6 - (s.port seg).pointer) % 7
    ((∃ n, 1 ≤ n ∧ n ≤ 7 ∧ due n = true) →
      ∃ t n, exec (.pollStart seg) s = .next t ∧ s.sameBut [.link] t
        ∧ 1 ≤ n ∧ n ≤ 7 ∧ due n = true
        ∧ (∀ m, 1 ≤ m → m ≤ 7 → due m = true → dist n ≤ dist m)
        ∧ (t.port seg).pointer = n ∧ (t.port seg).exchange = some ⟨n, false⟩
        ∧ (t.port seg).sending = none ∧ (t.port seg).queue = (s.port seg).queue)
    ∧ ((∀ n, 1 ≤ n → n ≤ 7 → due n = false) →
      ∃ t, exec (.pollStart seg) s = .next t ∧ s.sameBut [.link] t
        ∧ (t.port seg).pointer = (s.port seg).pointer ∧ (t.port seg).exchange = none
        ∧ (t.port seg).sending = (s.nextFrame seg).map fun x => ⟨x.1, x.2, true⟩)

/-- The end of a poll exchange: an answer makes the polled node PRESENT with count 0, with NODE_FOUND for a
node that was LOST; a miss raises the count of a PROBING or PRESENT node, and makes it LOST at 3, with
NODE_LOST for one that was PRESENT; a miss of a LOST node changes no node and offers no notice. The blocks
that follow a role's availability then act. REPOLL_DUE marks a LOST node due. That they act after the notice
is the model's choice (log entry 41). -/
def Obligations.PollOutcomeMovesPresence : Prop :=
  ∀ (seg : Seg) (n : Nat) (e : NodeEntry) (s : State), 1 ≤ n → n ≤ 7 →
    (s.port seg).nodes[n - 1]? = some e → e.presence ≠ .absent →
    ((s.port seg).listens = true → (∃ b, (s.port seg).exchange = some ⟨n, b⟩) →
      ∃ t, exec (.pollReplyEmpty seg) s = .next t ∧ (t.port seg).exchange = none
        ∧ (t.port seg).nodes = (s.port seg).nodes.set (n - 1) ⟨.present, 0, false⟩)
    ∧ ((s.port seg).exchange = some ⟨n, false⟩ → e.presence ≠ .lost →
      ∃ t, exec (.pollReplyTimeout seg) s = .next t ∧ (t.port seg).exchange = none
        ∧ (t.port seg).nodes = (s.port seg).nodes.set (n - 1)
          (if e.missed < 2 then { e with missed := e.missed + 1 } else ⟨.lost, 3, false⟩))
    ∧ ((s.port seg).listens = true → (∃ b, (s.port seg).exchange = some ⟨n, b⟩) → e.presence = .lost →
      ∃ u v, exec (.pollReplyEmpty seg) s =
          .next ((u.followPresence (v.offerNotice (.nodeFound ⟨seg, n⟩))).afterExchange seg)
        ∧ u = s.modPort seg (fun p => { p with rx := .waiting })
        ∧ v = s.modPort seg fun p =>
          { p with rx := .waiting, exchange := none, nodes := p.nodes.set (n - 1) ⟨.present, 0, false⟩ })
    ∧ ((s.port seg).exchange = some ⟨n, false⟩ → e.presence = .present → 2 ≤ e.missed →
      ∃ v, exec (.pollReplyTimeout seg) s =
          .next ((s.followPresence (v.offerNotice (.nodeLost ⟨seg, n⟩))).afterExchange seg)
        ∧ v = s.modPort seg fun p =>
          { p with exchange := none, nodes := p.nodes.set (n - 1) ⟨.lost, 3, false⟩ })
    ∧ ((s.port seg).exchange = some ⟨n, false⟩ → e.presence = .lost →
      ∃ t, exec (.pollReplyTimeout seg) s = .next t ∧ s.sameBut [.link] t
        ∧ (t.port seg).exchange = none ∧ (t.port seg).nodes = (s.port seg).nodes)
    ∧ (e.presence = .lost →
      ∃ t, exec (.repollDue ⟨seg, n⟩) s = .next t ∧ s.sameBut [.link] t
        ∧ (t.port seg).nodes = (s.port seg).nodes.set (n - 1) { e with repollDue := true })

/-- FRAME_SENT: a sent frame leaves its queue. At the rear port the head of the transmit queue goes; at the
front port the turn mark names the queue the frame did not come from, and a monitor frame leaves the monitor
queue. An AUDIO frame arriving at a full monitor queue removes the oldest. That the queue and the turn mark
change at FRAME_SENT is the model's choice (log entry 22). -/
def Obligations.SentFramesLeaveTheirQueues : Prop :=
  ∀ (s : State) (f : Frame),
    (s.link.front.mode = .normal → s.link.front.sending = some ⟨f, .monitor, true⟩ →
      ∃ t, exec (.frameSent .front) s = .next t ∧ s.sameBut [.link] t
        ∧ t.link.monitor = s.link.monitor.drop 1 ∧ t.link.turn = .transmit
        ∧ t.link.front.sending = none ∧ t.link.front.queue = s.link.front.queue)
    ∧ (s.link.rear.mode = .normal → s.link.rear.sending = some ⟨f, .transmit, true⟩ →
      s.meter.pax.mark = false →
      ∃ t, exec (.frameSent .rear) s = .next t ∧ s.sameBut [.link] t
        ∧ t.link.rear.queue = s.link.rear.queue.drop 1 ∧ t.link.rear.sending = none)
    ∧ (s.link.front.mode = .normal → s.link.front.sending = some ⟨f, .transmit, true⟩ →
      ∃ t l, exec (.frameSent .front) s = .next t ∧ t.link.turn = .monitor
        ∧ t.link.front.queue = s.link.front.queue.drop 1 ++ l ∧ t.link.front.sending = none
        ∧ t.link.monitor = s.link.monitor)
    ∧ (∀ l : Link, (l.audio f).monitor =
        (if l.monitor.length < 4 then l.monitor ++ [f] else l.monitor.drop 1 ++ [f])
      ∧ (l.audio f).monitorDrop =
        (if l.monitor.length < 4 then l.monitorDrop else min (l.monitorDrop + 1) 65535))

/-- The receiver of a running port: a start delimiter on the idle line opens a frame, and within a reply
window the reply has begun; a code violation outside an exchange aborts the frame and is counted, and the
17th in a window of a GOOD port makes it DEGRADED with PORT_DEGRADED; an overlength frame counts a format
error, and the line is then ignored until it has been idle. That these rows act in these receiver states
only is the model's choice (log entry 19). -/
def Obligations.ReceiverStates : Prop :=
  ∀ (seg : Seg) (s : State), (s.port seg).running = true →
    ((s.port seg).rx = .waiting →
      exec (.startDelimiterSeen seg) s =
        .next (s.modPort seg fun p =>
          { p with rx := .receiving, exchange := p.exchange.map fun x => ⟨x.node, true⟩ }))
    ∧ ((s.port seg).rx = .receiving → (s.port seg).exchange = none →
      ((s.port seg).health = .degraded ∨ (s.port seg).window ≠ 16) →
      exec (.receivedCodeViolation seg) s =
        .next (s.modPort seg fun p =>
          { p with
            rx := .ignoring, window := min (p.window + 1) 255
            violations := min (p.violations + 1) 65535 }))
    ∧ ((s.port seg).rx = .receiving → (s.port seg).health = .good → (s.port seg).window = 16 →
      (s.port seg).exchange = none →
      ∃ t, exec (.receivedCodeViolation seg) s = .next t ∧ s.sameBut [.link, .notices] t
        ∧ (t.port seg).health = .degraded ∧ (t.port seg).quiet = 0 ∧ (t.port seg).window = 17
        ∧ (t.port seg).rx = .ignoring
        ∧ (t.port seg).violations = min ((s.port seg).violations + 1) 65535
        ∧ t.notices.nextSeq = (s.notices.nextSeq + 1) % 65536 ∧ s.noticed t (.portDegraded seg))
    ∧ ((s.port seg).rx = .receiving → (s.port seg).exchange = none →
      exec (.overlengthAbort seg) s =
        .next (s.modPort seg fun p =>
          { p with rx := .ignoring, formatErrors := min (p.formatErrors + 1) 65535 }))
    ∧ ((s.port seg).rx = .ignoring →
      exec (.lineIdleResume seg) s = .next (s.modPort seg fun p => { p with rx := .waiting }))

/-! ### Management, the store and notices -/

/-- A READ with authority, of an object in range, answers what the object's owner gives, and changes nothing
but the queue its answer joins. Checks 2 and 3 of R25: a role without authority gets NOT_AUTHORISED; a WRITE
of a staged or read-only object, each of the four load operations on an object that is not staged, a
WRITE_PART of a part outside its object, and a READ out of range get BAD_OBJECT. Nothing else changes. Of
what the owner gives, the cause record shown while its store write waits (log entry 28) and the answer to a
selector of another object (log entry 30) are the model's choices. -/
def Obligations.RequestsAreChecked : Prop :=
  (∀ (rq : Req) (t : Target) (sel : ReadSel) (s : State), s.fromMgmt .read rq →
     indexInRange t = true →
     ∃ u, exec (.read rq t sel) s = .next u ∧ s.sameBut [.link] u
       ∧ s.frontTook u
         (match s.readTarget t sel with
          | .data d => mgmtAnswer rq .read t .ok (.read d)
          | .refused r => mgmtAnswer rq .read t r))
  ∧ (∀ (c : Instr) (rq : Req) (op : OpName) (t : Target) (s : State), mgmtRow c = some (rq, op, t) →
    s.receives .front = true → rq.src.seg = .front → s.configured rq.src = true →
    authorised op (s.roleEntry rq.src) = false →
    ∃ u, exec c s = .next u ∧ s.sameBut [.link] u ∧ s.frontTook u (mgmtAnswer rq op t .notAuthorised))
  ∧ (∀ (rq : Req) (t : Target) (s : State), s.fromMgmt .write rq →
    isDirect t = false →
    ∃ u, exec (.write rq t) s = .next u ∧ s.sameBut [.link] u
      ∧ s.frontTook u (mgmtAnswer rq .write t .badObject))
  ∧ (∀ (rq : Req) (t : Target) (s : State), s.fromMgmt .openLoad rq → loadTarget t = none →
    ∃ u, exec (.openLoad rq t) s = .next u ∧ s.sameBut [.link] u
      ∧ s.frontTook u (mgmtAnswer rq .openLoad t .badObject))
  ∧ (∀ (rq : Req) (t : Target) (d : PartData) (s : State), s.fromMgmt .writePart rq →
    (loadTarget t = none ∨ ∃ p, t = .tariffSet p ∧ 60 < p ∨ t = .calibration p ∧ p ≠ 0) →
    ∃ u, exec (.writePart rq t d) s = .next u ∧ s.sameBut [.link] u
      ∧ s.frontTook u (mgmtAnswer rq .writePart t .badObject))
  ∧ (∀ (rq : Req) (t : Target) (s : State), s.fromMgmt .commit rq → loadTarget t = none →
    ∃ u, exec (.commit rq t) s = .next u ∧ s.sameBut [.link] u
      ∧ s.frontTook u (mgmtAnswer rq .commit t .badObject))
  ∧ (∀ (rq : Req) (t : Target) (s : State), s.fromMgmt .abortLoad rq → loadTarget t = none →
    ∃ u, exec (.abortLoad rq t) s = .next u ∧ s.sameBut [.link] u
      ∧ s.frontTook u (mgmtAnswer rq .abortLoad t .badObject))
  ∧ (∀ (rq : Req) (t : Target) (sel : ReadSel) (s : State), s.fromMgmt .read rq →
    indexInRange t = false →
    ∃ u, exec (.read rq t sel) s = .next u ∧ s.sameBut [.link] u
      ∧ s.frontTook u (mgmtAnswer rq .read t .badObject))

/-- A direct WRITE that passes its owner's checks replaces the working entry at once and begins the entry's
store write; no answer is offered yet. For the prompt, prompt map, pay limits, power and notice class tables
nothing else changes; a forwarding entry's hit counter also returns to 0. -/
def Obligations.TableWritesApplyAtOnce : Prop :=
  ∀ (rq : Req) (s : State), s.fromMgmt .write rq →
    (∀ i e, i ≤ 15 → promptValid e = true →
      exec (.promptsWrite rq i (some (.entry e))) s =
        .next { s with
          tables := { s.tables with prompts := s.tables.prompts.set i (some e) }
          writes := s.writes ++ [.table (.prompt i (some e)) rq (.prompts i)] })
    ∧ (∀ i, i ≤ 15 →
      exec (.promptsWrite rq i (some .undefined)) s =
        .next { s with
          tables := { s.tables with prompts := s.tables.prompts.set i none }
          writes := s.writes ++ [.table (.prompt i none) rq (.prompts i)] })
    ∧ (∀ i n, i ≤ 7 → n ≤ 15 →
      exec (.promptMapWrite rq i (some (.prompt n))) s =
        .next { s with
          tables := { s.tables with promptMap := s.tables.promptMap.set i (some n) }
          writes := s.writes ++ [.table (.promptMap i (some n)) rq (.promptMap i)] })
    ∧ (∀ l, payLimitsValid l = true →
      exec (.payLimitsWrite rq 0 (some l)) s =
        .next { s with
          tables := { s.tables with payLimits := l }
          writes := s.writes ++ [.table (.payLimits l) rq (.payLimits 0)] })
    ∧ (∀ p, 700 ≤ p.low → p.low ≤ 1400 → p.low + 20 ≤ p.restore → p.restore ≤ 1600 →
      5 ≤ p.parkDelay → p.parkDelay ≤ 600 → p.shiftLimit ≤ 960 →
      exec (.powerSetWrite rq 0 (some p)) s =
        .next { s with
          tables := { s.tables with power := p }
          writes := s.writes ++ [.table (.power p) rq (.powerSet 0)] })
    ∧ (∀ k c, ((k = .emergencyOn ∨ k = .emergencyOff) → c.route = .modem) →
      exec (.noticeClassWrite rq (.kind k) (some c)) s =
        .next { s with
          tables := { s.tables with noticeClass := s.tables.noticeClass.set (noticePlace k) c }
          writes := s.writes ++ [.table (.noticeClass (noticePlace k) c) rq (.noticeClass (.kind k))] })
    ∧ (∀ i f e, i ≤ 31 → resolveFwd f = some e →
      exec (.forwardingWrite rq i (some f)) s =
        .next { s with
          tables := { s.tables with forwarding := s.tables.forwarding.set i e }
          link := { s.link with hits := s.link.hits.set i 0 }
          writes := s.writes ++ [.table (.forwarding i e) rq (.forwarding i)] })
    ∧ (∀ x, intercomValid x = true →
      ∃ t, exec (.intercomSetWrite rq 0 (some x)) s = .next t
        ∧ s.sameBut [.tables, .intercom, .writes] t
        ∧ t.tables = { s.tables with intercom := x } ∧ t.intercom = s.intercom.aim x
        ∧ t.writes = s.writes ++ [.table (.intercom x) rq (.intercomSet 0)])

/-- A sign table WRITE that passes its checks replaces the entry, begins its store write and composes every
channel anew; a brightness WRITE also returns the candidate count to 0. A channel entry out of range gets
BAD_VALUE, a change of role or owner in HIRED and PAY BUSY, and a VACANT channel of owner AUX, or lit by the
HIRED or PAY pattern, BAD_VALUE; a pattern without six values, a HIRED or PAY pattern that lights a VACANT
channel, and a brightness part out of range get BAD_VALUE. A role WRITE outside HIRED and PAY replaces the
entry: a node newly configured becomes PROBING, a node set to NONE becomes ABSENT, and one configured entry
for another keeps presence and count. In HIRED and PAY it is BUSY, and node 0, a role of the other segment
and a role that another node holds get BAD_VALUE. The duty 0 of a dark channel is the model's choice (log
entry 39). -/
def Obligations.SignAndRoleWritesApply : Prop :=
  (∀ (rq : Req) (s : State), s.fromMgmt .write rq →
     (∀ i c, 1 ≤ i → i ≤ 6 →
       let old := s.channel (i - 1)
       let lit := ∃ k p v, (k = 2 ∨ k = 3) ∧ s.tables.patterns[k]? = some p
         ∧ p[i - 1]? = some (some v) ∧ v ≠ LampValue.off
       let valid := c.minMa ≤ 3999 ∧ c.minMa < c.maxMa ∧ c.maxMa ≤ 4000
       let kept := c.role = old.role ∧ c.owner = old.owner
       let vacantFits := c.role = .vacant → c.owner = .sign ∧ ¬lit
       let refused := fun r => ∃ t, exec (.signChannelWrite rq i (some c)) s = .next t
         ∧ s.sameBut [.link] t ∧ s.frontTook t (mgmtAnswer rq .write (.signTable i) r)
       (¬valid → refused .badValue)
       ∧ (valid → s.tripOpen = true → ¬kept → refused .busy)
       ∧ (valid → (s.tripOpen = true → kept) → ¬vacantFits → refused .badValue)
       ∧ (valid → (s.tripOpen = true → kept) → vacantFits →
         ∃ t, exec (.signChannelWrite rq i (some c)) s = .next t ∧ s.sameBut [.tables, .sign, .writes] t
           ∧ t.tables = { s.tables with channels := s.tables.channels.set (i - 1) c }
           ∧ t.writes = s.writes ++ [.table (.channel (i - 1) c) rq (.signTable i)]
           ∧ t.sign = { s.sign with lamps := s.sign.lamps.mapIdx t.driveChannel }))
     ∧ (∀ n p,
       let clash := (n = .hired ∨ n = .pay) ∧ ∃ i v, i < 6 ∧ (s.channel i).role = .vacant
         ∧ p[i]? = some (some v) ∧ v ≠ LampValue.off
       ((p.length ≠ 6 ∨ clash) →
         ∃ t, exec (.signPatternWrite rq n (some p)) s = .next t ∧ s.sameBut [.link] t
           ∧ s.frontTook t (mgmtAnswer rq .write (.signTable (7 + patternPlace n)) .badValue))
       ∧ (p.length = 6 → ¬clash →
       ∃ t, exec (.signPatternWrite rq n (some p)) s = .next t ∧ s.sameBut [.tables, .sign, .writes] t
         ∧ t.tables = { s.tables with patterns := s.tables.patterns.set (patternPlace n) p }
         ∧ t.writes = s.writes ++ [.table (.pattern (patternPlace n) p) rq
             (.signTable (7 + patternPlace n))]
         ∧ t.sign = { s.sign with lamps := s.sign.lamps.mapIdx t.driveChannel }))
     ∧ (∀ b, brightnessValid b = false →
       ∃ t, exec (.brightnessWrite rq (some b)) s = .next t ∧ s.sameBut [.link] t
         ∧ s.frontTook t (mgmtAnswer rq .write (.signTable 0) .badValue))
     ∧ (∀ b, brightnessValid b = true →
       ∃ t, exec (.brightnessWrite rq (some b)) s = .next t ∧ s.sameBut [.tables, .sign, .writes] t
         ∧ t.tables = { s.tables with brightness := b }
         ∧ t.writes = s.writes ++ [.table (.brightness b) rq (.signTable 0)]
         ∧ t.sign.ambient = { s.sign.ambient with count := 0 }
         ∧ t.sign.lamps = s.sign.lamps.mapIdx t.driveChannel))
  ∧ ∀ (rq : Req) (a : NodeAddr) (e : RoleEntry) (s : State), s.fromMgmt .write rq → a.num ≤ 7 →
      let misfit := a.num = 0
        ∨ ∃ r, e = .named r ∧ (roleSeg r ≠ a.seg ∨ ∃ b, s.holder r = some b ∧ b ≠ a)
      let refused := fun r => ∃ t, exec (.rolesWrite rq a (some e)) s = .next t
        ∧ s.sameBut [.link] t ∧ s.frontTook t (mgmtAnswer rq .write (.roles a) r)
      (s.tripOpen = true → refused .busy)
      ∧ (s.tripOpen = false → misfit → refused .badValue)
      ∧ (∀ n, s.tripOpen = false → ¬misfit → (s.port a.seg).nodes[a.num - 1]? = some n →
        ∃ t, exec (.rolesWrite rq a (some e)) s = .next t
          ∧ t.tables = s.tables.setEntry (.role a e)
          ∧ (t.port a.seg).nodes = (s.port a.seg).nodes.set (a.num - 1)
            (if e = .none then ⟨.absent, 0, false⟩
             else if s.roleEntry a = .none then ⟨.probing, 0, false⟩ else n)
          ∧ .table (.role a e) rq (.roles a) ∈ t.writes)

/-- A store write that a row completes is taken in its turn: the store takes it, the write is no longer
waiting, and the request that waited for it is answered. That a completion acts on the head of the waiting
writes, and that ACK_TRIPS is answered with the count of its decision, are the model's choices (log entries
24 and 52). -/
def Obligations.CompletedWritesAreAnswered : Prop :=
  ∀ (s : State) (rest : List StoreWrite) (rq : Req), s.powered = true →
    s.link.front.running = true → rq.src.seg = .front →
    (∀ e t, s.writes = .table e rq t :: rest →
      ∃ u, exec .tableWriteComplete s = .next u ∧ s.sameBut [.link, .store, .writes] u
        ∧ u.store = { s.store with tables := s.store.tables.setEntry e } ∧ u.writes = rest
        ∧ s.frontTook u (mgmtAnswer rq .write t .ok))
    ∧ (∀ c t, s.writes = .pendingCopy c rq t :: rest →
      ∃ u, exec .pendingCommitStored s = .next u ∧ s.sameBut [.link, .store, .writes] u
        ∧ u.store = { s.store with slot := s.store.slot.put c } ∧ u.writes = rest
        ∧ s.frontTook u (mgmtAnswer rq .commit t .pending))
    ∧ (∀ n k, s.writes = .ackTrips n k rq :: rest →
      ∃ u, exec .ackTripsWriteComplete s = .next u ∧ s.sameBut [.link, .store, .writes] u
        ∧ u.store = { s.store with reportedThrough := n } ∧ u.writes = rest
        ∧ s.frontTook u (mgmtAnswer rq .ackTrips .none .ok (.trips n k)))
    ∧ (∀ c n, s.writes = .shiftOpen c rq n :: rest → c.report = false →
      s.holder .console = some rq.src →
      ∃ u, exec .shiftOpenUpdateComplete s = .next u ∧ s.sameBut [.link, .store, .writes] u
        ∧ u.store.shift = c.shift ∧ u.store.lastNumber = c.lastNumber ∧ u.writes = rest
        ∧ s.frontTook u (consoleAnswer rq .shiftOpen .accepted (.shift n)))

/-- OPEN_LOAD of TARIFF_SET (`true`) or CALIBRATION, decided in the order of R29. That an OPEN_LOAD names
the object whole, whatever part index its request carries, is the model's choice (log entry 20). -/
def Obligations.OpenLoadDecided : Prop :=
  ∀ (rq : Req) (t : Target) (tariff : Bool) (s : State), s.fromMgmt .openLoad rq →
    loadTarget t = some tariff →
    ∃ u r, exec (.openLoad rq t) s = .next u ∧ s.sameBut [.link, .mgmt] u
      ∧ s.frontTook u (mgmtAnswer rq .openLoad t r)
      ∧ (if s.pins.metrologyOpen = false then r = .locked ∧ u.mgmt = s.mgmt
         else if s.mgmt.window ≠ none then r = .busy ∧ u.mgmt = s.mgmt
         else if (if tariff then s.mgmt.slot.tariffSet.isSome else s.mgmt.slot.calibration.isSome) then
           r = .refusedState ∧ u.mgmt = s.mgmt
         else
           r = .ok ∧ u.mgmt =
             { s.mgmt with
               window := some
                 { staging :=
                     if tariff then .tariffSet s.mgmt.metrology.tariffSet
                     else .calibration s.mgmt.metrology.calibration
                   holder := rq.src, idle := 120 } })

/-- The holder's WRITE_PART, ABORT_LOAD and the idle timer at an open window of TARIFF_SET or CALIBRATION: a
part with its layout replaces the one in the staging area and restarts the timer, data without it gets
BAD_VALUE, a closed metrology switch LOCKED and the window closes; ABORT_LOAD and the expiry close the
window. Without a window of the object WRITE_PART gets REFUSED_STATE; an ABORT_LOAD of one who holds no
window of it withdraws a copy that waits, with the switch open, and otherwise gets LOCKED, BUSY or
REFUSED_STATE. The model's choices: the expiry's row closes any window (log entry 9), an ABORT_LOAD names
the object whole (log entry 20), and a copy whose application has begun may be withdrawn (log entry 35). -/
def Obligations.LoadWindowRuns : Prop :=
  (∀ (rq : Req) (t : Target) (p : Nat) (d : PartData) (w : LoadWindow) (s : State),
    s.fromMgmt .writePart rq →
    (t = .tariffSet p ∧ p ≤ 60 ∧ w.staging.isTariff = true
      ∨ t = .calibration p ∧ p = 0 ∧ w.staging.isTariff = false) → s.mgmt.window = some w →
    (w.holder ≠ rq.src →
      ∃ u, exec (.writePart rq t d) s = .next u ∧ s.sameBut [.link] u
        ∧ s.frontTook u (mgmtAnswer rq .writePart t .busy))
    ∧ (w.holder = rq.src → s.pins.metrologyOpen = false →
      ∃ u, exec (.writePart rq t d) s = .next u ∧ s.sameBut [.link, .mgmt] u
        ∧ u.mgmt = { s.mgmt with window := none }
        ∧ s.frontTook u (mgmtAnswer rq .writePart t .locked))
    ∧ (w.holder = rq.src → s.pins.metrologyOpen = true → w.staging.setPart p d = none →
      ∃ u, exec (.writePart rq t d) s = .next u ∧ s.sameBut [.link] u
        ∧ s.frontTook u (mgmtAnswer rq .writePart t .badValue))
    ∧ (∀ st, w.holder = rq.src → s.pins.metrologyOpen = true → w.staging.setPart p d = some st →
      ∃ u, exec (.writePart rq t d) s = .next u ∧ s.sameBut [.link, .mgmt] u
        ∧ u.mgmt = { s.mgmt with window := some { w with staging := st, idle := 120 } }
        ∧ s.frontTook u (mgmtAnswer rq .writePart t .ok))
    ∧ (w.holder = rq.src →
      ∃ u, exec (.abortLoad rq t) s = .next u ∧ s.sameBut [.link, .mgmt] u
        ∧ u.mgmt = { s.mgmt with window := none }
        ∧ s.frontTook u (mgmtAnswer rq .abortLoad t .ok))
    ∧ exec .loadWindowExpiry s = .next { s with mgmt := { s.mgmt with window := none } })
  ∧ (∀ (cal c : Calibration) (ts : TariffSet) (d : PartData),
    (Staged.calibration cal).setPart 0 (.calibration c) = some (.calibration c)
    ∧ ((∀ c, d ≠ .calibration c) → (Staged.calibration cal).setPart 0 d = none)
    ∧ (∀ g, (Staged.tariffSet ts).setPart 0 (.general g) = some (.tariffSet { ts with general := g }))
    ∧ (Staged.tariffSet ts).setPart 0 .undefined = none
    ∧ ∀ p, 1 ≤ p → p ≤ 8 →
      (∀ x, (Staged.tariffSet ts).setPart p (.tariff x) =
        some (.tariffSet { ts with tariffs := ts.tariffs.set (p - 1) (some x) }))
      ∧ (Staged.tariffSet ts).setPart p .undefined =
        some (.tariffSet { ts with tariffs := ts.tariffs.set (p - 1) none }))
  ∧ (∀ (rq : Req) (t : Target) (p : Nat) (d : PartData) (s : State), s.fromMgmt .writePart rq →
    (t = .tariffSet p ∧ p ≤ 60 ∧ (∀ w, s.mgmt.window = some w → w.staging.isTariff = false)
      ∨ t = .calibration p ∧ p = 0 ∧ (∀ w, s.mgmt.window = some w → w.staging.isTariff = true)) →
    ∃ u, exec (.writePart rq t d) s = .next u ∧ s.sameBut [.link] u
      ∧ s.frontTook u (mgmtAnswer rq .writePart t .refusedState))
  ∧ ∀ (rq : Req) (t : Target) (tariff : Bool) (s : State), s.fromMgmt .abortLoad rq →
    loadTarget t = some tariff →
    (∀ w, s.mgmt.window = some w → w.staging.isTariff = tariff → w.holder ≠ rq.src) →
    let waits := (if tariff then s.mgmt.slot.tariffSet.isSome else s.mgmt.slot.calibration.isSome) = true
    let answered := fun r => ∃ u, exec (.abortLoad rq t) s = .next u ∧ s.sameBut [.link] u
      ∧ s.frontTook u (mgmtAnswer rq .abortLoad t r)
    (waits → s.pins.metrologyOpen = false → answered .locked)
    ∧ (waits → s.pins.metrologyOpen = true →
      ∃ u, exec (.abortLoad rq t) s = .next u ∧ s.sameBut [.link, .mgmt, .writes] u
        ∧ u.mgmt =
          { s.mgmt with
            slot :=
              if tariff then { s.mgmt.slot with tariffSet := none }
              else { s.mgmt.slot with calibration := none } }
        ∧ u.writes = s.writes ++ [.slotRemove tariff]
        ∧ s.frontTook u (mgmtAnswer rq .abortLoad t .ok))
    ∧ (¬waits → (∀ w, s.mgmt.window = some w → w.staging.isTariff = tariff → answered .busy))
    ∧ (¬waits → (∀ w, s.mgmt.window = some w → w.staging.isTariff ≠ tariff) → answered .refusedState)

/-- COMMIT of an object at its open window: another's window gets BUSY, none REFUSED_STATE, and a closed
metrology switch LOCKED, with the window closed. With the switch open a calibration with a value out of
range gets BAD_VALUE with part 0, and a tariff set BAD_VALUE with its first part that fails; in HIRED or PAY
the copy goes to the pending commit slot, and otherwise one application with METROLOGY_EVENTS one higher is
begun. Either closes the window without an answer yet. That METROLOGY_EVENTS counts when the application is
begun is the model's choice (log entry 25), as are that the working slot holds the copy at once (log entry
46), the part that a tariff set without a band fails at (log entry 10) and that a COMMIT names the object
whole (log entry 20). -/
def Obligations.CommitTakesOneWay : Prop :=
  (∀ (rq : Req) (t : Target) (tariff : Bool) (s : State), s.fromMgmt .commit rq →
    loadTarget t = some tariff →
    ((∀ w, s.mgmt.window = some w → w.staging.isTariff ≠ tariff) →
      ∃ u, exec (.commit rq t) s = .next u ∧ s.sameBut [.link] u
        ∧ s.frontTook u (mgmtAnswer rq .commit t .refusedState))
    ∧ ∀ w, s.mgmt.window = some w → w.staging.isTariff = tariff →
      (w.holder ≠ rq.src →
        ∃ u, exec (.commit rq t) s = .next u ∧ s.sameBut [.link] u
          ∧ s.frontTook u (mgmtAnswer rq .commit t .busy))
      ∧ (w.holder = rq.src → s.pins.metrologyOpen = false →
        ∃ u, exec (.commit rq t) s = .next u ∧ s.sameBut [.link, .mgmt] u
          ∧ u.mgmt = { s.mgmt with window := none }
          ∧ s.frontTook u (mgmtAnswer rq .commit t .locked)))
  ∧ (∀ (rq : Req) (w : LoadWindow) (ts : TariffSet) (s : State), s.fromMgmt .commit rq →
    s.mgmt.window = some w → w.staging = .tariffSet ts → w.holder = rq.src →
    s.pins.metrologyOpen = true →
    ((60 < ts.general.correction ∨ 120 < ts.general.resumeLimit ∨ 65535 < ts.general.version) →
      ts.failures[0]? = some true)
    ∧ (∀ i, ts.failures[i]? = some true → (∀ j, j < i → ts.failures[j]? = some false) →
      ∃ u, exec (.commit rq (.tariffSet 0)) s = .next u ∧ s.sameBut [.link] u
        ∧ s.frontTook u (mgmtAnswer rq .commit (.tariffSet 0) .badValue (.badPart i)))
    ∧ ((∀ x ∈ ts.failures, x = false) → s.tripOpen = true →
      exec (.commit rq (.tariffSet 0)) s =
        .next { s with
          mgmt :=
            { s.mgmt with window := none, slot := { s.mgmt.slot with tariffSet := some ts } }
          writes := s.writes ++ [.pendingCopy (.tariffSet ts) rq (.tariffSet 0)] })
    ∧ ((∀ x ∈ ts.failures, x = false) → s.tripOpen = false → s.acct.totals.metrology < 4294967295 →
      ∃ acct : Accounting, acct = { s.acct with
          totals := { s.acct.totals with metrology := s.acct.totals.metrology + 1 } }
        ∧ exec (.commit rq (.tariffSet 0)) s =
          .next { s with
            mgmt := { s.mgmt with window := none }, acct
            writes := s.writes ++
              [.application (.tariffSet ts)
                ⟨s.acct.totals.metrology + 1, s.now, s.time.backup.timeInvalid⟩ acct.totalsNow s.now
                (.commit rq (.tariffSet 0))] }))
  ∧ ∀ (rq : Req) (w : LoadWindow) (c : Calibration) (s : State), s.fromMgmt .commit rq →
    s.mgmt.window = some w → w.staging = .calibration c → w.holder = rq.src →
    s.pins.metrologyOpen = true →
    let valid := 500 ≤ c.k ∧ c.k ≤ 65000 ∧ 1 ≤ c.pMax ∧ c.pMax ≤ 255 ∧ 50 ≤ c.sMin ∧ c.sMin ≤ 10000
      ∧ c.trim.n ≤ 65535
    (¬valid →
      ∃ u, exec (.commit rq (.calibration 0)) s = .next u ∧ s.sameBut [.link] u
        ∧ s.frontTook u (mgmtAnswer rq .commit (.calibration 0) .badValue (.badPart 0)))
    ∧ (valid → s.tripOpen = true →
      exec (.commit rq (.calibration 0)) s =
        .next { s with
          mgmt :=
            { s.mgmt with window := none, slot := { s.mgmt.slot with calibration := some c } }
          writes := s.writes ++ [.pendingCopy (.calibration c) rq (.calibration 0)] })
    ∧ (valid → s.tripOpen = false → s.acct.totals.metrology < 4294967295 →
      ∃ u app totals, exec (.commit rq (.calibration 0)) s = .next u
        ∧ s.sameBut [.mgmt, .acct, .writes] u ∧ u.mgmt = { s.mgmt with window := none }
        ∧ u.acct = { s.acct with
            totals := { s.acct.totals with metrology := s.acct.totals.metrology + 1 } }
        ∧ app = ⟨s.acct.totals.metrology + 1, s.now, s.time.backup.timeInvalid⟩
        ∧ totals = u.acct.totalsNow ∧ totals.metrology = s.acct.totals.metrology + 1
        ∧ u.writes = s.writes ++
          [.application (.calibration c) app totals s.now (.commit rq (.calibration 0))])

/-- The completion of an application's store update: the object in force, its application record and the
totalizers are stored together, and a copy from the pending slot leaves it. The requester of a COMMIT gets
OK, CALIBRATION_APPLIED or TARIFF_APPLIED is offered, a calibration's values wait for the next meter
interval, and a tariff set's current band is evaluated at once. A close whose update completes with a copy
waiting begins its application, CALIBRATION before TARIFF_SET, and releases the meter after the last one. A
copy committed after ABORT_LOAD has withdrawn the one being applied stays in the slot, and the close applies
it next. METROLOGY_OPEN is offered each time the metrology switch opens; its closing raises no notice and
closes no load window. That the OK comes before the notice, that METROLOGY_EVENTS counts when the
application is begun, that a close goes on outside HOLDUP, that a withdrawn copy's application goes on, and
that the slot holds a copy from its COMMIT on, are the model's choices (log entries 23, 25, 26, 35 and 46).
-/
def Obligations.ApplicationPutsInForce : Prop :=
  (∀ (rq : Req) (t : Target) (c : Calibration) (app : AppRecord) (totals : Totals) (time : Nat)
    (rest : List StoreWrite) (s : State), s.powered = true → s.link.front.running = true →
    rq.src.seg = .front →
    s.writes = .application (.calibration c) app totals time (.commit rq t) :: rest →
    ∃ u, exec .applicationComplete s = .next u ∧ u.writes = rest
      ∧ s.sameBut [.link, .mgmt, .notices, .distance, .time, .store, .writes] u
      ∧ u.mgmt.metrology =
        { s.mgmt.metrology with calibration := c, calibrationApp := some app }
      ∧ u.store = { s.store with
          metrology := { s.store.metrology with calibration := c, calibrationApp := some app }
          totals := totals, totalsTime := time }
      ∧ u.distance = { s.distance with incoming := some c }
      ∧ u.time = { s.time with newTrim := some c.trim }
      ∧ u.notices.nextSeq = (s.notices.nextSeq + 1) % 65536
      ∧ (s.answered (mgmtAnswer rq .commit t .ok)).noticed u (.calibrationApplied app.counter)
      ∧ (mgmtAnswer rq .commit t .ok ∈ u.link.front.queue ∨ 24 ≤ s.link.front.queue.length))
  ∧ (∀ (rq : Req) (t : Target) (ts : TariffSet) (app : AppRecord) (totals : Totals) (time : Nat)
    (rest : List StoreWrite) (s : State), s.powered = true → s.link.front.running = true →
    rq.src.seg = .front →
    s.writes = .application (.tariffSet ts) app totals time (.commit rq t) :: rest →
    ∃ u, exec .applicationComplete s = .next u ∧ u.writes = rest
      ∧ s.sameBut [.link, .mgmt, .notices, .time, .engine, .meter, .store, .writes] u
      ∧ u.mgmt =
        { s.mgmt with metrology := { s.mgmt.metrology with tariffSet := ts, tariffApp := some app } }
      ∧ u.store = { s.store with
          metrology := { s.store.metrology with tariffSet := ts, tariffApp := some app }
          totals := totals, totalsTime := time }
      ∧ u.time.band = ts.currentBand s.now ∧ u.time.backup.keptBand = u.time.band
      ∧ (s.answered (mgmtAnswer rq .commit t .ok)).noticed u
          (.tariffApplied app.counter ts.general.version)
      ∧ (mgmtAnswer rq .commit t .ok ∈ u.link.front.queue ∨ 24 ≤ s.link.front.queue.length))
  ∧ (∀ (ts : TariffSet) (app : AppRecord) (totals : Totals) (time : Nat) (rest : List StoreWrite)
    (s : State), s.powered = true →
    s.writes = .application (.tariffSet ts) app totals time .close :: rest →
    s.mgmt.slot.calibration = none → .slotRemove true ∉ rest →
    ∃ u, exec .applicationComplete s = .next u
      ∧ u.mgmt =
        { s.mgmt with
          metrology := { s.mgmt.metrology with tariffSet := ts, tariffApp := some app }
          slot := { s.mgmt.slot with tariffSet := none } }
      ∧ u.store.metrology = { s.store.metrology with tariffSet := ts, tariffApp := some app }
      ∧ u.store.slot = { s.store.slot with tariffSet := none } ∧ u.store.totals = totals
      ∧ u.time.band = ts.currentBand s.now
      ∧ u.notices = (s.offerNotice (.tariffApplied app.counter ts.general.version)).notices
      ∧ (s.power.park ≠ .waiting → s.noticed u (.tariffApplied app.counter ts.general.version))
      ∧ (s.power.state = .holdup → u.meter.stage = .goOn ∧ u.meter.state = s.meter.state)
      ∧ (s.power.state ≠ .holdup → u.meter.trip = none ∧ u.meter.stage = .none
        ∧ u.meter.closing = false ∧ u.engine.mode = .idle
        ∧ u.meter.state = (if s.acct.shift.limitSet then .offDuty else .vacant)))
  ∧ (∀ (ts next : TariffSet) (app : AppRecord) (totals : Totals) (time : Nat) (rest : List StoreWrite)
    (s : State), s.powered = true →
    s.writes = .application (.tariffSet ts) app totals time .close :: rest → .slotRemove true ∈ rest →
    s.mgmt.slot = ⟨some next, none⟩ → s.acct.totals.metrology < 4294967295 →
    ∃ u, exec .applicationComplete s = .next u
      ∧ u.mgmt =
        { s.mgmt with metrology := { s.mgmt.metrology with tariffSet := ts, tariffApp := some app } }
      ∧ u.store.slot = { s.store.slot with tariffSet := none }
      ∧ s.noticed u (.tariffApplied app.counter ts.general.version)
      ∧ u.meter.state = s.meter.state ∧ u.meter.closing = s.meter.closing
      ∧ (s.power.state = .holdup → u.meter.stage = .goOn ∧ u.writes = rest)
      ∧ (s.power.state ≠ .holdup → u.meter.stage = .applying
        ∧ u.acct.totals.metrology = s.acct.totals.metrology + 1
        ∧ u.writes = rest ++
          [.application (.tariffSet next)
            ⟨s.acct.totals.metrology + 1, s.now, s.time.backup.timeInvalid⟩ u.acct.totalsNow s.now
            .close]))
  ∧ (∀ (r : TripRecord) (c : ShiftCarry) (totals : Totals) (time last : Nat) (rest : List StoreWrite)
    (st : Staged) (s : State), s.powered = true → s.power.state ≠ .holdup →
    s.writes = .closeUpdate r c totals time last :: rest → c.report = false →
    (s.mgmt.slot.calibration.map Staged.calibration).or (s.mgmt.slot.tariffSet.map Staged.tariffSet)
      = some st → s.acct.totals.metrology < 4294967295 →
    ∃ u totals', exec .closeUpdateComplete s = .next u ∧ u.meter.stage = .applying
      ∧ u.meter.trip = s.meter.trip ∧ u.meter.state = s.meter.state ∧ u.mgmt = s.mgmt
      ∧ u.acct.totals.metrology = s.acct.totals.metrology + 1 ∧ totals' = u.acct.totals
      ∧ u.writes = rest ++
        [.application st ⟨s.acct.totals.metrology + 1, s.now, s.time.backup.timeInvalid⟩ totals' s.now
          .close])
  ∧ ∀ s : State,
    (s.powered = true → s.pins.metrologyOpen = false →
      ∃ t, exec .metrologySwitchOpen s = .next t ∧ s.sameBut [.pins, .notices, .link] t
        ∧ t.pins = { s.pins with metrologyOpen := true }
        ∧ t.notices.nextSeq = (s.notices.nextSeq + 1) % 65536 ∧ s.noticed t .metrologyOpen)
    ∧ ((s.powered = false ∨ s.pins.metrologyOpen = true) →
      exec .metrologySwitchOpen s = .next { s with pins := { s.pins with metrologyOpen := true } })
    ∧ exec .metrologySwitchClose s = .next { s with pins := { s.pins with metrologyOpen := false } }

/-- A notice offered takes the next sequence number whether or not it is accepted, with the class and route
of the moment and every route pending. It joins a queue of fewer than 16 entries; at 16 an URGENT one takes
the place of the oldest ROUTINE entry, and every other is dropped, each counted. A notice that joins is
followed by a drain attempt. -/
def Obligations.NoticeAdmission : Prop :=
  ∀ (s : State) (n : Notice) (c : ClassRoute), s.classRoute n.kind = c →
    let e := s.noticeEntry n
    let r := s.notices.enqueue e
    let q := r.1
    s.offerNotice n =
        (if r.2 = true then State.drain { s with notices := q } else { s with notices := q })
      ∧ e.seq = s.notices.nextSeq ∧ e.notice = n ∧ e.cls = c.cls ∧ e.time = s.now
      ∧ (e.console = .pending ↔ c.route ≠ .modem) ∧ (e.modem = .pending ↔ c.route ≠ .console)
      ∧ q.nextSeq = (s.notices.nextSeq + 1) % 65536
      ∧ (s.notices.entries.length < 16 →
        r.2 = true ∧ q.entries = s.notices.entries ++ [e] ∧ q.drops = s.notices.drops)
      ∧ (∀ a x b, 16 ≤ s.notices.entries.length → c.cls = .urgent →
        s.notices.entries = a ++ x :: b → x.cls = .routine → (∀ y ∈ a, y.cls = .urgent) →
        r.2 = true ∧ q.entries = a ++ b ++ [e] ∧ q.drops = min (s.notices.drops + 1) 65535)
      ∧ (16 ≤ s.notices.entries.length →
        (c.cls = .routine ∨ ∀ y ∈ s.notices.entries, y.cls = .urgent) →
        r.2 = false ∧ q.entries = s.notices.entries
          ∧ q.drops = min (s.notices.drops + 1) 65535)

/-! ### Time base, calendar and distance -/

/-- A period's end advances the pattern position by one, from 5 to 1, and the interval-in-second count; five
periods make 16,384 cycles. With a trim of N ≠ 0 the period that begins is one cycle longer or shorter when
the trim count reaches N, and the count returns to 0; a new trim is taken with the count at 0. Flash phase B
begins at the end of a second's fifth period. All this runs on without the supply, where nothing else
changes; a loss of the backup domain's power then leaves the counter 0 with TIME_INVALID set, the kept band
NONE, position 1, no trim and flash phase A. The model's choices here: what a period's end steps (log entry
9), the trim count's comparison (log entry 13), and a new trim taken without the supply too (log entry 36).
-/
def Obligations.BackupDomainRuns : Prop :=
  ((List.range 5).map fun i => baseLength (i + 1)).sum = 16384
  ∧ ∀ s : State, s.time.backup.alive = true → 1 ≤ s.time.backup.position →
    s.time.backup.position ≤ 5 →
    let b := s.time.backup
    (∃ t b', exec .meterInterval s = .next t
      ∧ t.time = { s.time with backup := b', newTrim := none }
      ∧ (s.power.state = .off → s.sameBut [.time] t)
      ∧ b'.position = b.position % 5 + 1 ∧ b'.inSecond = (b.inSecond + 1) % 10
      ∧ b'.counter = b.counter ∧ b'.timeInvalid = b.timeInvalid ∧ b'.keptBand = b.keptBand
      ∧ b'.phaseA = (if b.position = 5 ∧ b'.inSecond ≠ 0 then false else b.phaseA)
      ∧ (∀ tr, s.time.newTrim = some tr →
        b'.trim = tr ∧ b'.trimCount = 0 ∧ b'.length = baseLength b'.position)
      ∧ (s.time.newTrim = none → b'.trim = b.trim
        ∧ (b.trim.n = 0 → b'.length = baseLength b'.position ∧ b'.trimCount = b.trimCount)
        ∧ (b.trim.n ≠ 0 → b.trimCount + 1 < b.trim.n →
          b'.length = baseLength b'.position ∧ b'.trimCount = b.trimCount + 1)
        ∧ (b.trim.n ≠ 0 → b.trim.n ≤ b.trimCount + 1 → b'.trimCount = 0
          ∧ b'.length =
            if b.trim.plus then baseLength b'.position + 1 else baseLength b'.position - 1)))
    ∧ (b.trim.n ≠ 0 →
      ∃ b', exec .trimCountExpiry s = .next { s with time := { s.time with backup := b' } }
        ∧ b' = { b with
            trimCount := 0
            length := if b.trim.plus then baseLength b.position + 1 else baseLength b.position - 1 })
    ∧ (s.power.state ≠ .off → exec .backupLoss s = .next s)
    ∧ (s.power.state = .off →
      ∃ t, exec .backupLoss s = .next t ∧ s.sameBut [.time] t ∧ t.now = 0
      ∧ t.time.newTrim = none ∧ t.time.backup.timeInvalid = true ∧ t.time.backup.keptBand = none
      ∧ t.time.backup.position = 1 ∧ t.time.backup.trimCount = 0 ∧ t.time.backup.trim.n = 0
      ∧ t.time.backup.inSecond = 0 ∧ t.time.backup.phaseA = true)

/-- At a meter interval of a calibrated, running input the raw count is clamped to P_max and the excess
added to the overrate counter; the residual and p × 1,000 make m metres and a residual below k; TOTAL_DIST_M
takes m. Never calibrated, only the count is taken; stopped, nothing is. -/
def Obligations.IntervalMakesMetres : Prop :=
  ∀ s : State, s.powered = true → s.distance.incoming = none →
    let d := s.distance
    let p := if d.count ≤ d.pMax then d.count else d.pMax
    (d.running = true → d.k ≠ 0 → s.acct.totals.totalM + d.residual + 1000 * p < 4294967296 →
      ∃ t m, exec .meterInterval s = .next t ∧ t.distance.count = 0 ∧ t.distance.lastRaw = d.count
        ∧ t.distance.lastP = p
        ∧ t.distance.overrate = min (d.overrate + (d.count - p)) 4294967295
        ∧ d.residual + p * 1000 = m * d.k + t.distance.residual ∧ t.distance.residual < d.k
        ∧ t.acct.totals.totalM = s.acct.totals.totalM + m)
    ∧ (d.running = true → d.k = 0 →
      ∃ t, exec .meterInterval s = .next t ∧ t.acct = s.acct
        ∧ t.distance = { d with count := 0, lastRaw := d.count, lastP := 0 })
    ∧ (d.running = false →
      ∃ t, exec .meterInterval s = .next t ∧ t.distance = d ∧ t.acct = s.acct ∧ t.engine = s.engine)

/-- Each edge is captured and decided by the filter: accepted in READY, and at S_min or more after the last
accepted edge; rejected before that, with the glitch counter one higher. The expiry makes the filter READY.
A stopped input captures none. That an edge at S_min or more after the last accepted one passes even before
the expiry's row is the model's choice (log entry 17), and so is that the expiry's row makes the filter
READY whenever it comes (log entry 9). -/
def Obligations.EdgesAreFiltered : Prop :=
  ∀ (c : BitVec 32) (s : State),
    (s.distance.running = true → s.distance.holdoff = none →
      exec (.odometerEdge c) s =
        .next { s with distance :=
          { s.distance with
            capture := c, holdoff := some c, count := s.distance.count + 1
            edges := (s.distance.edges + 1) % 4294967296 } })
    ∧ (∀ c0, s.distance.running = true → s.distance.holdoff = some c0 →
      (c - c0).toNat < s.distance.sMin →
      exec (.odometerEdge c) s =
        .next { s with distance :=
          { s.distance with
            capture := c, glitches := min (s.distance.glitches + 1) 4294967295 } })
    ∧ (∀ c0, s.distance.running = true → s.distance.holdoff = some c0 →
      s.distance.sMin ≤ (c - c0).toNat →
      ∃ t, exec (.odometerEdge c) s = .next t ∧ s.sameBut [.distance] t
        ∧ t.distance.holdoff = some c ∧ t.distance.count = s.distance.count + 1)
    ∧ (s.distance.running = false → exec (.odometerEdge c) s = .next s)
    ∧ (s.distance.running = true →
      exec .holdoffExpiry s = .next { s with distance := { s.distance with holdoff := none } })

/-- A second event without a staged time advances the counter by one, or from its largest value to 0 with
TIME_INVALID set; the flash phase becomes A, the violation windows of running ports close, the shift's
elapsed time takes one second. The window of a DEGRADED port closes quiet at 2 violations or fewer: the
fifth quiet one in a row makes the port GOOD with PORT_RECOVERED, and one that is not quiet begins the run
again. Without supply only the backup domain changes. That the row acts whatever the interval-in-second
count, and that the front port's notice comes before the rear port's, are the model's choices (log entries
36 and 42). -/
def Obligations.SecondEventAdvances : Prop :=
  ∀ s : State, s.time.staged = none → s.time.backup.alive = true →
    (s.powered = true →
      ∃ t, exec .secondEvent s = .next t
        ∧ (s.now < 4294967295 →
          t.now = s.now + 1 ∧ t.time.backup.timeInvalid = s.time.backup.timeInvalid)
        ∧ (s.now = 4294967295 → t.now = 0 ∧ t.time.backup.timeInvalid = true)
        ∧ t.time.backup.inSecond = 0 ∧ t.time.backup.phaseA = true
        ∧ (s.link.front.running = true → t.link.front.window = 0)
        ∧ (s.link.rear.running = true → t.link.rear.window = 0)
        ∧ (∀ seg, let p := s.port seg
          (p.running = false → (t.port seg).window = p.window ∧ (t.port seg).quiet = p.quiet
            ∧ (t.port seg).health = p.health)
          ∧ (p.running = true → p.health = .good → (t.port seg).health = .good)
          ∧ (p.running = true → p.health = .degraded → p.window ≤ 2 → p.quiet < 4 →
            (t.port seg).health = .degraded ∧ (t.port seg).quiet = p.quiet + 1)
          ∧ (p.running = true → p.health = .degraded → p.window ≤ 2 → 4 ≤ p.quiet →
            (t.port seg).health = .good ∧ (t.port seg).quiet = 0)
          ∧ (p.running = true → p.health = .degraded → 2 < p.window →
            (t.port seg).health = .degraded ∧ (t.port seg).quiet = 0))
        ∧ (let recovers := fun seg => (s.port seg).health = .degraded ∧ (t.port seg).health = .good
           let u := { s with time := t.time }
           (¬recovers .front → ¬recovers .rear → t.notices = s.notices)
           ∧ (recovers .front → ¬recovers .rear → u.noticed t (.portRecovered .front))
           ∧ (¬recovers .front → recovers .rear → u.noticed t (.portRecovered .rear))
           ∧ (recovers .front → recovers .rear →
             (u.offerNotice (.portRecovered .front)).noticed t (.portRecovered .rear)))
        ∧ t.acct.shift.record.map (·.elapsed)
          = s.acct.shift.record.map (fun r => min (r.elapsed + 1) 4294967295)
        ∧ t.engine = s.engine ∧ t.meter.state = s.meter.state)
    ∧ (s.powered = false →
      ∃ b, exec .secondEvent s = .next { s with time := { s.time with backup := b } }
        ∧ (s.now < 4294967295 → b.counter = s.now + 1) ∧ (s.now = 4294967295 → b.counter = 0)
        ∧ b.keptBand = s.time.backup.keptBand)

/-- SET_TIME stages a value without an answer, is BUSY while one waits, and REFUSED_STATE with a trip open
and a change of more than 120 s against C + 1. The next second event takes the value, clears TIME_INVALID
and answers OK, or discards it when a trip is then open and the change is too great. That C + 1 is taken
without a wrap is the model's choice (log entry 14). -/
def Obligations.SetTimeIsStagedAndTaken : Prop :=
  ∀ (rq : Req) (v : Nat) (s : State), v ≤ 4294967295 →
    let far := s.now + 1 + 120 < v ∨ v + 120 < s.now + 1
    (s.fromMgmt .setTime rq → s.time.staged ≠ none →
      ∃ t, exec (.setTime rq v) s = .next t ∧ s.sameBut [.link] t
        ∧ s.frontTook t (mgmtAnswer rq .setTime .none .busy))
    ∧ (s.fromMgmt .setTime rq → s.time.staged = none → s.tripOpen = true → far →
      ∃ t, exec (.setTime rq v) s = .next t ∧ s.sameBut [.link] t
        ∧ s.frontTook t (mgmtAnswer rq .setTime .none .refusedState))
    ∧ (s.fromMgmt .setTime rq → s.time.staged = none → ¬(s.tripOpen = true ∧ far) →
      exec (.setTime rq v) s =
        .next { s with time := { s.time with staged := some ⟨v, rq⟩ } })
    ∧ (s.powered = true → s.time.backup.alive = true → s.link.front.running = true →
      rq.src.seg = .front → s.time.staged = some ⟨v, rq⟩ →
      (s.tripOpen = true → far →
        ∃ t, exec .secondEvent s = .next t ∧ t.time.staged = none
          ∧ (s.now < 4294967295 → t.now = s.now + 1)
          ∧ offeredTo t.link.front.queue (mgmtAnswer rq .setTime .none .refusedState))
      ∧ (¬(s.tripOpen = true ∧ far) →
        ∃ t, exec .secondEvent s = .next t ∧ t.time.staged = none ∧ t.now = v
          ∧ t.time.backup.timeInvalid = false
          ∧ t.time.band = t.mgmt.metrology.tariffSet.currentBand v
          ∧ offeredTo t.link.front.queue (mgmtAnswer rq .setTime .none .ok (.time v))))

/-- The date of a counter value is a date of the Gregorian calendar, as many days after 2000-01-01 as the
counter has whole days; the weekday runs from a SAT on day 0; the day type is HOLIDAY when a defined holiday
entry matches the date, and the weekday otherwise. A minute event clears the overrate mark and makes the
lowest-numbered matching band current and kept. That the row acts whatever the counter is the model's choice
(log entry 36). -/
def Obligations.CalendarFollowsCounter : Prop :=
  (∀ c : Nat, c ≤ 4294967295 →
     (dateOf c).daysBefore = c / 86400 ∧ 2000 ≤ (dateOf c).year ∧ 1 ≤ (dateOf c).month
       ∧ (dateOf c).month ≤ 12 ∧ 1 ≤ (dateOf c).day
       ∧ (dateOf c).day ≤ monthDays (leapYear (dateOf c).year) (dateOf c).month
       ∧ minuteOfDay c < 1440 ∧ weekday c = (c / 86400 + 5) % 7
       ∧ ∀ ts : TariffSet,
         ((∃ h, some h ∈ ts.holidays ∧ (h.year = none ∨ h.year = some (dateOf c).year)
             ∧ h.month = (dateOf c).month ∧ h.day = (dateOf c).day) →
           ts.dayType c = .holiday)
         ∧ ((∀ h, some h ∈ ts.holidays → ¬((h.year = none ∨ h.year = some (dateOf c).year)
             ∧ h.month = (dateOf c).month ∧ h.day = (dateOf c).day)) →
           ts.dayType c = [DayType.mon, .tue, .wed, .thu, .fri, .sat, .sun].getD (weekday c) .sun))
  ∧ ∀ s : State, s.powered = true →
      ∃ t, exec .minuteEvent s = .next t ∧ t.distance = { s.distance with overrateMark := false }
        ∧ t.now = s.now ∧ t.time.backup.keptBand = t.time.band
        ∧ (∀ n, t.time.band = some n →
          (∃ b, s.mgmt.metrology.tariffSet.bands[n - 1]? = some (some b) ∧ 1 ≤ n
            ∧ s.mgmt.metrology.tariffSet.bandMatches s.now b = true)
          ∧ ∀ m b, 1 ≤ m → m < n → s.mgmt.metrology.tariffSet.bands[m - 1]? = some (some b) →
            s.mgmt.metrology.tariffSet.bandMatches s.now b = false)
        ∧ (t.time.band = none →
          ∀ b, some b ∈ s.mgmt.metrology.tariffSet.bands →
            s.mgmt.metrology.tariffSet.bandMatches s.now b = false)

/-! ### The fare engine -/

/-- A meter interval of a HIRED trip: the addition of the tariff's basis joins the progress accumulator,
floor(PA / Q) steps complete and PA keeps the rest; the segment takes the interval and the metres, and the
fare, FS and the step counts follow the steps. A change of the fare marks both views, and a second one in
the interval finds the hold-off running and leaves them pending. That the interval counts before its steps
is the model's choice (log entry 40). -/
def Obligations.IntervalChargesTrip : Prop :=
  ∀ (s : State) (r : TripRecord) (l : List FareSegment) (g : FareSegment) (tar : Tariff) (b : Basis),
    s.powered = true → s.distance.running = true → s.distance.k ≠ 0 → s.meter.state = .hired →
    s.engine.mode = .running → s.engine.q ≠ 0 → s.meter.trip = some r → r.segments = l ++ [g] →
    s.activeTariff = some tar → tar.basis = some b → r.fare ≤ 9999999 →
    let p := min s.distance.count s.distance.pMax
    let add := match b with
      | .max => if s.engine.uT ≤ p * s.engine.uD then p * s.engine.uD else s.engine.uT
      | .sum => p * s.engine.uD + s.engine.uT
      | .dist => p * s.engine.uD
      | .time => s.engine.uT
    let n := (s.engine.pa + add) / s.engine.q
    let m := (s.distance.residual + p * 1000) / s.distance.k
    g.charged + n ≤ 4294967295 → g.free + n ≤ 4294967295 → s.acct.totals.steps + n ≤ 4294967295 →
    g.metres + m ≤ 4294967295 → g.intervals < 4294967295 →
    ∃ t r', exec .meterInterval s = .next t ∧ t.meter.trip = some r'
      ∧ t.engine =
        { s.engine with pa := (s.engine.pa + add) % s.engine.q, fs := s.engine.fs - n }
      ∧ r'.fare = min (r.fare + (n - s.engine.fs) * s.engine.inc) 9999999
      ∧ r'.flags.saturated
        = (r.flags.saturated || decide (9999999 < r.fare + (n - s.engine.fs) * s.engine.inc))
      ∧ r'.segments = l ++
        [{ g with
            charged := g.charged + (n - s.engine.fs), free := g.free + min n s.engine.fs
            metres := g.metres + m, intervals := g.intervals + 1 }]
      ∧ t.acct.totals.steps = s.acct.totals.steps + (n - s.engine.fs)
      ∧ t.meter.state = .hired ∧ t.pay = s.pay
      ∧ (r'.fare ≠ r.fare → s.viewMarked t .console ∧ s.viewMarked t .paxDisplay)
      ∧ (0 < s.engine.inc → r.fare + 2 * s.engine.inc ≤ 9999999 → s.engine.fs + 2 ≤ n →
        t.meter.console.mark = true ∧ t.meter.pax.mark = true)

/-- A fare segment that follows a band change or a RESUME rescales the progress to the new tariff's Q, joins
the end of the list with its counts 0, and leaves the fare, FS and the other segments as they were. A minute
event that changes the band lets a RUNNING engine check it, a HELD or IDLE one does not; either way both
views are marked. An accepted RESUME checks the current band as soon as the engine runs again. That
MINUTE_EVENT acts whatever the counter (log entry 36), and that a RESUME checks the band before its
checkpoint is begun (log entry 37), are the model's choices. -/
def Obligations.NewSegmentKeepsProgress : Prop :=
  (∀ s : State, s.powered = true →
    let b := s.mgmt.metrology.tariffSet.currentBand s.now
    (s.time.backup.keptBand = b →
      exec .minuteEvent s =
        .next { s with
          distance := { s.distance with overrateMark := false }, time := { s.time with band := b } })
    ∧ (s.time.backup.keptBand ≠ b →
      ∃ t, exec .minuteEvent s = .next t ∧ s.sameBut [.distance, .time, .engine, .meter, .link] t
        ∧ t.time = { s.time with band := b, backup := { s.time.backup with keptBand := b } }
        ∧ s.viewMarked t .console ∧ s.viewMarked t .paxDisplay ∧ t.meter.state = s.meter.state
        ∧ (s.engine.mode ≠ .running → t.meter.trip = s.meter.trip ∧ t.engine = s.engine)
        ∧ (∀ r, s.engine.mode = .running → s.meter.trip = some r →
          s.followsBand t b r s.engine)))
  ∧ (∀ (rq : Req) (r : TripRecord) (s : State), s.fromConsole rq → s.power.state = .run →
    s.meter.state = .pay → s.meter.closing = false → s.pay.session.state = .idle →
    s.pay.tenders = [] → s.meter.correction ≠ 0 → s.meter.trip = some r →
    ∃ t, exec (.resume rq) s = .next t ∧ t.meter.state = .hired
      ∧ s.followsBand t s.time.band { r with flags := { r.flags with resumed := true } }
          { s.engine with mode := .running })
  ∧ ∀ (s : State) (n : Nat) (tar : Tariff) (r : TripRecord), s.meter.trip = some r →
    let qNew := tar.stepDm * s.distance.k * tar.stepDs
    ∃ r', (s.openSegment n tar).meter.trip = some r'
      ∧ r'.segments = r.segments ++ [⟨n, s.now, 0, 0, 0, 0⟩] ∧ r'.fare = r.fare
      ∧ (s.openSegment n tar).engine =
        { s.engine with
          active := some n, q := qNew, uD := 10000 * tar.stepDs, uT := tar.stepDm * s.distance.k
          inc := tar.increment, pa := s.engine.pa * qNew / s.engine.q }
      ∧ (s.engine.pa < s.engine.q → 0 < qNew → (s.openSegment n tar).engine.pa < qNew)
      ∧ s.sameBut [.meter, .engine] (s.openSegment n tar)

/-! ### The meter controller -/

/-- The requests that need RUN are refused with POWER in every other power state, and change nothing but the
queue the answer joins. That this check also comes first for a SHIFT_OPEN with a driver number above 65,535
is the model's choice (log entry 51). -/
def Obligations.RequestsNeedRun : Prop :=
  ∀ (c : Instr) (rq : Req) (n : ConsoleName) (s : State), runRow c = some (rq, n) → s.fromConsole rq →
    s.power.state ≠ .run →
    ∃ t, exec c s = .next t ∧ s.sameBut [.link] t ∧ s.frontTook t (consoleAnswer rq n .power)

/-- ON_DUTY in OFF_DUTY is refused, in this order, with NO_SHIFT, SHIFT_LIMIT and METROLOGY_OPEN, in every
other state with REFUSED_STATE; otherwise the meter becomes VACANT. OFF_DUTY moves the meter from VACANT to
OFF_DUTY, and is refused with REFUSED_STATE elsewhere. -/
def Obligations.DutyRequestsDecided : Prop :=
  ∀ (rq : Req) (s : State), s.fromConsole rq → s.power.state = .run →
    let refusal : Option ConsoleResult :=
      if s.meter.state ≠ .offDuty then some .refusedState
      else if s.acct.shift.record = none then some .noShift
      else if s.acct.shift.limitSet = true then some .shiftLimit
      else if s.pins.metrologyOpen = true then some .metrologyOpen else none
    (∀ r, refusal = some r →
      ∃ t, exec (.onDuty rq) s = .next t ∧ s.sameBut [.link] t
        ∧ s.frontTook t (consoleAnswer rq .onDuty r))
    ∧ (refusal = none →
      ∃ t, exec (.onDuty rq) s = .next t ∧ s.movedTo t .vacant
        ∧ s.sameBut [.link, .meter, .sign, .intercom, .acct, .power, .writes] t
        ∧ offeredTo t.link.front.queue (consoleAnswer rq .onDuty .accepted))
    ∧ (s.meter.state ≠ .vacant →
      ∃ t, exec (.offDuty rq) s = .next t ∧ s.sameBut [.link] t
        ∧ s.frontTook t (consoleAnswer rq .offDuty .refusedState))
    ∧ (s.meter.state = .vacant →
      ∃ t, exec (.offDuty rq) s = .next t ∧ s.movedTo t .offDuty
        ∧ s.sameBut [.link, .meter, .sign, .intercom, .acct, .power, .writes] t
        ∧ offeredTo t.link.front.queue (consoleAnswer rq .offDuty .accepted))

/-- HIRE in RUN: the first check that fails gives the refusal, and nothing changes. One that passes opens
the trip: number, shift, epoch and start time, the EMERGENCY flag of the moment, one segment on the hire
tariff; the engine runs from the flag fall with the included steps; a sign test ends and a speaker test is
answered ABORTED; the answer carries the trip number and the tariff. That the ABORTED answer carries an
average and a threshold of 0, and that a calibration applied at a trip close is in progress until the next
meter interval too, are the model's choices (log entries 44 and 48). -/
def Obligations.HireDecided : Prop :=
  ∀ (rq : Req) (h : HireTariff) (s : State), s.fromConsole rq → s.power.state = .run →
    (∀ n, h = .number n → 1 ≤ n ∧ n ≤ 8) →
    let refusal : Option ConsoleResult :=
      if s.meter.state ≠ .vacant then some .refusedState
      else if s.pins.metrologyOpen = true then some .metrologyOpen
      else if s.mgmt.metrology.calibration.k = 0 then some .notCalibrated
      else if s.time.backup.timeInvalid = true then some .timeInvalid
      else match s.bandEntry s.time.band with
        | none => some .noBand
        | some b =>
          if (match h with
              | .auto => false
              | .number n => (s.tariff n).isNone || !b.allowed.contains n) = true then
            some .tariffNotAllowed
          else if 64 ≤ (unreported s.acct.reportedThrough s.store.log).length then some .logFull
          else if s.applying = true then some .busy else none
    (∀ r, refusal = some r →
      ∃ t, exec (.hire rq h) s = .next t ∧ s.sameBut [.link] t
        ∧ s.frontTook t (consoleAnswer rq .hire r))
    ∧ (∀ (b : Band) (n : Nat) (tar : Tariff), refusal = none →
      s.bandEntry s.time.band = some b → (h = .auto ∧ n = b.default ∨ h = .number n) →
      s.tariff n = some tar → s.meter.lastAssigned < 4294967295 →
      ∃ t r, exec (.hire rq h) s = .next t ∧ s.movedTo t .hired ∧ t.meter.trip = some r
        ∧ t.meter.lastAssigned = s.meter.lastAssigned + 1 ∧ r.number = s.meter.lastAssigned + 1
        ∧ r.shift = (s.acct.shift.record.map (·.number)).getD 0 ∧ r.epoch = s.pay.epoch
        ∧ r.start = s.now ∧ r.segments = [⟨n, s.now, 0, 0, 0, 0⟩]
        ∧ r.fare = tar.flagFall ∧ r.flagFall = tar.flagFall ∧ r.extras = [] ∧ r.tenders = []
        ∧ r.unpaid = 0 ∧ r.flags = { TripFlags.clear with emergency := s.sign.emergency.active }
        ∧ t.engine =
          ⟨.running, some n, tar.stepDm * s.distance.k * tar.stepDs, 10000 * tar.stepDs,
            tar.stepDm * s.distance.k, tar.increment, 0, tar.included⟩
        ∧ t.sign.test = none ∧ t.intercom.test = none ∧ t.pay = s.pay
        ∧ (∀ x ∈ s.intercom.test, x.rq.src.seg = .front →
          offeredTo t.link.front.queue
            (mgmtAnswer x.rq .speakerTest .none .ok (.test .aborted 0 0)))
        ∧ offeredTo t.link.front.queue
          (consoleAnswer rq .hire .accepted (.trip (s.meter.lastAssigned + 1) n)))

/-- PAY takes the fare as snapshot, holds the engine and starts the correction window at 10 intervals a
second; a snapshot of 0 begins the close at once. Outside HIRED it is refused. -/
def Obligations.PayFreezesFare : Prop :=
  ∀ (rq : Req) (s : State), s.fromConsole rq → s.power.state = .run →
    (s.meter.state ≠ .hired →
      ∃ t, exec (.pay rq) s = .next t ∧ s.sameBut [.link] t
        ∧ s.frontTook t (consoleAnswer rq .pay .refusedState))
    ∧ (∀ r, s.meter.state = .hired → s.meter.trip = some r →
      ∃ t, exec (.pay rq) s = .next t ∧ s.movedTo t .pay ∧ t.meter.snapshot = some r.fare
        ∧ t.engine = { s.engine with mode := .held } ∧ t.pay = s.pay
        ∧ offeredTo t.link.front.queue (consoleAnswer rq .pay .accepted (.amount r.fare))
        ∧ (r.fare ≠ 0 →
          t.meter.correction = 10 * s.mgmt.metrology.tariffSet.general.correction
            ∧ t.meter.closing = s.meter.closing ∧ t.meter.trip = some r)
        ∧ (r.fare = 0 → t.meter.closing = true ∧ t.meter.correction = 0
          ∧ t.meter.trip = some { r with stop := s.now, tenders := s.pay.tenders, unpaid := 0 }))

/-- RESUME in PAY is refused with BUSY by the closing mark and by a session, with CORRECTION_CLOSED by a
tender and by a stopped window; otherwise the trip is HIRED again with RESUMED set, the engine runs and the
snapshot is gone. The expiry stops the window. That the expiry's row stops any window is the model's choice
(log entry 9). -/
def Obligations.ResumeReturnsToHired : Prop :=
  ∀ (rq : Req) (s : State), s.fromConsole rq → s.power.state = .run →
    let refusal : Option ConsoleResult :=
      if s.meter.state ≠ .pay then some .refusedState
      else if s.meter.closing = true then some .busy
      else if s.pay.session.state ≠ .idle then some .busy
      else if s.pay.tenders ≠ [] then some .correctionClosed
      else if s.meter.correction = 0 then some .correctionClosed else none
    (∀ r, refusal = some r →
      ∃ t, exec (.resume rq) s = .next t ∧ s.sameBut [.link] t
        ∧ s.frontTook t (consoleAnswer rq .resume r))
    ∧ (∀ r, refusal = none → s.meter.trip = some r →
      ∃ t r', exec (.resume rq) s = .next t ∧ s.movedTo t .hired ∧ t.meter.trip = some r'
        ∧ r'.flags.resumed = true ∧ r'.fare = r.fare ∧ r'.number = r.number
        ∧ t.engine.mode = .running ∧ t.engine.fs = s.engine.fs ∧ t.meter.snapshot = none
        ∧ t.meter.correction = 0
        ∧ offeredTo t.link.front.queue (consoleAnswer rq .resume .accepted))
    ∧ exec .correctionWindowExpiry s = .next { s with meter := { s.meter with correction := 0 } }

/-- EXTRA: outside HIRED and PAY it is refused, and during a session or a close it is BUSY. The engine
refuses an undefined code, one not permitted for the active tariff or in PAY, a code at its maximum count,
and a ninth code. Otherwise one unit joins the extras list, a new code at the amount in force, and the fare
takes the amount per unit up to FARE_MAX, with SATURATED set beyond it; in PAY the snapshot takes the new
fare. -/
def Obligations.ExtraJoinsFare : Prop :=
  ∀ (rq : Req) (code : Nat) (s : State), s.fromConsole rq → s.power.state = .run →
    ((s.meter.state = .offDuty ∨ s.meter.state = .vacant) →
      ∃ t, exec (.extra rq code) s = .next t ∧ s.sameBut [.link] t
        ∧ s.frontTook t (consoleAnswer rq .extra .refusedState))
    ∧ ∀ r : TripRecord, s.meter.trip = some r →
      (s.meter.state = .pay → (s.meter.closing = true ∨ s.pay.session.state ≠ .idle) →
        ∃ t, exec (.extra rq code) s = .next t ∧ s.sameBut [.link] t
          ∧ s.frontTook t (consoleAnswer rq .extra .busy))
      ∧ ((s.meter.state = .hired ∨
          s.meter.state = .pay ∧ s.meter.closing = false ∧ s.pay.session.state = .idle) →
        let held := r.extras.find? fun e => e.code == code
        let refusal : Option ConsoleResult := match s.mgmt.metrology.tariffSet.extra code with
          | none => some .extraNotAllowed
          | some x =>
            if x.permitted.all (fun n => decide (s.engine.active ≠ some n)) = true then
              some .extraNotAllowed
            else if s.meter.state = .pay ∧ x.inPay = false then some .extraNotAllowed
            else match held with
              | some e => if e.count = x.maxCount then some .extraLimit else none
              | none => if 8 ≤ r.extras.length then some .full else none
        (∀ e, refusal = some e →
          ∃ t, exec (.extra rq code) s = .next t ∧ s.sameBut [.link] t
            ∧ s.frontTook t (consoleAnswer rq .extra e))
        ∧ (∀ x, refusal = none → s.mgmt.metrology.tariffSet.extra code = some x →
          let amount := match held with | some e => e.amount | none => x.amount
          let fare := min (r.fare + amount) 9999999
          ∃ t r', exec (.extra rq code) s = .next t ∧ s.sameBut [.link, .meter] t
            ∧ t.meter.trip = some r' ∧ r'.fare = fare
            ∧ r'.flags.saturated = (r.flags.saturated || decide (9999999 < r.fare + amount))
            ∧ r'.extras = (match held with
              | none => r.extras ++ [⟨code, 1, amount⟩]
              | some _ => r.extras.map fun e =>
                  if e.code = code then { e with count := e.count + 1 } else e)
            ∧ (s.meter.state = .pay → t.meter.snapshot = some fare)
            ∧ t.meter.state = s.meter.state ∧ t.meter.correction = s.meter.correction
            ∧ offeredTo t.link.front.queue (consoleAnswer rq .extra .accepted (.amount fare))))

/-- END_UNPAID in PAY with the session IDLE writes off the remaining due: the UNPAID flag and the unpaid
remainder are set, the closing mark is set and the close update of that record is begun. With a close or a
session in progress it is BUSY, and outside PAY it is refused. -/
def Obligations.EndUnpaidBeginsClose : Prop :=
  ∀ (rq : Req) (s : State), s.fromConsole rq → s.power.state = .run →
    (s.meter.state ≠ .pay →
      ∃ t, exec (.endUnpaid rq) s = .next t ∧ s.sameBut [.link] t
        ∧ s.frontTook t (consoleAnswer rq .endUnpaid .refusedState))
    ∧ (s.meter.state = .pay → (s.meter.closing = true ∨ s.pay.session.state ≠ .idle) →
      ∃ t, exec (.endUnpaid rq) s = .next t ∧ s.sameBut [.link] t
        ∧ s.frontTook t (consoleAnswer rq .endUnpaid .busy))
    ∧ (∀ r : TripRecord, s.meter.state = .pay → s.meter.closing = false →
      s.pay.session.state = .idle → s.meter.trip = some r →
      ∃ t r', exec (.endUnpaid rq) s = .next t
        ∧ s.sameBut [.link, .meter, .sign, .acct, .writes] t
        ∧ r' = { r with
            stop := s.now, tenders := s.pay.tenders, unpaid := s.remainingDue
            flags := { r.flags with unpaid := true } }
        ∧ t.meter.trip = some r' ∧ t.meter.closing = true ∧ t.meter.correction = 0
        ∧ t.meter.state = .pay
        ∧ (∃ acct : Accounting, acct = { s.acct with entry := some r'.contribution }
          ∧ t.acct = { acct with unwritten := false }
          ∧ t.writes = s.writes ++
            [.closeUpdate r' acct.carry acct.totalsNow s.now s.meter.lastAssigned])
        ∧ offeredTo t.link.front.queue
          (consoleAnswer rq .endUnpaid .accepted (.amount s.remainingDue)))

/-- The close update completes, with no metrology waiting, in RUN: the trip joins the log, shift record and
totalizers stand with its contributions, the open trip and snapshot are gone, the engine is IDLE, and the
meter is OFF_DUTY under SHIFT_LIMIT and VACANT otherwise. -/
def Obligations.CloseUpdateReleasesMeter : Prop :=
  ∀ (r : TripRecord) (c : ShiftCarry) (totals : Totals) (time last : Nat) (rest : List StoreWrite)
    (e : Contribution) (s : State),
    s.power.state = .run → s.writes = .closeUpdate r c totals time last :: rest → c.report = false →
    s.meter.trip = some r → s.acct.entry = some e → s.mgmt.slot.tariffSet = none →
    s.mgmt.slot.calibration = none → s.power.park ≠ .waiting → s.store.log.length < 64 →
    ∃ t, exec .closeUpdateComplete s = .next t ∧ t.store.log = s.store.log ++ [r]
      ∧ t.store.shift = c.shift ∧ t.store.totals = totals
      ∧ t.acct.entry = none ∧ t.acct.totals = s.acct.totals.add e
      ∧ t.meter.trip = none ∧ t.meter.snapshot = none ∧ t.meter.closing = false
      ∧ t.meter.lastClosed = r.number ∧ t.engine.mode = .idle ∧ t.engine.active = none
      ∧ t.pay.tenders = []
      ∧ s.movedTo t (if s.acct.shift.limitSet then .offDuty else .vacant)

/-- A hold-off's expiry tries a pending view: with the role available and room in its queue, the view of the
moment is offered, the mark is cleared, the number taken and the hold-off runs again. A VIEW_ACK is kept; of
an OFFERED session its fare is held against the snapshot, and a match with the offer acknowledged makes the
session PRESENTED. That the expiry's row tries the view with no hold-off running too is the model's choice
(log entry 38). -/
def Obligations.ViewsAreOffered : Prop :=
  ∀ (s : State) (a src : NodeAddr) (seq fare : Nat), s.powered = true →
    (s.meter.console.mark = true → s.holder .console = some a → s.presence a = .present →
      s.accepts .front = true →
      ∃ t, exec (.viewHoldoffExpiry .console) s = .next t ∧ s.sameBut [.link, .meter] t
        ∧ t.meter.console = ⟨false, true, (s.meter.console.seq + 1) % 65536⟩
        ∧ t.meter.pax = s.meter.pax ∧ t.meter.state = s.meter.state
        ∧ t.link.front.queue = s.link.front.queue
          ++ [.own .front a (.fareView (s.buildView s.meter.console))])
    ∧ ((s.viewState .paxDisplay).mark = false →
      ∃ t, exec (.viewHoldoffExpiry .paxDisplay) s = .next t ∧ s.sameBut [.meter] t
        ∧ t.meter = { s.meter with pax := { s.meter.pax with holdoff := false } })
    ∧ (s.fromRole .paxDisplay src → s.pay.session.state ≠ .offered →
      exec (.viewAck src seq fare) s =
        .next { s with meter := { s.meter with lastAck := some (seq, fare) } })
    ∧ (s.fromRole .paxDisplay src → s.pay.session.state = .offered →
      s.pay.session.offerAck = false →
      exec (.viewAck src seq fare) s =
        .next { s with
          meter := { s.meter with lastAck := some (seq, fare) }
          pay := { s.pay with
            session :=
              { s.pay.session with
                viewMatch := s.pay.session.viewMatch || decide (s.meter.snapshot = some fare) } } })
    ∧ (s.fromRole .paxDisplay src → s.pay.session.state = .offered → s.pay.session.offerAck = true →
      s.meter.snapshot = some fare →
      ∃ t, exec (.viewAck src seq fare) s = .next t
        ∧ s.sameBut [.link, .meter, .pay, .intercom] t ∧ t.meter.lastAck = some (seq, fare)
        ∧ t.pay = { s.pay with
            session := { s.pay.session with viewMatch := true, state := .presented } }
        ∧ s.viewMarked t .console ∧ s.viewMarked t .paxDisplay)
    ∧ (s.fromRole .paxDisplay src → s.pay.session.state = .offered → s.pay.session.offerAck = true →
      s.meter.snapshot ≠ some fare → s.pay.session.viewMatch = false →
      s.available .paxDisplay = true →
      exec (.viewAck src seq fare) s =
        .next { s with meter := { s.meter with lastAck := some (seq, fare) } })

/-! ### The roof sign -/

/-- AUX_LAMP sets the latch of a channel 1–6, and CLEAR_LAMP returns the fault of a channel, or of all six
for 0, to OK, and leaves a channel that is OK as it was; every channel is then composed anew. A check of a
lit channel: above the maximum the fault is SHORT, LAMP_SHORT is offered and the channel goes dark; below
the minimum a third check in a row makes it OPEN with LAMP_OPEN; within the limits it is OK. A dark channel
is not checked. The duty 0 of a dark channel is the model's choice (log entry 39). -/
def Obligations.LampsAreSetAndChecked : Prop :=
  (∀ (rq : Req) (s : State),
     (∀ n v, s.fromConsole rq → 1 ≤ n → n ≤ 6 →
       ∃ t, exec (.auxLamp rq n (some v)) s = .next t ∧ s.sameBut [.link, .sign] t
         ∧ t.sign.lamps = (s.sign.lamps.modify (n - 1) fun l => { l with latch := v }).mapIdx
             t.driveChannel
         ∧ s.frontTook t (consoleAnswer rq .auxLamp .accepted))
     ∧ (∀ n v, s.fromConsole rq → n = 0 ∨ 6 < n →
       ∃ t, exec (.auxLamp rq n (some v)) s = .next t ∧ s.sameBut [.link] t
         ∧ s.frontTook t (consoleAnswer rq .auxLamp .badValue))
     ∧ (∀ n, s.fromMgmt .clearLamp rq → n ≤ 6 →
       ∃ t, exec (.clearLamp rq n) s = .next t ∧ s.sameBut [.link, .sign] t
         ∧ (∀ i l, t.sign.lamps[i]? = some l → (n = 0 ∨ i + 1 = n) → l.fault = .ok)
         ∧ t.sign = { s.sign with
             lamps := (s.sign.lamps.mapIdx fun i l =>
               if (n = 0 ∨ i + 1 = n) ∧ l.fault ≠ .ok then { l with fault := .ok, lowChecks := 0 }
               else l).mapIdx t.driveChannel }
         ∧ s.frontTook t (mgmtAnswer rq .clearLamp .none .ok))
     ∧ (∀ n, s.fromMgmt .clearLamp rq → 6 < n →
       ∃ t, exec (.clearLamp rq n) s = .next t ∧ s.sameBut [.link] t
         ∧ s.frontTook t (mgmtAnswer rq .clearLamp .none .badValue)))
  ∧ ∀ (n current : Nat) (l : Lamp) (s : State), 1 ≤ n → n ≤ 6 → s.sign.lamps[n - 1]? = some l →
      let c := s.channel (n - 1)
      (l.lit = false → exec (.lampCheck n current) s = .next s)
      ∧ (l.lit = true → c.maxMa < current →
        ∃ t l', exec (.lampCheck n current) s = .next t ∧ s.sameBut [.link, .notices, .sign] t
          ∧ t.sign.lamps[n - 1]? = some l' ∧ l'.fault = .short ∧ l'.lit = false ∧ l'.current = current
          ∧ t.notices.nextSeq = (s.notices.nextSeq + 1) % 65536
          ∧ s.noticed t (.lampShort n c.role current))
      ∧ (l.lit = true → current ≤ c.maxMa → current < c.minMa → l.fault = .ok → l.lowChecks = 2 →
        ∃ t l', exec (.lampCheck n current) s = .next t ∧ s.sameBut [.link, .notices, .sign] t
          ∧ t.sign.lamps[n - 1]? = some l' ∧ l'.fault = .opened ∧ l'.lit = true
          ∧ t.notices.nextSeq = (s.notices.nextSeq + 1) % 65536
          ∧ s.noticed t (.lampOpen n c.role current))
      ∧ (l.lit = true → current ≤ c.maxMa → current < c.minMa → l.fault = .ok → l.lowChecks < 2 →
        ∃ t, exec (.lampCheck n current) s = .next t ∧ s.sameBut [.sign] t
          ∧ t.sign =
            { s.sign with
              lamps := s.sign.lamps.set (n - 1)
                { l with current := current, check := .later, lowChecks := l.lowChecks + 1 } })
      ∧ (l.lit = true → current ≤ c.maxMa → c.minMa ≤ current →
        ∃ t, exec (.lampCheck n current) s = .next t ∧ s.sameBut [.sign] t
          ∧ t.sign =
            { s.sign with
              lamps := s.sign.lamps.set (n - 1)
                { l with current := current, check := .later, fault := .ok, lowChecks := 0 } })

/-- SIGN_TEST outside HIRED and PAY holds its values for its seconds in meter intervals, its expiry ends it,
and every channel is composed anew. An ambient sample changes the level at the eighth sample in a row that
indicates another one. That the expiry's row ends any test is the model's choice (log entry 9). The duty 0
of a dark channel is the model's choice (log entry 39). -/
def Obligations.TestsAndAmbientRun : Prop :=
  ∀ (rq : Req) (s : State),
    (∀ d v, s.fromMgmt .signTest rq → s.tripOpen = false → 1 ≤ d → d ≤ 60 →
      ∃ t, exec (.signTest rq d (some v)) s = .next t ∧ s.sameBut [.link, .sign] t
        ∧ t.sign.test = some ⟨v, 10 * d⟩
        ∧ t.sign.lamps = s.sign.lamps.mapIdx t.driveChannel
        ∧ s.frontTook t (mgmtAnswer rq .signTest .none .ok))
    ∧ (∀ d v, s.fromMgmt .signTest rq → s.tripOpen = true → d ≤ 60 →
      ∃ t, exec (.signTest rq d (some v)) s = .next t ∧ s.sameBut [.link] t
        ∧ s.frontTook t (mgmtAnswer rq .signTest .none .refusedState))
    ∧ (s.powered = true →
      ∃ t, exec .signTestExpiry s = .next t ∧ s.sameBut [.sign] t ∧ t.sign.test = none)
    ∧ (∀ x, (s.power.state = .run ∨ s.power.state = .parked) →
      let i := if s.tables.brightness.tHigh ≤ x then AmbientLevel.day
        else if x ≤ s.tables.brightness.tLow then .night else .dusk
      ∃ t, exec (.ambientSample x) s = .next t ∧ s.sameBut [.sign] t ∧ t.sign.ambient.sample = x
        ∧ t.sign.lamps = s.sign.lamps.mapIdx t.driveChannel
        ∧ (i = s.sign.ambient.level → t.sign.ambient.level = i ∧ t.sign.ambient.count = 0)
        ∧ (i ≠ s.sign.ambient.level → i = s.sign.ambient.candidate → s.sign.ambient.count = 7 →
          t.sign.ambient.level = i)
        ∧ (i ≠ s.sign.ambient.level → i = s.sign.ambient.candidate → s.sign.ambient.count < 7 →
          t.sign.ambient.level = s.sign.ambient.level
            ∧ t.sign.ambient.count = s.sign.ambient.count + 1)
        ∧ (i ≠ s.sign.ambient.level → i ≠ s.sign.ambient.candidate →
          t.sign.ambient.level = s.sign.ambient.level ∧ t.sign.ambient.count = 1))

/-- The emergency switch in RUN: a closure starts a hold of 2 s, or of 10 s while emergency is active, and
an opening ends it. The 2 s expiry activates the emergency: EMERGENCY_ON is offered with the open trip's
number, and the trip's flag, the shift's count and the monitor follow. The 10 s expiry and EMERGENCY_CLEAR
clear it, with EMERGENCY_OFF and its cause. That EMERGENCY_OFF is drained before the answer to
EMERGENCY_CLEAR is offered is the model's choice (log entry 23). -/
def Obligations.EmergencyFollowsSwitch : Prop :=
  ∀ (rq : Req) (s : State),
    (s.power.state = .run → s.pins.emergencyClosed = false → s.sign.hold = .released →
      ∃ t, exec .emergencySwitchClose s = .next t ∧ s.sameBut [.pins, .sign] t
        ∧ t.pins = { s.pins with emergencyClosed := true }
        ∧ t.sign = { s.sign with hold := .timing (if s.sign.emergency.active then 10 else 2) })
    ∧ (s.power.state = .run →
      ∃ t, exec .emergencySwitchOpen s = .next t ∧ s.sameBut [.pins, .sign] t
        ∧ t.pins = { s.pins with emergencyClosed := false }
        ∧ t.sign = { s.sign with hold := .released })
    ∧ (s.power.state = .run → s.sign.hold = .timing 2 → s.sign.emergency.active = false →
      ∃ t, exec .emergencyHoldExpiry s = .next t ∧ t.sign.hold = .spent
        ∧ t.sign.emergency = ⟨true, s.now⟩
        ∧ t.notices.nextSeq = (s.notices.nextSeq + 1) % 65536
        ∧ s.noticed t (.emergencyOn s.now ((s.meter.trip.map (·.number)).getD 0))
        ∧ t.meter.trip = s.meter.trip.map (fun r =>
          { r with flags := { r.flags with emergency := true } })
        ∧ t.acct.shift.record.map (·.emergencies)
          = s.acct.shift.record.map (fun r => min (r.emergencies + 1) 65535)
        ∧ t.intercom.monitor.state ≠ .off ∧ t.meter.state = s.meter.state)
    ∧ (s.power.state = .run → s.sign.hold = .timing 10 → s.sign.emergency.active = true →
      ∃ t, exec .emergencyHoldExpiry s = .next t ∧ t.sign.hold = .spent
        ∧ t.sign.emergency = ⟨false, s.now⟩ ∧ t.intercom.monitor.state = .off
        ∧ t.notices.nextSeq = (s.notices.nextSeq + 1) % 65536
        ∧ s.noticed t (.emergencyOff s.now .switch))
    ∧ (s.fromMgmt .emergencyClear rq → s.sign.emergency.active = true →
      ∃ t, exec (.emergencyClear rq) s = .next t ∧ t.sign.emergency = ⟨false, s.now⟩
        ∧ t.sign.hold = s.sign.hold ∧ t.intercom.monitor.state = .off
        ∧ s.noticed t (.emergencyOff s.now (.requester rq.src))
        ∧ offeredTo t.link.front.queue (mgmtAnswer rq .emergencyClear .none .ok))
    ∧ (s.fromMgmt .emergencyClear rq → s.sign.emergency.active = false →
      ∃ t, exec (.emergencyClear rq) s = .next t ∧ s.sameBut [.link] t
        ∧ s.frontTook t (mgmtAnswer rq .emergencyClear .none .refusedState))

/-! ### The partition intercom -/

/-- A codec frame: in MUTED both speakers stand at 0, and in STOPPED nothing is exchanged. In RUNNING, with
no prompt and no test, each attenuation moves by up to 8 toward its target, and each speaker sample is the
other side's microphone sample through gain and attenuation, rounded and saturated; the detectors hear both
samples, which join the block in progress. A full monitor frame of 40 samples goes to the monitor queue
under the next number. The model's choices here: MONITOR_FRAME_COMPLETE acts from 40 samples on (log entry
9), and a block boundary that has not been taken comes before the next frame, so a block not yet full is the
premise (log entry 15). -/
def Obligations.CodecFrameWorksPaths : Prop :=
  ∀ (d p : BitVec 16) (s : State),
    (s.intercom.run = .muted →
      exec (.codecFrame d p) s =
        .next { s with intercom := { s.intercom with drvSpk := 0, paxSpk := 0 } })
    ∧ (s.intercom.run = .stopped → exec (.codecFrame d p) s = .next s)
    ∧ (s.intercom.run = .running → s.intercom.position < 128 → s.intercom.playing = none →
      s.intercom.queue = [] → s.intercom.test = none →
      s.intercom.drv.stuck = false → s.intercom.pax.stuck = false →
      ∃ t, exec (.codecFrame d p) s = .next t ∧ s.sameBut [.intercom] t
        ∧ t.intercom.d2p.a = ramp s.intercom.d2p.a s.intercom.d2p.target
        ∧ t.intercom.p2d.a = ramp s.intercom.p2d.a s.intercom.p2d.target
        ∧ t.intercom.paxSpk =
          max (-32768) (min 32767
            ((d.toInt * s.tables.intercom.gainD2P * t.intercom.d2p.a + 32768) / 65536))
        ∧ t.intercom.drvSpk =
          max (-32768) (min 32767
            ((p.toInt * s.tables.intercom.gainP2D * t.intercom.p2d.a + 32768) / 65536))
        ∧ t.intercom.drv.sum = s.intercom.drv.sum + d.toInt.natAbs * d.toInt.natAbs
        ∧ t.intercom.pax.sum = s.intercom.pax.sum + p.toInt.natAbs * p.toInt.natAbs
        ∧ t.intercom.position = s.intercom.position + 1
        ∧ t.intercom.mode = s.intercom.mode ∧ t.intercom.arbiter = s.intercom.arbiter)
    ∧ (∀ a, s.powered = true → s.intercom.monitor.state = .running →
      40 ≤ s.intercom.monitor.samples.length → s.holder .modem = some a →
      s.link.monitor.length < 4 →
      ∃ t, exec .monitorFrameComplete s = .next t ∧ s.sameBut [.link, .intercom] t
        ∧ t.link = { s.link with monitor := s.link.monitor ++
            [.own .front a (.audio s.intercom.monitor.seq s.intercom.monitor.startMark
              (s.intercom.monitor.samples.take 40))] }
        ∧ t.intercom.monitor.seq = (s.intercom.monitor.seq + 1) % 65536
        ∧ t.intercom.monitor.startMark = false)

/-- PROMPT of a defined entry: already waiting, queued at the tail, or FULL with the drop counter one higher
at 8 waiting; of an undefined entry, BAD_VALUE. With the player idle the next codec frame starts the queue's
defined head; each frame makes one sample of a playing prompt, whose segments follow one another, and
PROMPT_END takes it from the player once its last sample has been made. That PROMPT_END does nothing before
that, and that the next frame takes an ended prompt away by itself, are the model's choices (log entry 15).
A prompt plays beside no test tone, as a test ends it where its tone starts. -/
def Obligations.PromptsWaitAndPlay : Prop :=
  ∀ (rq : Req) (i : Nat) (s : State),
    (s.fromConsole rq → (s.tables.prompts[i]?).join = none →
      ∃ t, exec (.prompt rq i) s = .next t ∧ s.sameBut [.link] t
        ∧ s.frontTook t (consoleAnswer rq .prompt .badValue))
    ∧ (∀ e, s.fromConsole rq → (s.tables.prompts[i]?).join = some e →
      (i ∈ s.intercom.queue →
        ∃ t, exec (.prompt rq i) s = .next t ∧ s.sameBut [.link] t
          ∧ s.frontTook t (consoleAnswer rq .prompt .accepted (.disposition .alreadyWaiting)))
      ∧ (i ∉ s.intercom.queue → s.intercom.queue.length < 8 →
        ∃ t, exec (.prompt rq i) s = .next t ∧ s.sameBut [.link, .intercom] t
          ∧ t.intercom = { s.intercom with queue := s.intercom.queue ++ [i] }
          ∧ s.frontTook t (consoleAnswer rq .prompt .accepted (.disposition .queued)))
      ∧ (i ∉ s.intercom.queue → 8 ≤ s.intercom.queue.length →
        ∃ t, exec (.prompt rq i) s = .next t ∧ s.sameBut [.link, .intercom] t
          ∧ t.intercom = { s.intercom with drops := min (s.intercom.drops + 1) 65535 }
          ∧ s.frontTook t (consoleAnswer rq .prompt .full)))
    ∧ (∀ x, s.powered = true → s.intercom.playing = some x →
      (x.left = 0 →
        ∃ t, exec .promptEnd s = .next t ∧ s.sameBut [.intercom] t ∧ t.intercom.playing = none
          ∧ t.intercom.queue = s.intercom.queue ∧ t.intercom.arbiter = s.intercom.arbiter)
      ∧ (x.left ≠ 0 → exec .promptEnd s = .next s))
    ∧ (s.intercom.playing = none → exec .promptEnd s = .next s)
    ∧ (∀ x d p, s.intercom.run = .running → s.intercom.position < 128 →
      s.intercom.playing = some x → x.left ≠ 0 → s.intercom.test.map (·.started) ≠ some true →
      ∃ t x', exec (.codecFrame d p) s = .next t ∧ s.sameBut [.intercom] t
        ∧ t.intercom.playing = some x' ∧ t.intercom.queue = s.intercom.queue
        ∧ x'.index = x.index ∧ x'.entry = x.entry
        ∧ (1 < x.left → x'.segment = x.segment ∧ x'.left = x.left - 1)
        ∧ (∀ tone, x.left = 1 → x.entry.tones[x.segment + 1]? = some tone →
          x'.segment = x.segment + 1 ∧ x'.left = tone.ms * 8)
        ∧ (x.left = 1 → x.entry.tones[x.segment + 1]? = none → x'.left = 0))
    ∧ (∀ e rest tone tones d p, s.intercom.run = .running → s.intercom.position < 128 →
      s.intercom.playing = none → s.intercom.test = none → s.intercom.queue = i :: rest →
      (s.tables.prompts[i]?).join = some e → e.tones = tone :: tones → 10 ≤ tone.ms →
      ∃ t, exec (.codecFrame d p) s = .next t ∧ s.sameBut [.intercom] t ∧ t.intercom.queue = rest
        ∧ t.intercom.playing.map (fun x => (x.index, x.segment, x.left))
          = some (i, 0, tone.ms * 8 - 1))

/-- A block boundary after the 128th sample, in RUNNING, decides each microphone's block: it is speech when
the floor is initialised, the microphone is not STUCK, and its mean energy is above the floor times the
margin over 4 and at least E_min. The floor begins at the first block's energy, falls at once, rises by 1/64
and one, and stands while STUCK. A block whose peak is 4 or less is quiet; the 313th quiet one in a row
makes the microphone STUCK with MIC_STUCK, and a louder one frees it. In the mode ARBITER the arbiter then
grants or releases a direction from the two activities; in CLOSED it stands. A test in flight starts its
tone. That the row acts after the 128th sample only, that the 313th block is itself decided as not STUCK,
that a hangover count at or above H ends the activity, and that the driver's notice comes before the
passenger's, are the model's choices (log entries 15, 16, 49 and 45). -/
def Obligations.BlockDecidesSpeech : Prop :=
  (∀ s : State, (s.intercom.run ≠ .running ∨ s.intercom.position < 128) →
    exec .blockBoundary s = .next s)
  ∧ ∀ s : State, s.intercom.run = .running → s.intercom.position = 128 →
    let set := s.tables.intercom
    let becomesStuck := fun side : Side =>
      (s.intercom.mic side).stuck = false ∧ (s.intercom.mic side).peak ≤ 4
        ∧ 312 ≤ (s.intercom.mic side).stuckCount
    ∃ t, exec .blockBoundary s = .next t
      ∧ (∀ side,
        let d := s.intercom.mic side
        let d' := t.intercom.mic side
        let e := d.sum / 128
        let speech := d.stuck = false ∧ ∃ n ∈ d.floor, n * set.margin / 4 < e ∧ set.eMin ≤ e
        (d.floor = none → d'.floor = some e)
        ∧ (∀ n, d.floor = some n → d.stuck = true → d'.floor = some n)
        ∧ (∀ n, d.floor = some n → d.stuck = false →
          d'.floor = some (if e < n then e else n + n / 64 + 1))
        ∧ (speech → d'.active = true ∧ d'.hangover = 0)
        ∧ (¬speech → d.active = true → d.hangover + 1 < set.hangover →
          d'.active = true ∧ d'.hangover = d.hangover + 1)
        ∧ (¬speech → (d.active = false ∨ set.hangover ≤ d.hangover + 1) → d'.active = false)
        ∧ (4 < d.peak → d'.stuckCount = 0 ∧ d'.stuck = false)
        ∧ (d.peak ≤ 4 → d'.stuckCount = min (d.stuckCount + 1) 313
          ∧ d'.stuck = decide (312 ≤ d.stuckCount))
        ∧ d'.sum = 0 ∧ d'.peak = 0 ∧ d'.energies = (e :: d.energies).take 16)
      ∧ (¬becomesStuck .drv → ¬becomesStuck .pax → t.notices = s.notices ∧ t.link = s.link)
      ∧ (becomesStuck .drv → ¬becomesStuck .pax → s.noticed t (.micStuck .drv))
      ∧ (¬becomesStuck .drv → becomesStuck .pax → s.noticed t (.micStuck .pax))
      ∧ (becomesStuck .drv → becomesStuck .pax →
        (s.offerNotice (.micStuck .drv)).noticed t (.micStuck .pax))
      ∧ t.intercom.position = 0 ∧ t.intercom.mode = s.intercom.mode
      ∧ (s.intercom.mode = .closed → t.intercom.arbiter = s.intercom.arbiter)
      ∧ (s.intercom.mode = .arbiter → t.intercom.arbiter =
        (match s.intercom.arbiter, t.intercom.drv.active, t.intercom.pax.active with
         | .idle, true, true => if set.tie = .drv then .driver else .passenger
         | .idle, true, false => .driver
         | .idle, false, true => .passenger
         | .idle, false, false => .idle
         | .driver, d, _ => if d then .driver else .idle
         | .passenger, d, p =>
           if d && set.driverPriority then .driver else if p then .passenger else .idle))
      ∧ (s.intercom.test = none → t.intercom.playing = s.intercom.playing)
      ∧ (∀ x, s.intercom.test = some x → t.intercom.test = some { x with started := true }
        ∧ (x.started = false → t.intercom.playing = none))
      ∧ t.link.front.running = s.link.front.running ∧ t.meter = s.meter ∧ t.tables = s.tables

/-- SPEAKER_TEST outside HIRED and PAY puts a test in flight without an answer, and is BUSY while one is. A
frame with the tone started makes one sample of it, on the speaker of the test's side, and leaves prompts
waiting. After 4,000 tone samples its end answers PASS or FAIL with the average of the last 16 block
energies of the microphone of the test's side; a frame that comes first takes that end itself, before its
own samples. That the end's row acts at 4,000 samples only, and that a frame takes an end that has not been
taken, are the model's choices (log entries 9 and 15). -/
def Obligations.SpeakerTestMeasures : Prop :=
  ∀ (rq : Req) (side : Side) (s : State),
    (s.fromMgmt .speakerTest rq → s.tripOpen = true →
      ∃ t, exec (.speakerTest rq (some side)) s = .next t ∧ s.sameBut [.link] t
        ∧ s.frontTook t (mgmtAnswer rq .speakerTest .none .refusedState))
    ∧ (s.fromMgmt .speakerTest rq → s.tripOpen = false → s.intercom.test ≠ none →
      ∃ t, exec (.speakerTest rq (some side)) s = .next t ∧ s.sameBut [.link] t
        ∧ s.frontTook t (mgmtAnswer rq .speakerTest .none .busy))
    ∧ (s.fromMgmt .speakerTest rq → s.tripOpen = false → s.intercom.test = none →
      ∃ t, exec (.speakerTest rq (some side)) s = .next t ∧ s.sameBut [.intercom] t
        ∧ t.intercom = { s.intercom with
            test := some ⟨side, rq, false, 0, 0, s.tables.intercom.testLevel,
              s.tables.intercom.testThreshold⟩ })
    ∧ (∀ x, s.powered = true → s.intercom.test = some x → (x.started = false ∨ x.played < 4000) →
      exec .speakerTestEnd s = .next s)
    ∧ (s.intercom.test = none → exec .speakerTestEnd s = .next s)
    ∧ (∀ x d p, s.intercom.run = .running → s.intercom.position < 128 → s.intercom.playing = none →
      s.intercom.test = some x → x.started = true → x.played < 4000 →
      ∃ t, exec (.codecFrame d p) s = .next t ∧ s.sameBut [.intercom] t
        ∧ t.intercom.test = some { x with played := x.played + 1, phase := (x.phase + 8192) % 65536 }
        ∧ t.intercom.playing = none ∧ t.intercom.queue = s.intercom.queue
        ∧ (∀ z, (s.intercom.mic z).energies = (t.intercom.mic z).energies)
        ∧ (s.intercom.drv.stuck = false → s.intercom.pax.stuck = false →
          let tone := (x.level : Int) * sine (x.phase / 256 % 256) / 32767
          t.intercom.paxSpk = sat16 (pathOutput d.toInt s.tables.intercom.gainD2P t.intercom.d2p.a
            + if x.side = .pax then tone else 0)
          ∧ t.intercom.drvSpk = sat16 (pathOutput p.toInt s.tables.intercom.gainP2D t.intercom.p2d.a
            + if x.side = .drv then tone else 0)))
    ∧ (∀ x d p, s.powered = true → s.intercom.run = .running → s.intercom.test = some x →
      x.started = true → 4000 ≤ x.played →
      ∃ t u, exec .speakerTestEnd s = .next t ∧ exec (.codecFrame d p) t = .next u
        ∧ exec (.codecFrame d p) s = .next u ∧ t.intercom.test = none)
    ∧ (∀ x, s.powered = true → s.link.front.running = true → rq.src.seg = .front →
      s.power.park ≠ .waiting → s.intercom.test = some x → x.started = true → 4000 ≤ x.played →
      x.rq = rq → x.side = side →
      ∃ t avg, exec .speakerTestEnd s = .next t ∧ s.sameBut [.link, .intercom] t
        ∧ avg = (s.intercom.mic side).energies.sum / 16 ∧ t.intercom.test = none
        ∧ s.frontTook t (mgmtAnswer rq .speakerTest .none .ok
          (.test (if x.threshold ≤ avg then .passed else .failed) avg x.threshold)))

/-! ### Card payment -/

/-- The three requests of an offer. PAY_CARD with the checks passed offers the smaller of the amount and the
remaining due, with its tip cap, to the reader, and the session is OFFERED. An OFFER_ACK of the offer with
the view matched makes it PRESENTED, and so does a VIEW_ACK whose fare matches the snapshot once the offer
is acknowledged; a match before that is kept. PAY_CANCEL withdraws an offer not yet in AUTH_WAIT. That a
console answer goes to the node holding CONSOLE when it is offered, and that an amount above FARE_MAX is
taken, are the model's choices (log entries 18 and 51). -/
def Obligations.OffersRunTheSession : Prop :=
  ∀ (rq : Req) (s : State),
    (∀ amount a, s.fromConsole rq → s.meter.closing = false → s.meter.state = .pay →
      s.pay.session.state = .idle → amount ≠ some 0 → s.remainingDue ≠ 0 →
      s.holder .reader = some a → s.presence a = .present → s.pay.tenders.length < 6 →
      s.accepts .rear = true →
      let offer := match amount with
        | some n => if n ≤ s.remainingDue then n else s.remainingDue
        | none => s.remainingDue
      let cap := offer * s.tables.payLimits.tipPercent / 100
      ∃ t, exec (.payCard rq amount) s = .next t ∧ s.sameBut [.link, .meter, .pay] t
        ∧ t.pay = { s.pay with
            session := ⟨.offered, offer, cap, s.pay.tenders.length + 1, false, false⟩ }
        ∧ t.meter.state = .pay ∧ t.meter.trip = s.meter.trip
        ∧ .own .rear a (.payOffer offer cap ((s.meter.trip.map (·.number)).getD 0)
            (s.pay.tenders.length + 1)) ∈ t.link.rear.queue
        ∧ offeredTo t.link.front.queue (consoleAnswer rq .payCard .accepted (.offer offer cap)))
    ∧ (∀ src r, s.fromRole .reader src → s.pay.session.state = .offered → s.meter.trip = some r →
      ∃ t, exec (.offerAck src r.number s.pay.session.index) s = .next t
        ∧ t.pay.session.offerAck = true ∧ t.pay.tenders = s.pay.tenders
        ∧ (s.pay.session.viewMatch = true → t.pay.session.state = .presented)
        ∧ (s.pay.session.viewMatch = false → s.available .paxDisplay = true →
          t.pay.session.state = .offered))
    ∧ (∀ src seq, s.fromRole .paxDisplay src → s.pay.session.state = .offered →
      ∃ t, exec (.viewAck src seq (s.meter.snapshot.getD 0)) s = .next t
        ∧ (s.meter.snapshot ≠ none → t.pay.session.viewMatch = true)
        ∧ (s.meter.snapshot ≠ none → s.pay.session.offerAck = true → t.pay.session.state = .presented)
        ∧ (s.pay.session.offerAck = false → t.pay.session.state = .offered)
        ∧ t.pay.session.offer = s.pay.session.offer ∧ t.pay.session.index = s.pay.session.index
        ∧ t.pay.tenders = s.pay.tenders)
    ∧ (s.fromConsole rq → s.meter.closing = false → s.meter.state = .pay →
      (s.pay.session.state = .offered ∨ s.pay.session.state = .presented) →
      ∃ t, exec (.payCancel rq) s = .next t ∧ s.sameBut [.link, .meter, .pay] t
        ∧ t.pay.session = .idle ∧ t.pay.tenders = s.pay.tenders ∧ t.meter.state = .pay
        ∧ offeredTo t.link.front.queue (consoleAnswer rq .payCancel .accepted))
    ∧ (s.fromConsole rq → s.meter.closing = false → s.meter.state = .pay →
      s.pay.session.state = .authWait →
      ∃ t, exec (.payCancel rq) s = .next t ∧ s.sameBut [.link] t
        ∧ s.frontTook t (consoleAnswer rq .payCancel .busy))

/-- A CASH that passes the checks in order adds a counted tender of the smaller of the amount and the
remaining due; the answer carries it and what is left; a remaining due of 0 begins the close. -/
def Obligations.CashJoinsTenders : Prop :=
  ∀ (rq : Req) (amount : Nat) (s : State), s.fromConsole rq → s.meter.closing = false →
    let refusal : Option ConsoleResult :=
      if s.meter.state ≠ .pay then some .refusedState
      else if s.pay.session.state ≠ .idle then some .busy
      else if amount = 0 then some .badValue
      else if s.remainingDue = 0 then some .nothingDue
      else if 6 ≤ s.pay.tenders.length then some .tenderFull else none
    let a := if amount ≤ s.remainingDue then amount else s.remainingDue
    (∀ x, refusal = some x →
      ∃ t, exec (.cash rq amount) s = .next t ∧ s.sameBut [.link] t
        ∧ s.frontTook t (consoleAnswer rq .cash x))
    ∧ (∀ r : TripRecord, refusal = none → s.meter.trip = some r →
      ∃ t, exec (.cash rq amount) s = .next t
        ∧ t.pay.tenders = s.pay.tenders ++
          [⟨s.pay.tenders.length + 1, a, 0, none, .cash, none, .none⟩]
        ∧ t.remainingDue = s.remainingDue - a ∧ t.pay.session = s.pay.session
        ∧ offeredTo t.link.front.queue
          (consoleAnswer rq .cash .accepted (.cash a (s.remainingDue - a)))
        ∧ (amount < s.remainingDue → t.meter.closing = false)
        ∧ (s.remainingDue ≤ amount → t.meter.closing = true
          ∧ t.meter.trip = some { r with
              stop := s.now, tenders := t.pay.tenders, unpaid := 0 }))

/-- The reader's PAY_REQ by a PAYMENT entry: in PRESENTED with the modem available it is stamped, a tender
waits and its checkpoint is begun; without the modem the tender is decided offline at once; in the other
states it is answered and creates nothing. The modem's PAY_RESP of the waiting tender decides it. A response
of another epoch is counted as stale, and one that names no waiting tender and no late entry as unmatched. A
late response takes its entry off the late match list: an approval of a tender accepted offline approves it
and withdraws its OFFLINE advice, a decline disputes it and turns the advice into DISPUTED, with the amount
in the shift's late disputes when the trip has closed; an approval of a tender declined offline raises
UNCLAIMED. The model's choices here: card data and an authorization code of any length are kept (log entry
51), the rows enter at classification without a poll exchange (log entry 21), and what a tender shows whose
advice meets a record of its reference, with the acknowledgement timer of an advice in flight (log entry
29). -/
def Obligations.AuthorizationsAreDecided : Prop :=
  (∀ (src dst : NodeAddr) (d : PayReq) (i : Nat) (e : FwdEntry) (s : State),
    s.fromRole .reader src → src.num ≠ 0 → dst.num ≠ 0 → dst.seg ≠ src.seg →
    s.matching ⟨dst, src, .payReq⟩ = some (i, e) → e.action = .payment → d.cardClass ≤ 3 →
    (s.pay.session.state = .presented → s.available .modem = true → s.pay.tenders.length < 6 →
      ∃ t f, exec (.payReq src dst d) s = .next t ∧ t.pay.session.state = .authWait
        ∧ f = ⟨d.cardClass, ⟨s.pay.epoch, (s.meter.trip.map (·.number)).getD 0, s.pay.session.index⟩,
            d.requestId, none⟩
        ∧ t.pay.tenders = s.pay.tenders ++
          [⟨s.pay.session.index, s.pay.session.offer, min d.tip s.pay.session.tipCap, some f,
            .authWait, none, .none⟩]
        ∧ t.pay.held.map (·.ref) = some f.ref
        ∧ t.writes = s.writes ++
          [.checkpoint ({ s with pay := { s.pay with tenders := t.pay.tenders } } : State).saveRecord
            s.meter.lastAssigned s.acct.carry s.acct.totalsNow (some f.ref)])
    ∧ (s.pay.session.state = .presented → s.available .modem = false → s.pay.tenders.length < 6 →
      s.pay.session.index = s.pay.tenders.length + 1 →
      ∃ t f, exec (.payReq src dst d) s = .next t ∧ t.pay.session = .idle ∧ t.pay.held = none
        ∧ f = ⟨d.cardClass, ⟨s.pay.epoch, (s.meter.trip.map (·.number)).getD 0, s.pay.session.index⟩,
            d.requestId, none⟩
        ∧ t.pay.tenders = s.pay.tenders ++
          [if s.pay.session.offer ≤ s.tables.payLimits.floors.getD d.cardClass 0
              ∧ s.exposure + s.pay.session.offer ≤ s.tables.payLimits.offlineCap
              ∧ s.pay.advice.length + 2 ≤ 32 then
            ⟨s.pay.session.index, s.pay.session.offer, min d.tip s.pay.session.tipCap, some f,
              .offlineAccepted, none, .queued⟩
           else
            ⟨s.pay.session.index, s.pay.session.offer, min d.tip s.pay.session.tipCap, some f,
              .declined, some .offlineRefused, .none⟩]
        ∧ (∃ l, t.pay.late.getLast? = some l ∧ l.ref = f.ref ∧ l.amount = s.pay.session.offer))
    ∧ (s.pay.session.state ≠ .presented →
      ∃ t, exec (.payReq src dst d) s = .next t ∧ t.pay.session = s.pay.session
        ∧ t.pay.tenders = s.pay.tenders ∧ t.meter = s.meter ∧ t.writes = s.writes
        ∧ offeredTo t.link.rear.queue
          (.own .rear src (.payResp d.requestId
            (match s.pay.session.state with
             | .idle => .noSession
             | .offered => .notReady
             | _ => .busy) none))))
  ∧ (∀ (src dst : NodeAddr) (d : PayResp) (i : Nat) (e : FwdEntry) (tn : Tender) (f : CardFields)
      (s : State),
    s.fromRole .modem src → src.num ≠ 0 → dst.num ≠ 0 → dst.seg ≠ src.seg →
    s.matching ⟨dst, src, .payResp⟩ = some (i, e) → e.action = .payment →
    s.pay.session.state = .authWait → 1 ≤ s.pay.session.index →
    s.pay.tenders[s.pay.session.index - 1]? = some tn → tn.index = s.pay.session.index →
    tn.card = some f → d.ref = f.ref → d.ref.epoch = s.pay.epoch →
    (d.result = .approved →
      ∃ t, exec (.payResp src dst d) s = .next t ∧ t.pay.session = .idle ∧ t.pay.auth = .stopped
        ∧ t.pay.tenders = s.pay.tenders.set (s.pay.session.index - 1)
          { tn with status := .approved, card := some { f with authCode := some d.authCode } })
    ∧ (d.result = .declined →
      ∃ t, exec (.payResp src dst d) s = .next t ∧ t.pay.session = .idle ∧ t.pay.auth = .stopped
        ∧ t.pay.tenders = s.pay.tenders.set (s.pay.session.index - 1)
          { tn with status := .declined, reason := some .issuer }
        ∧ t.meter.closing = s.meter.closing))
  ∧ (∀ (src dst : NodeAddr) (d : PayResp) (i : Nat) (e : FwdEntry) (s : State),
    s.fromRole .modem src → src.num ≠ 0 → dst.num ≠ 0 → dst.seg ≠ src.seg →
    s.matching ⟨dst, src, .payResp⟩ = some (i, e) → e.action = .payment → d.result ≠ .other →
    let link := { s.link with hits := s.link.hits.modify i (fun n => min (n + 1) 65535) }
    let notWaiting := s.pay.session.state ≠ .authWait
      ∨ ∀ x ∈ s.pay.tenders, ∀ f, x.card = some f → f.ref ≠ d.ref
    (d.ref.epoch ≠ s.pay.epoch →
      exec (.payResp src dst d) s =
        .next { s with
          link
          pay := { s.pay with
            counters :=
              { s.pay.counters with
                staleResponse := min (s.pay.counters.staleResponse + 1) 65535 } } })
    ∧ (d.ref.epoch = s.pay.epoch → notWaiting → (∀ l ∈ s.pay.late, l.ref ≠ d.ref) →
      exec (.payResp src dst d) s =
        .next { s with
          link
          pay := { s.pay with
            counters :=
              { s.pay.counters with
                unmatchedResponse := min (s.pay.counters.unmatchedResponse + 1) 65535 } } })
    ∧ ∀ a l b, d.ref.epoch = s.pay.epoch → notWaiting → s.pay.late = a ++ l :: b →
      (∀ x ∈ a, x.ref ≠ d.ref) → l.ref = d.ref →
      let late := s.pay.late.filter (fun x => x.ref != d.ref)
      let keys := fun t : State => t.pay.advice.map fun r => (r.ref, r.kind)
      (l.accepted = true → d.result = .approved →
        ∃ t, exec (.payResp src dst d) s = .next t ∧ t.pay.late = late
          ∧ t.pay.session = s.pay.session
          ∧ (∀ tn, s.openTender d.ref = some tn →
            t.pay.tenders = s.pay.tenders.modify (tn.index - 1) fun x =>
              { x with
                status := .approved
                card := x.card.map fun f => { f with authCode := some d.authCode }
                advice := if x.advice = .acknowledged then .acknowledged else .none })
          ∧ (s.openTender d.ref = none → t.pay.tenders = s.pay.tenders)
          ∧ ((d.ref, .offline) ∈ keys s → keys t = (keys s).filter (fun k => k.1 != d.ref)
            ∧ .adviceRemove d.ref ∈ t.writes)
          ∧ ((d.ref, .offline) ∉ keys s → t.pay.advice = s.pay.advice))
      ∧ (l.accepted = true → d.result = .declined →
        ∃ t, exec (.payResp src dst d) s = .next t ∧ t.pay.late = late
          ∧ t.pay.session = s.pay.session
          ∧ (∀ tn, s.openTender d.ref = some tn → (d.ref, .offline) ∈ keys s →
            t.pay.tenders = s.pay.tenders.modify (tn.index - 1) (fun x =>
              { x with status := .offlineDisputed, advice := .queued })
            ∧ t.acct.shift = s.acct.shift)
          ∧ ((d.ref, .offline) ∈ keys s →
            keys t = (keys s).map (fun k => if k.1 = d.ref then (d.ref, .disputed) else k))
          ∧ ((∀ k ∈ keys s, k.1 ≠ d.ref) → s.pay.advice.length < 32 →
            keys t = keys s ++ [(d.ref, .disputed)])
          ∧ (s.openTender d.ref = none → t.pay.tenders = s.pay.tenders
            ∧ (∀ r, s.acct.shift.record = some r →
              t.acct.shift.record =
                some { r with lateDispute := min (r.lateDispute + l.amount) 281474976710655 })
            ∧ (∀ x, s.acct.shift.record = none → s.acct.last = some x →
              ∃ y, t.acct.last = some y ∧ .lastShift y ∈ t.writes
                ∧ y = { x with record := { x.record with
                    lateDispute := min (x.record.lateDispute + l.amount) 281474976710655 } })))
      ∧ (l.accepted = false → d.result = .approved →
        ∃ t, exec (.payResp src dst d) s = .next t ∧ t.pay.late = late
          ∧ t.pay.session = s.pay.session
          ∧ ((∀ k ∈ keys s, k.1 ≠ d.ref) → s.pay.advice.length < 32 →
            keys t = keys s ++ [(d.ref, .unclaimed)]
            ∧ ∀ tn, s.openTender d.ref = some tn →
              t.pay.tenders = s.pay.tenders.modify (tn.index - 1) fun x =>
                { x with advice := .queued })
          ∧ (32 ≤ s.pay.advice.length → t.pay.advice = s.pay.advice
            ∧ s.noticed t (.adviceFull d.ref 0)))
      ∧ (l.accepted = false → d.result = .declined →
        exec (.payResp src dst d) s = .next { s with link, pay := { s.pay with late } }))

/-- The authorization timer's expiry in HOLDUP waits; elsewhere the tender is decided offline, against the
floor limit of its class, the shift cap and two free advice entries. That the row acts whatever time is left
is the model's choice (log entry 9). -/
def Obligations.ExpiryDecidesOffline : Prop :=
  ∀ (n : Nat) (tn : Tender) (f : CardFields) (s : State), s.pay.session.state = .authWait →
    s.pay.auth = .running n →
    (s.power.state = .holdup →
      exec .authTimerExpiry s =
        .next { s with pay := { s.pay with auth := .stopped, authExpired := true } })
    ∧ (s.power.state = .run → 1 ≤ s.pay.session.index →
      s.pay.tenders[s.pay.session.index - 1]? = some tn → tn.index = s.pay.session.index →
      tn.card = some f →
      ∃ t, exec .authTimerExpiry s = .next t ∧ t.pay.session = .idle ∧ t.pay.auth = .stopped
        ∧ t.pay.tenders = s.pay.tenders.set (s.pay.session.index - 1)
          (if tn.amount ≤ s.tables.payLimits.floors.getD f.cardClass 0
              ∧ s.exposure + tn.amount ≤ s.tables.payLimits.offlineCap
              ∧ s.pay.advice.length + 2 ≤ 32 then
            { tn with status := .offlineAccepted, advice := .queued }
           else { tn with status := .declined, reason := some .offlineRefused })
        ∧ (∃ l, t.pay.late.getLast? = some l ∧ l.ref = f.ref ∧ l.amount = tn.amount))

/-- The advice sender: the acknowledgement timer's expiry clears the in-flight mark; with MODEM available,
no session in AUTH_WAIT and room in the front queue the head is sent again, marked in flight, and the timer
runs for 10 s; otherwise nothing is sent. An acknowledgement of a record's reference and kind takes it out
of the queue and the store, marks the open trip's tender ACKNOWLEDGED, and lets the next record be sent; one
that matches no record is counted. That the expiry's row acts whatever time is left, and that an
acknowledgement taken during a close marks the tender too, are the model's choices (log entries 9 and 29).
-/
def Obligations.AdviceIsAcknowledged : Prop :=
  ∀ (s : State) (src : NodeAddr) (ref : Ref) (k : AdviceKind),
    (∀ n, s.powered = true → s.pay.ackTimer = .running n →
      (s.available .modem = false ∨ s.pay.session.state = .authWait ∨ s.accepts .front = false) →
      exec .adviceAckTimeout s =
        .next { s with pay := { s.pay with
          advice := s.pay.advice.map fun r => { r with inFlight := false }, ackTimer := .stopped } })
    ∧ (∀ n r rest m, s.powered = true → s.pay.ackTimer = .running n → s.pay.advice = r :: rest →
      s.holder .modem = some m → s.presence m = .present → s.pay.session.state ≠ .authWait →
      s.accepts .front = true →
      ∃ t, exec .adviceAckTimeout s = .next t ∧ s.sameBut [.link, .pay] t
        ∧ t.pay = { s.pay with
            advice := { r with inFlight := true } :: rest.map (fun x => { x with inFlight := false })
            ackTimer := .running 10 }
        ∧ t.link = { s.link with
            front :=
              { s.link.front with
                queue := s.link.front.queue ++ [.own .front m (.advice { r with inFlight := false })] } })
    ∧ (s.pay.ackTimer = .stopped → exec .adviceAckTimeout s = .next s)
    ∧ (∀ r next rest, s.fromRole .modem src → s.pay.advice = r :: next :: rest → r.ref = ref →
      r.kind = k → (∀ x ∈ next :: rest, x.ref ≠ ref ∧ x.inFlight = false) →
      s.presence src = .present → s.pay.session.state ≠ .authWait → s.accepts .front = true →
      ∃ t, exec (.adviceAck src ref (some k)) s = .next t
        ∧ t.pay.advice = { next with inFlight := true } :: rest ∧ t.pay.ackTimer = .running 10
        ∧ t.link = { s.link with
            front :=
              { s.link.front with
                queue := s.link.front.queue ++ [.own .front src (.advice next)] } })
    ∧ (∀ tn, s.fromRole .modem src → (∃ r ∈ s.pay.advice, r.ref = ref ∧ r.kind = k) →
      s.tripTender ref = some tn →
      ∃ t, exec (.adviceAck src ref (some k)) s = .next t
        ∧ t.pay.tenders = s.pay.tenders.modify (tn.index - 1) fun x => { x with advice := .acknowledged })
    ∧ (s.fromRole .modem src → (∃ r ∈ s.pay.advice, r.ref = ref ∧ r.kind = k) →
      ∃ t, exec (.adviceAck src ref (some k)) s = .next t
        ∧ (∀ r ∈ t.pay.advice, r.ref ≠ ref) ∧ .adviceRemove ref ∈ t.writes
        ∧ t.pay.advice.map (·.ref) = (s.pay.advice.map (·.ref)).filter (· ≠ ref)
        ∧ t.pay.session = s.pay.session)
    ∧ (s.fromRole .modem src → (∀ r ∈ s.pay.advice, ¬(r.ref = ref ∧ r.kind = k)) →
      exec (.adviceAck src ref (some k)) s =
        .next { s with pay := { s.pay with counters :=
          { s.pay.counters with
            unmatchedAdviceAck := min (s.pay.counters.unmatchedAdviceAck + 1) 65535 } } })

/-! ### Shift accounting -/

/-- SHIFT_OPEN in OFF_DUTY with no shift open begins a shift record with the next number and a copy of the
limit; SHIFT_CLOSE closes it into the last shift record, from VACANT after the meter has become OFF_DUTY,
and its update's completion answers and reports the closed record to CONSOLE, in two parts. Neither answers
before its store update, which carries the shift hold, its number and the record closed. That the report
shows the working copy of the closed record, and that a driver number above 65,535 gets BAD_VALUE at check
2, are the model's choices (log entries 40 and 51). -/
def Obligations.ShiftsOpenAndClose : Prop :=
  ∀ (rq : Req) (s : State),
    (∀ driver, s.fromConsole rq → s.power.state = .run → 1 ≤ driver → driver ≤ 65535 →
      s.meter.state = .offDuty → s.acct.shift.record = none → s.acct.lastNumber < 4294967295 →
      ∃ t r, exec (.shiftOpen rq driver) s = .next t ∧ s.sameBut [.acct, .writes] t
        ∧ t.acct.shift = ⟨some r, false⟩ ∧ t.acct.lastNumber = s.acct.lastNumber + 1
        ∧ r.number = s.acct.lastNumber + 1 ∧ r.driver = driver
        ∧ r.limit = s.tables.power.shiftLimit ∧ r.opened = s.now ∧ r.elapsed = 0 ∧ r.fares = 0
        ∧ (∃ acct : Accounting, acct = { s.acct with
              lastNumber := s.acct.lastNumber + 1, shift := ⟨some r, false⟩ }
          ∧ t.acct = { acct with unwritten := false }
          ∧ t.writes = s.writes ++ [.shiftOpen acct.carry rq (s.acct.lastNumber + 1)]))
    ∧ (∀ driver, s.fromConsole rq → s.power.state = .run → (driver = 0 ∨ 65535 < driver) →
      ∃ t, exec (.shiftOpen rq driver) s = .next t ∧ s.sameBut [.link] t
        ∧ s.frontTook t (consoleAnswer rq .shiftOpen .badValue))
    ∧ (s.fromConsole rq → s.power.state = .run → s.acct.shift.record = none →
      ∃ t, exec (.shiftClose rq) s = .next t ∧ s.sameBut [.link] t
        ∧ s.frontTook t (consoleAnswer rq .shiftClose .noShift))
    ∧ (∀ r, s.fromConsole rq → s.power.state = .run → s.acct.shift.record = some r →
      s.tripOpen = true →
      ∃ t, exec (.shiftClose rq) s = .next t ∧ s.sameBut [.link] t
        ∧ s.frontTook t (consoleAnswer rq .shiftClose .refusedState))
    ∧ (∀ r, s.fromConsole rq → s.power.state = .run → s.acct.shift.record = some r →
      s.meter.state = .offDuty →
      ∃ t l, exec (.shiftClose rq) s = .next t ∧ s.sameBut [.acct, .writes] t
        ∧ t.acct.shift = ⟨none, false⟩ ∧ t.acct.last = some l
        ∧ l = ⟨{ r with closed := s.now, pendingAdvice := s.pay.advice.length }, .notSent, .notSent⟩
        ∧ t.writes = s.writes ++
          [.shiftClose ⟨⟨none, false⟩, s.acct.lastNumber, some l, false⟩ s.acct.totalsNow s.now rq
            r.number])
    ∧ (∀ r, s.fromConsole rq → s.power.state = .run → s.acct.shift.record = some r →
      s.meter.state = .vacant →
      ∃ t l, exec (.shiftClose rq) s = .next t ∧ t.meter.state = .offDuty
        ∧ t.acct.shift = ⟨none, false⟩ ∧ t.acct.last = some l
        ∧ l.record = { r with closed := s.now, pendingAdvice := s.pay.advice.length }
        ∧ t.writes = s.writes ++
          [.checkpoint ({ s.saveRecord with meter := .offDuty } : SaveRecord) s.meter.lastAssigned
              s.acct.carry s.acct.totalsNow none,
            .shiftClose ⟨⟨none, false⟩, s.acct.lastNumber, some l, false⟩ s.acct.totalsNow s.now rq
              r.number])
    ∧ (∀ c totals time n rest l, s.powered = true → s.link.front.running = true →
      s.holder .console = some rq.src → s.presence rq.src = .present → s.available .modem = false →
      s.writes = .shiftClose c totals time rq n :: rest → c.report = false → c.last = some l →
      s.acct.last = some l → s.link.front.queue.length ≤ 21 →
      ∃ t, exec .shiftCloseUpdateComplete s = .next t
        ∧ t.link.front.queue = s.link.front.queue ++
          [consoleAnswer rq .shiftClose .accepted (.shift n),
            .own .front rq.src (.shiftReport l.record.number 1 (.part1 l.record.part1)),
            .own .front rq.src (.shiftReport l.record.number 2 (.part2 l.record.part2))]
        ∧ t.acct.last = some { l with console := .offered })
    ∧ (∀ c totals time n rest, s.powered = true → s.link.front.running = true →
      s.holder .console = some rq.src → s.writes = .shiftClose c totals time rq n :: rest →
      c.report = false →
      ∃ t, exec .shiftCloseUpdateComplete s = .next t ∧ t.writes = rest
        ∧ t.store.shift = c.shift ∧ t.store.totals = totals
        ∧ s.sameBut [.link, .store, .writes, .acct] t
        ∧ offeredTo t.link.front.queue (consoleAnswer rq .shiftClose .accepted (.shift n)))

/-- A shift whose elapsed time has reached its limit, outside PARKED: SHIFT_LIMIT is set and noticed, and a
VACANT meter becomes OFF_DUTY. ACK_TRIPS raises the reported-through number to the number given, at most the
newest in the log; a number that does not raise it is answered at once. That the limit's row acts only with
the limit reached, and that the waiting write keeps the count of the decision for its answer, are the
model's choices (log entries 9 and 52). -/
def Obligations.LimitAndReportsAreKept : Prop :=
  (∀ (r : ShiftRecord) (s : State), s.power.state = .run → s.power.park ≠ .waiting →
    s.acct.shift.record = some r → s.acct.shift.limitSet = false → r.limit ≠ 0 →
    r.limit * 60 ≤ r.elapsed →
    ∃ t, exec .shiftLimitReached s = .next t ∧ t.acct.shift.limitSet = true
      ∧ t.acct.shift.record = some r ∧ t.notices.nextSeq = (s.notices.nextSeq + 1) % 65536
      ∧ s.noticed t (.shiftLimit r.number r.elapsed)
      ∧ t.meter.state = (if s.meter.state = .vacant then .offDuty else s.meter.state)
      ∧ t.meter.trip = s.meter.trip ∧ t.power.state = .run)
  ∧ (∀ (rq : Req) (n : Nat) (x : TripRecord) (s : State), s.fromMgmt .ackTrips rq →
    s.store.log.getLast? = some x →
    (s.acct.reportedThrough < min n x.number →
      ∃ t k, exec (.ackTrips rq n) s = .next t ∧ s.sameBut [.acct, .writes] t
        ∧ t.acct = { s.acct with reportedThrough := min n x.number }
        ∧ k = (s.store.log.filter fun r => decide (min n x.number < r.number)).length
        ∧ t.writes = s.writes ++ [.ackTrips (min n x.number) k rq])
    ∧ (min n x.number ≤ s.acct.reportedThrough →
      ∃ t k, exec (.ackTrips rq n) s = .next t ∧ s.sameBut [.link] t
        ∧ s.frontTook t (mgmtAnswer rq .ackTrips .none .ok (.trips s.acct.reportedThrough k))))

/-! ### Supply, parking and restart -/

/-- Supply samples in RUN: below LOW the count rises, at or above it returns to 0, and the third enters
HOLDUP: both ports stop, SUPPLY_LOW is offered, the save is begun, the distance input stops and the intercom
is MUTED. The save's completion below RESTORE waits; with the sample at RESTORE it is a warm return, with
both views pending. A loss of supply stops everything and loses the writes not completed. -/
def Obligations.SupplyDropsAreHeld : Prop :=
  ∀ (x : Nat) (s : State),
    (s.power.state = .run →
      (s.tables.power.low ≤ x →
        exec (.supplySample x) s =
          .next { s with power := { s.power with sample := x, lowCount := 0 } })
      ∧ (x < s.tables.power.low → s.power.lowCount < 2 →
        exec (.supplySample x) s =
          .next { s with power := { s.power with sample := x, lowCount := s.power.lowCount + 1 } })
      ∧ (x < s.tables.power.low → s.power.lowCount = 2 →
        ∃ t, exec (.supplySample x) s = .next t ∧ t.power.state = .holdup ∧ t.power.sample = x
          ∧ t.power.lowCount = 0 ∧ t.power.progress = .writing ∧ t.power.park = .stopped
          ∧ t.link.front.stopped ∧ t.link.rear.stopped ∧ t.link.monitor = []
          ∧ t.link.front.sending = none ∧ t.distance.running = false ∧ t.intercom.run = .muted
          ∧ t.notices.nextSeq = (s.notices.nextSeq + 1) % 65536
          ∧ t.notices = (s.notices.enqueue (s.noticeEntry (.supplyLow x s.tables.power.low))).1
          ∧ (∃ acct : Accounting, acct = { s.acct with
                shift := { s.acct.shift with
                  record := s.acct.shift.record.map fun r =>
                    { r with interruptions := min (r.interruptions + 1) 65535 } } }
            ∧ t.acct = { acct with unwritten := false }
            ∧ t.writes = s.writes ++
              [.save .freshHoldup s.saveRecord acct.carry s.acct.totalsNow])
          ∧ t.meter = s.meter ∧ t.engine = s.engine))
    ∧ (∀ r c o rest, s.power.state = .holdup → s.writes = .save .freshHoldup r c o :: rest →
      c.report = false →
      (s.power.sample < s.tables.power.restore →
        ∃ t, exec .holdupSaveComplete s = .next t ∧ s.sameBut [.store, .writes, .power] t
          ∧ t.power = { s.power with progress := .complete } ∧ t.store.save = r
          ∧ t.store.mark = .freshHoldup ∧ t.writes = rest)
      ∧ (s.tables.power.restore ≤ s.power.sample → s.meter.stage = .none →
        s.pay.authExpired = false →
        ∃ t, exec .holdupSaveComplete s = .next t ∧ t.power.state = .run
          ∧ t.power.progress = .none ∧ t.distance.running = true ∧ t.intercom.run = .running
          ∧ t.link.front.running = true ∧ t.link.rear.running = true ∧ t.link.front.pointer = 7
          ∧ .markConsumed ∈ t.writes ∧ t.meter.state = s.meter.state ∧ t.viewsRenewed
          ∧ t.meter.trip.map (·.flags.supplyDip) = s.meter.trip.map (fun _ => true)))
    ∧ (s.powered = true →
      ∃ t, exec .supplyGone s = .next t ∧ t.power.state = .off ∧ t.writes = []
        ∧ t.link.front.stopped ∧ t.link.rear.stopped ∧ t.distance.running = false
        ∧ t.intercom.run = .stopped ∧ t.time = s.time ∧ t.store.log = s.store.log
        ∧ t.store.checkpoint = s.store.checkpoint)

/-- Parking: the ignition's opening in RUN starts the park delay, its closing stops it; the expiry enters
PARKED when the conditions hold and waits otherwise. In PARKED a line burst, the ignition, the emergency
switch or the shift limit wakes the part with the supply at RESTORE: RUN, the ports start, the source is
recorded and WAKE is offered, after SHIFT_LIMIT where that is the source; with the supply below RESTORE the
part enters HOLDUP. Either way both views are pending, with no hold-off and no acknowledgement. That the
expiry's row acts while the delay runs, and what a wake leaves of a burst, are the model's choices (log
entries 9 and 27). -/
def Obligations.ParkingAndWake : Prop :=
  ∀ s : State,
    (s.power.state = .run → s.power.park = .stopped → s.pins.ignition = true →
      exec .ignitionOff s =
        .next { s with
          pins := { s.pins with ignition := false }
          power := { s.power with park := .running s.tables.power.parkDelay } })
    ∧ (s.power.state = .run →
      exec .ignitionOn s =
        .next { s with
          pins := { s.pins with ignition := true }, power := { s.power with park := .stopped } })
    ∧ (∀ n, s.power.state = .run → s.power.park = .running n →
      (s.tripOpen = true →
        exec .parkDelayExpiry s = .next { s with power := { s.power with park := .waiting } })
      ∧ (s.tripOpen = false → s.pay.session.state = .idle → s.intercom.test = none →
        ∃ t, exec .parkDelayExpiry s = .next t ∧ t.power.state = .parked
          ∧ t.power.park = .stopped ∧ t.power.wake = ⟨[], some s.now, none⟩
          ∧ t.link.front.stopped ∧ t.link.rear.stopped ∧ t.link.monitor = []
          ∧ t.intercom.run = .stopped ∧ t.sign.test = none ∧ t.meter.state = s.meter.state
          ∧ t.distance = s.distance
          ∧ t.writes = s.writes ++
            [.checkpoint s.saveRecord s.meter.lastAssigned s.acct.carry s.acct.totalsNow none]))
    ∧ (s.power.state = .parked → s.tables.power.restore ≤ s.power.sample →
      (∀ seg, let src : WakeSource := match seg with | .front => .frontLine | .rear => .rearLine
        ∃ t, exec (.lineWakeBurst seg) s = .next t ∧ s.wokenBy t src ∧ s.wakeNoticed t src
          ∧ t.notices.nextSeq = (s.notices.nextSeq + 1) % 65536 ∧ t.meter.state = s.meter.state)
      ∧ (s.pins.ignition = false →
        ∃ t, exec .ignitionOn s = .next t ∧ s.wokenBy t .ignition ∧ s.wakeNoticed t .ignition
          ∧ t.notices.nextSeq = (s.notices.nextSeq + 1) % 65536 ∧ t.meter.state = s.meter.state
          ∧ t.pins = { s.pins with ignition := true } ∧ t.power.park = .stopped)
      ∧ (s.pins.emergencyClosed = false →
        ∃ t, exec .emergencySwitchClose s = .next t ∧ s.wokenBy t .emergencySwitch
          ∧ s.wakeNoticed t .emergencySwitch
          ∧ t.notices.nextSeq = (s.notices.nextSeq + 1) % 65536 ∧ t.meter.state = s.meter.state
          ∧ t.pins = { s.pins with emergencyClosed := true }
          ∧ (s.sign.hold = .released →
            t.sign.hold = .timing (if s.sign.emergency.active then 10 else 2)))
      ∧ (∀ r, s.acct.shift.record = some r → s.acct.shift.limitSet = false → r.limit ≠ 0 →
        r.limit * 60 ≤ r.elapsed →
        ∃ t, exec .shiftLimitReached s = .next t ∧ s.wokenBy t .shiftLimit
          ∧ t.acct.shift.limitSet = true
          ∧ t.notices.nextSeq = (s.notices.nextSeq + 2) % 65536
          ∧ (s.link.front.running = false → s.notices.entries.length < 15 →
            (s.classRoute .shiftLimit).route ≠ .console → (s.classRoute .wake).route ≠ .console →
            s.holder .modem ≠ none →
            (∃ e ∈ t.notices.entries, e.seq = s.notices.nextSeq
              ∧ e.notice = .shiftLimit r.number r.elapsed)
            ∧ ∃ e ∈ t.notices.entries, e.seq = (s.notices.nextSeq + 1) % 65536
              ∧ e.notice = .wake ((s.power.wake.sources ++ [(WakeSource.shiftLimit, s.now)]).map (·.1)))
          ∧ t.meter.state = (if s.meter.state = .vacant then .offDuty else s.meter.state)))
    ∧ (s.power.state = .parked → s.power.sample < s.tables.power.restore →
      (∀ seg, let src : WakeSource := match seg with | .front => .frontLine | .rear => .rearLine
        ∃ t, exec (.lineWakeBurst seg) s = .next t ∧ s.wokenLow t src)
      ∧ (s.pins.ignition = false → ∃ t, exec .ignitionOn s = .next t ∧ s.wokenLow t .ignition)
      ∧ (s.pins.emergencyClosed = false →
        ∃ t, exec .emergencySwitchClose s = .next t ∧ s.wokenLow t .emergencySwitch)
      ∧ (∀ r, s.acct.shift.record = some r → s.acct.shift.limitSet = false → r.limit ≠ 0 →
        r.limit * 60 ≤ r.elapsed →
        ∃ t, exec .shiftLimitReached s = .next t ∧ s.wokenLow t .shiftLimit
          ∧ t.acct.shift.limitSet = true))
    ∧ (∀ seg, s.power.state ≠ .parked → exec (.lineWakeBurst seg) s = .next s)

/-- Checkpoints: in RUN the timer's expiry begins one of the state as it stands, and in HIRED restarts at 60
s; its completion stores it as a whole, and the completion of the one a held authorization request waits for
offers the request and starts the authorization timer. That the expiry's row acts whatever time is left is
the model's choice (log entry 9). -/
def Obligations.CheckpointsAreTaken : Prop :=
  ∀ s : State,
    (∀ n, s.power.state = .run → s.power.checkpoint = .running n →
      ∃ t r, exec .checkpointTimerExpiry s = .next t ∧ s.sameBut [.power, .acct, .writes] t
        ∧ t.acct = { s.acct with unwritten := false }
        ∧ t.writes = s.writes ++
          [.checkpoint r s.meter.lastAssigned s.acct.carry s.acct.totalsNow none]
        ∧ r = s.saveRecord ∧ r.time = s.now ∧ r.meter = s.meter.state
        ∧ (s.meter.state = .hired → t.power.checkpoint = .running 60))
    ∧ (∀ r a c o rest, s.powered = true → s.writes = .checkpoint r a c o none :: rest →
      c.report = false →
      ∃ t, exec .checkpointComplete s = .next t ∧ s.sameBut [.store, .writes] t ∧ t.writes = rest
        ∧ t.store.checkpoint = r ∧ t.store.lastAssigned = a ∧ t.store.shift = c.shift
        ∧ t.store.totals = o ∧ t.store.log = s.store.log ∧ t.store.checkpointLater = true)
    ∧ (∀ r a c o rest (request : StampedReq) m, s.powered = true →
      s.writes = .checkpoint r a c o (some request.ref) :: rest → c.report = false →
      s.pay.held = some request → s.holder .modem = some m → s.accepts .front = true →
      ∃ t, exec .checkpointComplete s = .next t ∧ s.sameBut [.link, .pay, .store, .writes] t
        ∧ t.pay = { s.pay with held := none, auth := .running s.tables.payLimits.authTime }
        ∧ t.link.front.queue = s.link.front.queue ++ [.own .front m (.payReq request)])

/-- RESTART in OFF_DUTY or VACANT is answered OK and begins its save in RESTARTING; in HIRED and PAY it is
refused. The save's completion, a pin reset, and a supply sample of a part without supply that has reached
RESTORE each start the part up: the next boot epoch, ports and blocks as R210 leaves them. A pin reset with
no write begun restores the checkpoint's trip, with POWER_INTERRUPTED. The model's choices here: a start-up
is one step with its epoch stored at once (log entry 24), and the backup domain is powered again by it (log
entry 36). -/
def Obligations.StartUpsRestore : Prop :=
  ∀ (s : State) (ambient : Nat),
    (∀ rq, s.fromMgmt .restart rq → s.tripOpen = true →
      ∃ t, exec (.restart rq) s = .next t ∧ s.sameBut [.link] t
        ∧ s.frontTook t (mgmtAnswer rq .restart .none .refusedState))
    ∧ (∀ rq, s.fromMgmt .restart rq → s.tripOpen = false → s.power.state ≠ .restarting →
      ∃ t, exec (.restart rq) s = .next t ∧ s.sameBut [.link, .power, .acct, .writes] t
        ∧ t.power = { s.power with state := .restarting, park := .stopped }
        ∧ t.writes = s.writes ++ [.save .freshRequest s.saveRecord s.acct.carry s.acct.totalsNow]
        ∧ s.frontTook t (mgmtAnswer rq .restart .none .ok))
    ∧ (∀ r c o rest, s.power.state = .restarting → s.writes = .save .freshRequest r c o :: rest →
      ∃ t, exec (.restartSaveComplete ambient) s = .next t ∧ s.startedUp t)
    ∧ (s.powered = true → ∃ t, exec (.pinReset ambient) s = .next t ∧ s.startedUp t)
    ∧ (∀ sample, s.power.state = .off → s.writes = [] →
      s.store.tables.power.restore ≤ sample →
      ∃ t, exec (.coldStart sample ambient) s = .next t ∧ s.startedUp t ∧ t.power.sample = sample)
    ∧ (∀ sample, s.power.state = .off → sample < s.store.tables.power.restore →
      exec (.coldStart sample ambient) s = .next s)
    ∧ (∀ saved, s.powered = true → s.writes = [] → s.store.checkpoint.trip = some saved →
      (∀ x ∈ s.store.log, x.number ≠ saved.record.number) →
      ∃ t r, exec (.pinReset ambient) s = .next t ∧ t.meter.trip = some r
        ∧ r.number = saved.record.number ∧ r.fare = saved.record.fare
        ∧ r.flags.powerInterrupted = true
        ∧ (s.store.checkpoint.meter = .hired → s.store.checkpoint.timeInvalid = false →
          s.time.backup.timeInvalid = false → s.store.checkpoint.time ≤ s.now →
          s.now ≤ s.store.checkpoint.time
            + 60 * s.store.metrology.tariffSet.general.resumeLimit →
          t.meter.state = .hired ∧ t.engine.mode = .running)
        ∧ (s.time.backup.timeInvalid = true → t.meter.state = .pay ∧ t.engine.mode = .held
          ∧ t.meter.snapshot = some saved.record.fare))
end

