-- ==== Sys2Proof/Laws/State.lean ====
section
/-! SUPPORT. For each small update of the state, the parts it leaves as they were. -/

namespace Sys2Proof.Machine

open Sys2Proof

/-- `modPort` keeps all but link. -/
@[simp] theorem State.modPort_keeps (s : State) (seg : Seg) (f : PortState → PortState) :
    (s.modPort seg f).pending = s.pending ∧ (s.modPort seg f).tables = s.tables ∧
    (s.modPort seg f).mgmt = s.mgmt ∧ (s.modPort seg f).notices = s.notices ∧
    (s.modPort seg f).time = s.time ∧ (s.modPort seg f).distance = s.distance ∧
    (s.modPort seg f).engine = s.engine ∧ (s.modPort seg f).meter = s.meter ∧
    (s.modPort seg f).sign = s.sign ∧ (s.modPort seg f).intercom = s.intercom ∧
    (s.modPort seg f).pay = s.pay ∧ (s.modPort seg f).acct = s.acct ∧
    (s.modPort seg f).power = s.power ∧ (s.modPort seg f).pins = s.pins ∧
    (s.modPort seg f).store = s.store ∧ (s.modPort seg f).writes = s.writes ∧
    (s.modPort seg f).free = s.free := by
  cases seg <;> simp [State.modPort]

/-- `modView` keeps all but meter. -/
@[simp] theorem State.modView_keeps (s : State) (d : ViewDest) (f : ViewState → ViewState) :
    (s.modView d f).pending = s.pending ∧ (s.modView d f).link = s.link ∧
    (s.modView d f).tables = s.tables ∧ (s.modView d f).mgmt = s.mgmt ∧
    (s.modView d f).notices = s.notices ∧ (s.modView d f).time = s.time ∧
    (s.modView d f).distance = s.distance ∧ (s.modView d f).engine = s.engine ∧
    (s.modView d f).sign = s.sign ∧ (s.modView d f).intercom = s.intercom ∧
    (s.modView d f).pay = s.pay ∧ (s.modView d f).acct = s.acct ∧ (s.modView d f).power = s.power ∧
    (s.modView d f).pins = s.pins ∧ (s.modView d f).store = s.store ∧
    (s.modView d f).writes = s.writes ∧ (s.modView d f).free = s.free := by
  cases d <;> simp [State.modView]

/-- `modTrip` keeps all but meter. -/
@[simp] theorem State.modTrip_keeps (s : State) (f : TripRecord → TripRecord) :
    (s.modTrip f).pending = s.pending ∧ (s.modTrip f).link = s.link ∧
    (s.modTrip f).tables = s.tables ∧ (s.modTrip f).mgmt = s.mgmt ∧
    (s.modTrip f).notices = s.notices ∧ (s.modTrip f).time = s.time ∧
    (s.modTrip f).distance = s.distance ∧ (s.modTrip f).engine = s.engine ∧
    (s.modTrip f).sign = s.sign ∧ (s.modTrip f).intercom = s.intercom ∧ (s.modTrip f).pay = s.pay ∧
    (s.modTrip f).acct = s.acct ∧ (s.modTrip f).power = s.power ∧ (s.modTrip f).pins = s.pins ∧
    (s.modTrip f).store = s.store ∧ (s.modTrip f).writes = s.writes ∧ (s.modTrip f).free = s.free := by
  simp [State.modTrip]

/-- `modShift` keeps all but acct. -/
@[simp] theorem State.modShift_keeps (s : State) (f : ShiftRecord → ShiftRecord) :
    (s.modShift f).pending = s.pending ∧ (s.modShift f).link = s.link ∧
    (s.modShift f).tables = s.tables ∧ (s.modShift f).mgmt = s.mgmt ∧
    (s.modShift f).notices = s.notices ∧ (s.modShift f).time = s.time ∧
    (s.modShift f).distance = s.distance ∧ (s.modShift f).engine = s.engine ∧
    (s.modShift f).meter = s.meter ∧ (s.modShift f).sign = s.sign ∧
    (s.modShift f).intercom = s.intercom ∧ (s.modShift f).pay = s.pay ∧
    (s.modShift f).power = s.power ∧ (s.modShift f).pins = s.pins ∧ (s.modShift f).store = s.store ∧
    (s.modShift f).writes = s.writes ∧ (s.modShift f).free = s.free := by
  simp [State.modShift]

/-- `modLamp` keeps all but sign. -/
@[simp] theorem State.modLamp_keeps (s : State) (i : Nat) (f : Lamp → Lamp) :
    (s.modLamp i f).pending = s.pending ∧ (s.modLamp i f).link = s.link ∧
    (s.modLamp i f).tables = s.tables ∧ (s.modLamp i f).mgmt = s.mgmt ∧
    (s.modLamp i f).notices = s.notices ∧ (s.modLamp i f).time = s.time ∧
    (s.modLamp i f).distance = s.distance ∧ (s.modLamp i f).engine = s.engine ∧
    (s.modLamp i f).meter = s.meter ∧ (s.modLamp i f).intercom = s.intercom ∧
    (s.modLamp i f).pay = s.pay ∧ (s.modLamp i f).acct = s.acct ∧ (s.modLamp i f).power = s.power ∧
    (s.modLamp i f).pins = s.pins ∧ (s.modLamp i f).store = s.store ∧
    (s.modLamp i f).writes = s.writes ∧ (s.modLamp i f).free = s.free := by
  simp [State.modLamp]

/-- `modCounters` keeps all but pay. -/
@[simp] theorem State.modCounters_keeps (s : State) (f : PayCounters → PayCounters) :
    (s.modCounters f).pending = s.pending ∧ (s.modCounters f).link = s.link ∧
    (s.modCounters f).tables = s.tables ∧ (s.modCounters f).mgmt = s.mgmt ∧
    (s.modCounters f).notices = s.notices ∧ (s.modCounters f).time = s.time ∧
    (s.modCounters f).distance = s.distance ∧ (s.modCounters f).engine = s.engine ∧
    (s.modCounters f).meter = s.meter ∧ (s.modCounters f).sign = s.sign ∧
    (s.modCounters f).intercom = s.intercom ∧ (s.modCounters f).acct = s.acct ∧
    (s.modCounters f).power = s.power ∧ (s.modCounters f).pins = s.pins ∧
    (s.modCounters f).store = s.store ∧ (s.modCounters f).writes = s.writes ∧
    (s.modCounters f).free = s.free := by
  simp [State.modCounters]

/-- `modTender` keeps all but pay. -/
@[simp] theorem State.modTender_keeps (s : State) (i : Nat) (f : Tender → Tender) :
    (s.modTender i f).pending = s.pending ∧ (s.modTender i f).link = s.link ∧
    (s.modTender i f).tables = s.tables ∧ (s.modTender i f).mgmt = s.mgmt ∧
    (s.modTender i f).notices = s.notices ∧ (s.modTender i f).time = s.time ∧
    (s.modTender i f).distance = s.distance ∧ (s.modTender i f).engine = s.engine ∧
    (s.modTender i f).meter = s.meter ∧ (s.modTender i f).sign = s.sign ∧
    (s.modTender i f).intercom = s.intercom ∧ (s.modTender i f).acct = s.acct ∧
    (s.modTender i f).power = s.power ∧ (s.modTender i f).pins = s.pins ∧
    (s.modTender i f).store = s.store ∧ (s.modTender i f).writes = s.writes ∧
    (s.modTender i f).free = s.free := by
  simp [State.modTender]

/-- `addTender` keeps all but pay. -/
@[simp] theorem State.addTender_keeps (s : State) (t : Tender) :
    (s.addTender t).pending = s.pending ∧ (s.addTender t).link = s.link ∧
    (s.addTender t).tables = s.tables ∧ (s.addTender t).mgmt = s.mgmt ∧
    (s.addTender t).notices = s.notices ∧ (s.addTender t).time = s.time ∧
    (s.addTender t).distance = s.distance ∧ (s.addTender t).engine = s.engine ∧
    (s.addTender t).meter = s.meter ∧ (s.addTender t).sign = s.sign ∧
    (s.addTender t).intercom = s.intercom ∧ (s.addTender t).acct = s.acct ∧
    (s.addTender t).power = s.power ∧ (s.addTender t).pins = s.pins ∧
    (s.addTender t).store = s.store ∧ (s.addTender t).writes = s.writes ∧
    (s.addTender t).free = s.free := by
  unfold State.addTender
  split <;> simp

/-- `modNode` keeps all but link. -/
@[simp] theorem State.modNode_keeps (s : State) (a : NodeAddr) (f : NodeEntry → NodeEntry) :
    (s.modNode a f).pending = s.pending ∧ (s.modNode a f).tables = s.tables ∧
    (s.modNode a f).mgmt = s.mgmt ∧ (s.modNode a f).notices = s.notices ∧
    (s.modNode a f).time = s.time ∧ (s.modNode a f).distance = s.distance ∧
    (s.modNode a f).engine = s.engine ∧ (s.modNode a f).meter = s.meter ∧
    (s.modNode a f).sign = s.sign ∧ (s.modNode a f).intercom = s.intercom ∧
    (s.modNode a f).pay = s.pay ∧ (s.modNode a f).acct = s.acct ∧ (s.modNode a f).power = s.power ∧
    (s.modNode a f).pins = s.pins ∧ (s.modNode a f).store = s.store ∧
    (s.modNode a f).writes = s.writes ∧ (s.modNode a f).free = s.free := by
  unfold State.modNode
  split <;> simp

/-- `modBackup` keeps all but time. -/
@[simp] theorem State.modBackup_keeps (s : State) (f : Backup → Backup) :
    (s.modBackup f).pending = s.pending ∧ (s.modBackup f).link = s.link ∧
    (s.modBackup f).tables = s.tables ∧ (s.modBackup f).mgmt = s.mgmt ∧
    (s.modBackup f).notices = s.notices ∧ (s.modBackup f).distance = s.distance ∧
    (s.modBackup f).engine = s.engine ∧ (s.modBackup f).meter = s.meter ∧
    (s.modBackup f).sign = s.sign ∧ (s.modBackup f).intercom = s.intercom ∧
    (s.modBackup f).pay = s.pay ∧ (s.modBackup f).acct = s.acct ∧ (s.modBackup f).power = s.power ∧
    (s.modBackup f).pins = s.pins ∧ (s.modBackup f).store = s.store ∧
    (s.modBackup f).writes = s.writes ∧ (s.modBackup f).free = s.free := by
  unfold State.modBackup
  split <;> simp

/-- `begin` keeps all but writes. -/
@[simp] theorem State.begin_keeps (s : State) (w : StoreWrite) :
    (s.begin w).pending = s.pending ∧ (s.begin w).link = s.link ∧ (s.begin w).tables = s.tables ∧
    (s.begin w).mgmt = s.mgmt ∧ (s.begin w).notices = s.notices ∧ (s.begin w).time = s.time ∧
    (s.begin w).distance = s.distance ∧ (s.begin w).engine = s.engine ∧
    (s.begin w).meter = s.meter ∧ (s.begin w).sign = s.sign ∧ (s.begin w).intercom = s.intercom ∧
    (s.begin w).pay = s.pay ∧ (s.begin w).acct = s.acct ∧ (s.begin w).power = s.power ∧
    (s.begin w).pins = s.pins ∧ (s.begin w).store = s.store ∧ (s.begin w).free = s.free := by
  simp [State.begin]

/-- `beginCarrying` keeps all but acct, writes. -/
@[simp] theorem State.beginCarrying_keeps (s : State) (w : StoreWrite) :
    (s.beginCarrying w).pending = s.pending ∧ (s.beginCarrying w).link = s.link ∧
    (s.beginCarrying w).tables = s.tables ∧ (s.beginCarrying w).mgmt = s.mgmt ∧
    (s.beginCarrying w).notices = s.notices ∧ (s.beginCarrying w).time = s.time ∧
    (s.beginCarrying w).distance = s.distance ∧ (s.beginCarrying w).engine = s.engine ∧
    (s.beginCarrying w).meter = s.meter ∧ (s.beginCarrying w).sign = s.sign ∧
    (s.beginCarrying w).intercom = s.intercom ∧ (s.beginCarrying w).pay = s.pay ∧
    (s.beginCarrying w).power = s.power ∧ (s.beginCarrying w).pins = s.pins ∧
    (s.beginCarrying w).store = s.store ∧ (s.beginCarrying w).free = s.free := by
  simp [State.beginCarrying]

/-- `localReject` keeps all but link. -/
@[simp] theorem State.localReject_keeps (s : State) :
    (s.localReject).pending = s.pending ∧ (s.localReject).tables = s.tables ∧
    (s.localReject).mgmt = s.mgmt ∧ (s.localReject).notices = s.notices ∧
    (s.localReject).time = s.time ∧ (s.localReject).distance = s.distance ∧
    (s.localReject).engine = s.engine ∧ (s.localReject).meter = s.meter ∧
    (s.localReject).sign = s.sign ∧ (s.localReject).intercom = s.intercom ∧
    (s.localReject).pay = s.pay ∧ (s.localReject).acct = s.acct ∧ (s.localReject).power = s.power ∧
    (s.localReject).pins = s.pins ∧ (s.localReject).store = s.store ∧
    (s.localReject).writes = s.writes ∧ (s.localReject).free = s.free := by
  simp [State.localReject]

/-- `withIntercom` keeps all but intercom. -/
@[simp] theorem State.withIntercom_keeps (s : State) (i : Intercom) :
    (s.withIntercom i).pending = s.pending ∧ (s.withIntercom i).link = s.link ∧
    (s.withIntercom i).tables = s.tables ∧ (s.withIntercom i).mgmt = s.mgmt ∧
    (s.withIntercom i).notices = s.notices ∧ (s.withIntercom i).time = s.time ∧
    (s.withIntercom i).distance = s.distance ∧ (s.withIntercom i).engine = s.engine ∧
    (s.withIntercom i).meter = s.meter ∧ (s.withIntercom i).sign = s.sign ∧
    (s.withIntercom i).pay = s.pay ∧ (s.withIntercom i).acct = s.acct ∧
    (s.withIntercom i).power = s.power ∧ (s.withIntercom i).pins = s.pins ∧
    (s.withIntercom i).store = s.store ∧ (s.withIntercom i).writes = s.writes ∧
    (s.withIntercom i).free = s.free := by
  simp [State.withIntercom]

/-- `recompose` keeps all but sign. -/
@[simp] theorem State.recompose_keeps (s : State) :
    (s.recompose).pending = s.pending ∧ (s.recompose).link = s.link ∧
    (s.recompose).tables = s.tables ∧ (s.recompose).mgmt = s.mgmt ∧
    (s.recompose).notices = s.notices ∧ (s.recompose).time = s.time ∧
    (s.recompose).distance = s.distance ∧ (s.recompose).engine = s.engine ∧
    (s.recompose).meter = s.meter ∧ (s.recompose).intercom = s.intercom ∧
    (s.recompose).pay = s.pay ∧ (s.recompose).acct = s.acct ∧ (s.recompose).power = s.power ∧
    (s.recompose).pins = s.pins ∧ (s.recompose).store = s.store ∧ (s.recompose).writes = s.writes ∧
    (s.recompose).free = s.free := by
  simp [State.recompose]

/-- `closeLoad` keeps all but mgmt. -/
@[simp] theorem State.closeLoad_keeps (s : State) :
    (s.closeLoad).pending = s.pending ∧ (s.closeLoad).link = s.link ∧
    (s.closeLoad).tables = s.tables ∧ (s.closeLoad).notices = s.notices ∧
    (s.closeLoad).time = s.time ∧ (s.closeLoad).distance = s.distance ∧
    (s.closeLoad).engine = s.engine ∧ (s.closeLoad).meter = s.meter ∧ (s.closeLoad).sign = s.sign ∧
    (s.closeLoad).intercom = s.intercom ∧ (s.closeLoad).pay = s.pay ∧ (s.closeLoad).acct = s.acct ∧
    (s.closeLoad).power = s.power ∧ (s.closeLoad).pins = s.pins ∧ (s.closeLoad).store = s.store ∧
    (s.closeLoad).writes = s.writes ∧ (s.closeLoad).free = s.free := by
  simp [State.closeLoad]

/-- `monitorOn` keeps all but intercom. -/
@[simp] theorem State.monitorOn_keeps (s : State) :
    (s.monitorOn).pending = s.pending ∧ (s.monitorOn).link = s.link ∧
    (s.monitorOn).tables = s.tables ∧ (s.monitorOn).mgmt = s.mgmt ∧
    (s.monitorOn).notices = s.notices ∧ (s.monitorOn).time = s.time ∧
    (s.monitorOn).distance = s.distance ∧ (s.monitorOn).engine = s.engine ∧
    (s.monitorOn).meter = s.meter ∧ (s.monitorOn).sign = s.sign ∧ (s.monitorOn).pay = s.pay ∧
    (s.monitorOn).acct = s.acct ∧ (s.monitorOn).power = s.power ∧ (s.monitorOn).pins = s.pins ∧
    (s.monitorOn).store = s.store ∧ (s.monitorOn).writes = s.writes ∧ (s.monitorOn).free = s.free := by
  simp [State.monitorOn]

/-- `monitorOff` keeps all but intercom. -/
@[simp] theorem State.monitorOff_keeps (s : State) :
    (s.monitorOff).pending = s.pending ∧ (s.monitorOff).link = s.link ∧
    (s.monitorOff).tables = s.tables ∧ (s.monitorOff).mgmt = s.mgmt ∧
    (s.monitorOff).notices = s.notices ∧ (s.monitorOff).time = s.time ∧
    (s.monitorOff).distance = s.distance ∧ (s.monitorOff).engine = s.engine ∧
    (s.monitorOff).meter = s.meter ∧ (s.monitorOff).sign = s.sign ∧ (s.monitorOff).pay = s.pay ∧
    (s.monitorOff).acct = s.acct ∧ (s.monitorOff).power = s.power ∧ (s.monitorOff).pins = s.pins ∧
    (s.monitorOff).store = s.store ∧ (s.monitorOff).writes = s.writes ∧ (s.monitorOff).free = s.free := by
  simp [State.monitorOff]

/-- `setMarks` keeps all but meter. -/
@[simp] theorem State.setMarks_keeps (s : State) :
    (s.setMarks).pending = s.pending ∧ (s.setMarks).link = s.link ∧ (s.setMarks).tables = s.tables ∧
    (s.setMarks).mgmt = s.mgmt ∧ (s.setMarks).notices = s.notices ∧ (s.setMarks).time = s.time ∧
    (s.setMarks).distance = s.distance ∧ (s.setMarks).engine = s.engine ∧
    (s.setMarks).sign = s.sign ∧ (s.setMarks).intercom = s.intercom ∧ (s.setMarks).pay = s.pay ∧
    (s.setMarks).acct = s.acct ∧ (s.setMarks).power = s.power ∧ (s.setMarks).pins = s.pins ∧
    (s.setMarks).store = s.store ∧ (s.setMarks).writes = s.writes ∧ (s.setMarks).free = s.free := by
  simp [State.setMarks]

/-- `setMarks` sets the two marks. -/
@[simp] theorem State.setMarks_meter (s : State) :
    (s.setMarks).meter =
      { s.meter with
        console := { s.meter.console with mark := true }
        pax := { s.meter.pax with mark := true } } := by
  simp [State.setMarks, State.modView]

/-- `resetViews` keeps all but meter. -/
@[simp] theorem State.resetViews_keeps (s : State) :
    (s.resetViews).pending = s.pending ∧ (s.resetViews).link = s.link ∧
    (s.resetViews).tables = s.tables ∧ (s.resetViews).mgmt = s.mgmt ∧
    (s.resetViews).notices = s.notices ∧ (s.resetViews).time = s.time ∧
    (s.resetViews).distance = s.distance ∧ (s.resetViews).engine = s.engine ∧
    (s.resetViews).sign = s.sign ∧ (s.resetViews).intercom = s.intercom ∧
    (s.resetViews).pay = s.pay ∧ (s.resetViews).acct = s.acct ∧ (s.resetViews).power = s.power ∧
    (s.resetViews).pins = s.pins ∧ (s.resetViews).store = s.store ∧
    (s.resetViews).writes = s.writes ∧ (s.resetViews).free = s.free := by
  simp [State.resetViews]

/-- `renewViews` keeps all but meter. -/
@[simp] theorem State.renewViews_keeps (s : State) :
    (s.renewViews).pending = s.pending ∧ (s.renewViews).link = s.link ∧
    (s.renewViews).tables = s.tables ∧ (s.renewViews).mgmt = s.mgmt ∧
    (s.renewViews).notices = s.notices ∧ (s.renewViews).time = s.time ∧
    (s.renewViews).distance = s.distance ∧ (s.renewViews).engine = s.engine ∧
    (s.renewViews).sign = s.sign ∧ (s.renewViews).intercom = s.intercom ∧
    (s.renewViews).pay = s.pay ∧ (s.renewViews).acct = s.acct ∧ (s.renewViews).power = s.power ∧
    (s.renewViews).pins = s.pins ∧ (s.renewViews).store = s.store ∧
    (s.renewViews).writes = s.writes ∧ (s.renewViews).free = s.free := by
  simp [State.renewViews]

/-- The meter controller after `renewViews`: the views alone have changed. -/
@[simp] theorem State.renewViews_meter (s : State) :
    (s.renewViews).meter =
      { s.meter with
        console := { s.meter.console with mark := true, holdoff := false }
        pax := { s.meter.pax with mark := true, holdoff := false }
        lastAck := none } := by
  simp [State.renewViews, State.resetViews]

/-- `startPark` keeps all but power. -/
@[simp] theorem State.startPark_keeps (s : State) :
    (s.startPark).pending = s.pending ∧ (s.startPark).link = s.link ∧
    (s.startPark).tables = s.tables ∧ (s.startPark).mgmt = s.mgmt ∧
    (s.startPark).notices = s.notices ∧ (s.startPark).time = s.time ∧
    (s.startPark).distance = s.distance ∧ (s.startPark).engine = s.engine ∧
    (s.startPark).meter = s.meter ∧ (s.startPark).sign = s.sign ∧
    (s.startPark).intercom = s.intercom ∧ (s.startPark).pay = s.pay ∧ (s.startPark).acct = s.acct ∧
    (s.startPark).pins = s.pins ∧ (s.startPark).store = s.store ∧ (s.startPark).writes = s.writes ∧
    (s.startPark).free = s.free := by
  simp [State.startPark]

/-- `restartDistance` keeps all but distance. -/
@[simp] theorem State.restartDistance_keeps (s : State) :
    (s.restartDistance).pending = s.pending ∧ (s.restartDistance).link = s.link ∧
    (s.restartDistance).tables = s.tables ∧ (s.restartDistance).mgmt = s.mgmt ∧
    (s.restartDistance).notices = s.notices ∧ (s.restartDistance).time = s.time ∧
    (s.restartDistance).engine = s.engine ∧ (s.restartDistance).meter = s.meter ∧
    (s.restartDistance).sign = s.sign ∧ (s.restartDistance).intercom = s.intercom ∧
    (s.restartDistance).pay = s.pay ∧ (s.restartDistance).acct = s.acct ∧
    (s.restartDistance).power = s.power ∧ (s.restartDistance).pins = s.pins ∧
    (s.restartDistance).store = s.store ∧ (s.restartDistance).writes = s.writes ∧
    (s.restartDistance).free = s.free := by
  simp [State.restartDistance]

/-- `holdClose` keeps all but sign. -/
@[simp] theorem State.holdClose_keeps (s : State) :
    (s.holdClose).pending = s.pending ∧ (s.holdClose).link = s.link ∧
    (s.holdClose).tables = s.tables ∧ (s.holdClose).mgmt = s.mgmt ∧
    (s.holdClose).notices = s.notices ∧ (s.holdClose).time = s.time ∧
    (s.holdClose).distance = s.distance ∧ (s.holdClose).engine = s.engine ∧
    (s.holdClose).meter = s.meter ∧ (s.holdClose).intercom = s.intercom ∧
    (s.holdClose).pay = s.pay ∧ (s.holdClose).acct = s.acct ∧ (s.holdClose).power = s.power ∧
    (s.holdClose).pins = s.pins ∧ (s.holdClose).store = s.store ∧ (s.holdClose).writes = s.writes ∧
    (s.holdClose).free = s.free := by
  unfold State.holdClose
  split <;> simp

/-- `formatError` keeps all but link. -/
@[simp] theorem State.formatError_keeps (s : State) (seg : Seg) :
    (s.formatError seg).pending = s.pending ∧ (s.formatError seg).tables = s.tables ∧
    (s.formatError seg).mgmt = s.mgmt ∧ (s.formatError seg).notices = s.notices ∧
    (s.formatError seg).time = s.time ∧ (s.formatError seg).distance = s.distance ∧
    (s.formatError seg).engine = s.engine ∧ (s.formatError seg).meter = s.meter ∧
    (s.formatError seg).sign = s.sign ∧ (s.formatError seg).intercom = s.intercom ∧
    (s.formatError seg).pay = s.pay ∧ (s.formatError seg).acct = s.acct ∧
    (s.formatError seg).power = s.power ∧ (s.formatError seg).pins = s.pins ∧
    (s.formatError seg).store = s.store ∧ (s.formatError seg).writes = s.writes ∧
    (s.formatError seg).free = s.free := by
  simp [State.formatError]

/-- `crcError` keeps all but link. -/
@[simp] theorem State.crcError_keeps (s : State) (seg : Seg) :
    (s.crcError seg).pending = s.pending ∧ (s.crcError seg).tables = s.tables ∧
    (s.crcError seg).mgmt = s.mgmt ∧ (s.crcError seg).notices = s.notices ∧
    (s.crcError seg).time = s.time ∧ (s.crcError seg).distance = s.distance ∧
    (s.crcError seg).engine = s.engine ∧ (s.crcError seg).meter = s.meter ∧
    (s.crcError seg).sign = s.sign ∧ (s.crcError seg).intercom = s.intercom ∧
    (s.crcError seg).pay = s.pay ∧ (s.crcError seg).acct = s.acct ∧
    (s.crcError seg).power = s.power ∧ (s.crcError seg).pins = s.pins ∧
    (s.crcError seg).store = s.store ∧ (s.crcError seg).writes = s.writes ∧
    (s.crcError seg).free = s.free := by
  simp [State.crcError]

/-- `stopPorts` keeps all but link. -/
@[simp] theorem State.stopPorts_keeps (s : State) (cut : Bool) :
    (s.stopPorts cut).pending = s.pending ∧ (s.stopPorts cut).tables = s.tables ∧
    (s.stopPorts cut).mgmt = s.mgmt ∧ (s.stopPorts cut).notices = s.notices ∧
    (s.stopPorts cut).time = s.time ∧ (s.stopPorts cut).distance = s.distance ∧
    (s.stopPorts cut).engine = s.engine ∧ (s.stopPorts cut).meter = s.meter ∧
    (s.stopPorts cut).sign = s.sign ∧ (s.stopPorts cut).intercom = s.intercom ∧
    (s.stopPorts cut).pay = s.pay ∧ (s.stopPorts cut).acct = s.acct ∧
    (s.stopPorts cut).power = s.power ∧ (s.stopPorts cut).pins = s.pins ∧
    (s.stopPorts cut).store = s.store ∧ (s.stopPorts cut).writes = s.writes ∧
    (s.stopPorts cut).free = s.free := by
  simp [State.stopPorts]

/-- `flushWrites` keeps all but store, writes. -/
@[simp] theorem State.flushWrites_keeps (s : State) :
    (s.flushWrites).pending = s.pending ∧ (s.flushWrites).link = s.link ∧
    (s.flushWrites).tables = s.tables ∧ (s.flushWrites).mgmt = s.mgmt ∧
    (s.flushWrites).notices = s.notices ∧ (s.flushWrites).time = s.time ∧
    (s.flushWrites).distance = s.distance ∧ (s.flushWrites).engine = s.engine ∧
    (s.flushWrites).meter = s.meter ∧ (s.flushWrites).sign = s.sign ∧
    (s.flushWrites).intercom = s.intercom ∧ (s.flushWrites).pay = s.pay ∧
    (s.flushWrites).acct = s.acct ∧ (s.flushWrites).power = s.power ∧
    (s.flushWrites).pins = s.pins ∧ (s.flushWrites).free = s.free := by
  simp [State.flushWrites]

/-- `foreign` keeps all but pay. -/
@[simp] theorem State.foreign_keeps (s : State) :
    (s.foreign).pending = s.pending ∧ (s.foreign).link = s.link ∧ (s.foreign).tables = s.tables ∧
    (s.foreign).mgmt = s.mgmt ∧ (s.foreign).notices = s.notices ∧ (s.foreign).time = s.time ∧
    (s.foreign).distance = s.distance ∧ (s.foreign).engine = s.engine ∧
    (s.foreign).meter = s.meter ∧ (s.foreign).sign = s.sign ∧ (s.foreign).intercom = s.intercom ∧
    (s.foreign).acct = s.acct ∧ (s.foreign).power = s.power ∧ (s.foreign).pins = s.pins ∧
    (s.foreign).store = s.store ∧ (s.foreign).writes = s.writes ∧ (s.foreign).free = s.free := by
  simp [State.foreign]

end Sys2Proof.Machine
end

