-- ==== Sys2Proof/Laws/Ops.lean ====
section
/-! SUPPORT. For each shared operation, the parts of the state it leaves as they were. -/

namespace Sys2Proof.Machine

open Sys2Proof

/-- `offerFrame` keeps all but link. -/
@[simp] theorem State.offerFrame_keeps (s : State) (seg : Seg) (f : Frame) :
    ((s.offerFrame seg f).1).pending = s.pending ∧ ((s.offerFrame seg f).1).tables = s.tables ∧
    ((s.offerFrame seg f).1).mgmt = s.mgmt ∧ ((s.offerFrame seg f).1).notices = s.notices ∧
    ((s.offerFrame seg f).1).time = s.time ∧ ((s.offerFrame seg f).1).distance = s.distance ∧
    ((s.offerFrame seg f).1).engine = s.engine ∧ ((s.offerFrame seg f).1).meter = s.meter ∧
    ((s.offerFrame seg f).1).sign = s.sign ∧ ((s.offerFrame seg f).1).intercom = s.intercom ∧
    ((s.offerFrame seg f).1).pay = s.pay ∧ ((s.offerFrame seg f).1).acct = s.acct ∧
    ((s.offerFrame seg f).1).power = s.power ∧ ((s.offerFrame seg f).1).pins = s.pins ∧
    ((s.offerFrame seg f).1).store = s.store ∧ ((s.offerFrame seg f).1).writes = s.writes ∧
    ((s.offerFrame seg f).1).free = s.free := by
  unfold State.offerFrame
  split <;> simp

/-- `offer` keeps all but link. -/
@[simp] theorem State.offer_keeps (s : State) (dst : NodeAddr) (c : Content) :
    ((s.offer dst c).1).pending = s.pending ∧ ((s.offer dst c).1).tables = s.tables ∧
    ((s.offer dst c).1).mgmt = s.mgmt ∧ ((s.offer dst c).1).notices = s.notices ∧
    ((s.offer dst c).1).time = s.time ∧ ((s.offer dst c).1).distance = s.distance ∧
    ((s.offer dst c).1).engine = s.engine ∧ ((s.offer dst c).1).meter = s.meter ∧
    ((s.offer dst c).1).sign = s.sign ∧ ((s.offer dst c).1).intercom = s.intercom ∧
    ((s.offer dst c).1).pay = s.pay ∧ ((s.offer dst c).1).acct = s.acct ∧
    ((s.offer dst c).1).power = s.power ∧ ((s.offer dst c).1).pins = s.pins ∧
    ((s.offer dst c).1).store = s.store ∧ ((s.offer dst c).1).writes = s.writes ∧
    ((s.offer dst c).1).free = s.free := by
  simp [State.offer]

/-- `send` keeps all but link. -/
@[simp] theorem State.send_keeps (s : State) (dst : NodeAddr) (c : Content) :
    (s.send dst c).pending = s.pending ∧ (s.send dst c).tables = s.tables ∧
    (s.send dst c).mgmt = s.mgmt ∧ (s.send dst c).notices = s.notices ∧
    (s.send dst c).time = s.time ∧ (s.send dst c).distance = s.distance ∧
    (s.send dst c).engine = s.engine ∧ (s.send dst c).meter = s.meter ∧
    (s.send dst c).sign = s.sign ∧ (s.send dst c).intercom = s.intercom ∧
    (s.send dst c).pay = s.pay ∧ (s.send dst c).acct = s.acct ∧ (s.send dst c).power = s.power ∧
    (s.send dst c).pins = s.pins ∧ (s.send dst c).store = s.store ∧
    (s.send dst c).writes = s.writes ∧ (s.send dst c).free = s.free := by
  simp [State.send]

/-- `offerRole` keeps all but link. -/
@[simp] theorem State.offerRole_keeps (s : State) (r : Role) (c : Content) :
    ((s.offerRole r c).1).pending = s.pending ∧ ((s.offerRole r c).1).tables = s.tables ∧
    ((s.offerRole r c).1).mgmt = s.mgmt ∧ ((s.offerRole r c).1).notices = s.notices ∧
    ((s.offerRole r c).1).time = s.time ∧ ((s.offerRole r c).1).distance = s.distance ∧
    ((s.offerRole r c).1).engine = s.engine ∧ ((s.offerRole r c).1).meter = s.meter ∧
    ((s.offerRole r c).1).sign = s.sign ∧ ((s.offerRole r c).1).intercom = s.intercom ∧
    ((s.offerRole r c).1).pay = s.pay ∧ ((s.offerRole r c).1).acct = s.acct ∧
    ((s.offerRole r c).1).power = s.power ∧ ((s.offerRole r c).1).pins = s.pins ∧
    ((s.offerRole r c).1).store = s.store ∧ ((s.offerRole r c).1).writes = s.writes ∧
    ((s.offerRole r c).1).free = s.free := by
  unfold State.offerRole
  split <;> simp

/-- `mgmtRespond` keeps all but link. -/
@[simp] theorem State.mgmtRespond_keeps (s : State) (rq : Req) (op : OpName) (t : Target) (r : MgmtResult) (d : RespData) :
    (s.mgmtRespond rq op t r d).pending = s.pending ∧
    (s.mgmtRespond rq op t r d).tables = s.tables ∧ (s.mgmtRespond rq op t r d).mgmt = s.mgmt ∧
    (s.mgmtRespond rq op t r d).notices = s.notices ∧ (s.mgmtRespond rq op t r d).time = s.time ∧
    (s.mgmtRespond rq op t r d).distance = s.distance ∧
    (s.mgmtRespond rq op t r d).engine = s.engine ∧ (s.mgmtRespond rq op t r d).meter = s.meter ∧
    (s.mgmtRespond rq op t r d).sign = s.sign ∧ (s.mgmtRespond rq op t r d).intercom = s.intercom ∧
    (s.mgmtRespond rq op t r d).pay = s.pay ∧ (s.mgmtRespond rq op t r d).acct = s.acct ∧
    (s.mgmtRespond rq op t r d).power = s.power ∧ (s.mgmtRespond rq op t r d).pins = s.pins ∧
    (s.mgmtRespond rq op t r d).store = s.store ∧ (s.mgmtRespond rq op t r d).writes = s.writes ∧
    (s.mgmtRespond rq op t r d).free = s.free := by
  simp [State.mgmtRespond]

/-- `consoleRespond` keeps all but link. -/
@[simp] theorem State.consoleRespond_keeps (s : State) (rq : Req) (n : ConsoleName) (r : ConsoleResult) (d : ConsoleData) :
    (s.consoleRespond rq n r d).pending = s.pending ∧
    (s.consoleRespond rq n r d).tables = s.tables ∧ (s.consoleRespond rq n r d).mgmt = s.mgmt ∧
    (s.consoleRespond rq n r d).notices = s.notices ∧ (s.consoleRespond rq n r d).time = s.time ∧
    (s.consoleRespond rq n r d).distance = s.distance ∧
    (s.consoleRespond rq n r d).engine = s.engine ∧ (s.consoleRespond rq n r d).meter = s.meter ∧
    (s.consoleRespond rq n r d).sign = s.sign ∧ (s.consoleRespond rq n r d).intercom = s.intercom ∧
    (s.consoleRespond rq n r d).pay = s.pay ∧ (s.consoleRespond rq n r d).acct = s.acct ∧
    (s.consoleRespond rq n r d).power = s.power ∧ (s.consoleRespond rq n r d).pins = s.pins ∧
    (s.consoleRespond rq n r d).store = s.store ∧ (s.consoleRespond rq n r d).writes = s.writes ∧
    (s.consoleRespond rq n r d).free = s.free := by
  simp [State.consoleRespond]

/-- `drainRoute` keeps all but link. -/
@[simp] theorem State.drainRoute_keeps (s : State) (r : Role) (e : NoticeEntry) (m : RouteMark) :
    ((s.drainRoute r e m).1).pending = s.pending ∧ ((s.drainRoute r e m).1).tables = s.tables ∧
    ((s.drainRoute r e m).1).mgmt = s.mgmt ∧ ((s.drainRoute r e m).1).notices = s.notices ∧
    ((s.drainRoute r e m).1).time = s.time ∧ ((s.drainRoute r e m).1).distance = s.distance ∧
    ((s.drainRoute r e m).1).engine = s.engine ∧ ((s.drainRoute r e m).1).meter = s.meter ∧
    ((s.drainRoute r e m).1).sign = s.sign ∧ ((s.drainRoute r e m).1).intercom = s.intercom ∧
    ((s.drainRoute r e m).1).pay = s.pay ∧ ((s.drainRoute r e m).1).acct = s.acct ∧
    ((s.drainRoute r e m).1).power = s.power ∧ ((s.drainRoute r e m).1).pins = s.pins ∧
    ((s.drainRoute r e m).1).store = s.store ∧ ((s.drainRoute r e m).1).writes = s.writes ∧
    ((s.drainRoute r e m).1).free = s.free := by
  have k := State.offerRole_keeps s r (.notice e.seq e.notice e.cls e.time)
  unfold State.drainRoute
  (repeat' split) <;> simp_all

/-- `drainHead` keeps all but link. -/
@[simp] theorem State.drainHead_keeps (s : State) (e : NoticeEntry) :
    ((s.drainHead e).1).pending = s.pending ∧ ((s.drainHead e).1).tables = s.tables ∧
    ((s.drainHead e).1).mgmt = s.mgmt ∧ ((s.drainHead e).1).notices = s.notices ∧
    ((s.drainHead e).1).time = s.time ∧ ((s.drainHead e).1).distance = s.distance ∧
    ((s.drainHead e).1).engine = s.engine ∧ ((s.drainHead e).1).meter = s.meter ∧
    ((s.drainHead e).1).sign = s.sign ∧ ((s.drainHead e).1).intercom = s.intercom ∧
    ((s.drainHead e).1).pay = s.pay ∧ ((s.drainHead e).1).acct = s.acct ∧
    ((s.drainHead e).1).power = s.power ∧ ((s.drainHead e).1).pins = s.pins ∧
    ((s.drainHead e).1).store = s.store ∧ ((s.drainHead e).1).writes = s.writes ∧
    ((s.drainHead e).1).free = s.free := by
  have k := State.drainRoute_keeps s .console e e.console
  unfold State.drainHead
  split
  · simp_all
  · rename_i s' m h
    have k' := State.drainRoute_keeps s' .modem e e.modem
    simp_all

/-- `drainLoop` keeps all but link, notices. -/
@[simp] theorem State.drainLoop_keeps (s : State) (n : Nat) :
    (s.drainLoop n).pending = s.pending ∧ (s.drainLoop n).tables = s.tables ∧
    (s.drainLoop n).mgmt = s.mgmt ∧ (s.drainLoop n).time = s.time ∧
    (s.drainLoop n).distance = s.distance ∧ (s.drainLoop n).engine = s.engine ∧
    (s.drainLoop n).meter = s.meter ∧ (s.drainLoop n).sign = s.sign ∧
    (s.drainLoop n).intercom = s.intercom ∧ (s.drainLoop n).pay = s.pay ∧
    (s.drainLoop n).acct = s.acct ∧ (s.drainLoop n).power = s.power ∧
    (s.drainLoop n).pins = s.pins ∧ (s.drainLoop n).store = s.store ∧
    (s.drainLoop n).writes = s.writes ∧ (s.drainLoop n).free = s.free := by
  induction n generalizing s with
  | zero => simp [State.drainLoop]
  | succ n ih =>
    unfold State.drainLoop
    simp only
    split
    · simp
    · rename_i e he
      have k := State.drainHead_keeps s e
      split <;> simp_all

/-- `drain` keeps all but link, notices. -/
@[simp] theorem State.drain_keeps (s : State) :
    (s.drain).pending = s.pending ∧ (s.drain).tables = s.tables ∧ (s.drain).mgmt = s.mgmt ∧
    (s.drain).time = s.time ∧ (s.drain).distance = s.distance ∧ (s.drain).engine = s.engine ∧
    (s.drain).meter = s.meter ∧ (s.drain).sign = s.sign ∧ (s.drain).intercom = s.intercom ∧
    (s.drain).pay = s.pay ∧ (s.drain).acct = s.acct ∧ (s.drain).power = s.power ∧
    (s.drain).pins = s.pins ∧ (s.drain).store = s.store ∧ (s.drain).writes = s.writes ∧
    (s.drain).free = s.free := by
  unfold State.drain
  split <;> simp

/-- `offerNotice` keeps all but link, notices. -/
@[simp] theorem State.offerNotice_keeps (s : State) (n : Notice) :
    (s.offerNotice n).pending = s.pending ∧ (s.offerNotice n).tables = s.tables ∧
    (s.offerNotice n).mgmt = s.mgmt ∧ (s.offerNotice n).time = s.time ∧
    (s.offerNotice n).distance = s.distance ∧ (s.offerNotice n).engine = s.engine ∧
    (s.offerNotice n).meter = s.meter ∧ (s.offerNotice n).sign = s.sign ∧
    (s.offerNotice n).intercom = s.intercom ∧ (s.offerNotice n).pay = s.pay ∧
    (s.offerNotice n).acct = s.acct ∧ (s.offerNotice n).power = s.power ∧
    (s.offerNotice n).pins = s.pins ∧ (s.offerNotice n).store = s.store ∧
    (s.offerNotice n).writes = s.writes ∧ (s.offerNotice n).free = s.free := by
  unfold State.offerNotice
  split <;> simp

/-- `tryView` keeps all but link, meter. -/
@[simp] theorem State.tryView_keeps (s : State) (d : ViewDest) :
    (s.tryView d).pending = s.pending ∧ (s.tryView d).tables = s.tables ∧
    (s.tryView d).mgmt = s.mgmt ∧ (s.tryView d).notices = s.notices ∧ (s.tryView d).time = s.time ∧
    (s.tryView d).distance = s.distance ∧ (s.tryView d).engine = s.engine ∧
    (s.tryView d).sign = s.sign ∧ (s.tryView d).intercom = s.intercom ∧ (s.tryView d).pay = s.pay ∧
    (s.tryView d).acct = s.acct ∧ (s.tryView d).power = s.power ∧ (s.tryView d).pins = s.pins ∧
    (s.tryView d).store = s.store ∧ (s.tryView d).writes = s.writes ∧ (s.tryView d).free = s.free := by
  have k := State.offerRole_keeps s (viewRole d) (.fareView (s.buildView (s.viewState d)))
  simp only [State.tryView]
  split
  · split <;> simp_all
  · simp

/-- `markViews` keeps all but link, meter. -/
@[simp] theorem State.markViews_keeps (s : State) :
    (s.markViews).pending = s.pending ∧ (s.markViews).tables = s.tables ∧
    (s.markViews).mgmt = s.mgmt ∧ (s.markViews).notices = s.notices ∧ (s.markViews).time = s.time ∧
    (s.markViews).distance = s.distance ∧ (s.markViews).engine = s.engine ∧
    (s.markViews).sign = s.sign ∧ (s.markViews).intercom = s.intercom ∧ (s.markViews).pay = s.pay ∧
    (s.markViews).acct = s.acct ∧ (s.markViews).power = s.power ∧ (s.markViews).pins = s.pins ∧
    (s.markViews).store = s.store ∧ (s.markViews).writes = s.writes ∧ (s.markViews).free = s.free := by
  simp [State.markViews]

/-- `restartCheckpointTimer` keeps all but power. -/
@[simp] theorem State.restartCheckpointTimer_keeps (s : State) :
    (s.restartCheckpointTimer).pending = s.pending ∧ (s.restartCheckpointTimer).link = s.link ∧
    (s.restartCheckpointTimer).tables = s.tables ∧ (s.restartCheckpointTimer).mgmt = s.mgmt ∧
    (s.restartCheckpointTimer).notices = s.notices ∧ (s.restartCheckpointTimer).time = s.time ∧
    (s.restartCheckpointTimer).distance = s.distance ∧
    (s.restartCheckpointTimer).engine = s.engine ∧ (s.restartCheckpointTimer).meter = s.meter ∧
    (s.restartCheckpointTimer).sign = s.sign ∧ (s.restartCheckpointTimer).intercom = s.intercom ∧
    (s.restartCheckpointTimer).pay = s.pay ∧ (s.restartCheckpointTimer).acct = s.acct ∧
    (s.restartCheckpointTimer).pins = s.pins ∧ (s.restartCheckpointTimer).store = s.store ∧
    (s.restartCheckpointTimer).writes = s.writes ∧ (s.restartCheckpointTimer).free = s.free := by
  unfold State.restartCheckpointTimer
  split <;> simp

/-- `beginCheckpoint` keeps all but acct, power, writes. -/
@[simp] theorem State.beginCheckpoint_keeps (s : State) (releases : Option Ref) :
    (s.beginCheckpoint releases).pending = s.pending ∧ (s.beginCheckpoint releases).link = s.link ∧
    (s.beginCheckpoint releases).tables = s.tables ∧ (s.beginCheckpoint releases).mgmt = s.mgmt ∧
    (s.beginCheckpoint releases).notices = s.notices ∧ (s.beginCheckpoint releases).time = s.time ∧
    (s.beginCheckpoint releases).distance = s.distance ∧
    (s.beginCheckpoint releases).engine = s.engine ∧ (s.beginCheckpoint releases).meter = s.meter ∧
    (s.beginCheckpoint releases).sign = s.sign ∧
    (s.beginCheckpoint releases).intercom = s.intercom ∧ (s.beginCheckpoint releases).pay = s.pay ∧
    (s.beginCheckpoint releases).pins = s.pins ∧ (s.beginCheckpoint releases).store = s.store ∧
    (s.beginCheckpoint releases).free = s.free := by
  simp [State.beginCheckpoint]

/-- `beginSave` keeps all but acct, writes. -/
@[simp] theorem State.beginSave_keeps (s : State) (mark : SaveMark) :
    (s.beginSave mark).pending = s.pending ∧ (s.beginSave mark).link = s.link ∧
    (s.beginSave mark).tables = s.tables ∧ (s.beginSave mark).mgmt = s.mgmt ∧
    (s.beginSave mark).notices = s.notices ∧ (s.beginSave mark).time = s.time ∧
    (s.beginSave mark).distance = s.distance ∧ (s.beginSave mark).engine = s.engine ∧
    (s.beginSave mark).meter = s.meter ∧ (s.beginSave mark).sign = s.sign ∧
    (s.beginSave mark).intercom = s.intercom ∧ (s.beginSave mark).pay = s.pay ∧
    (s.beginSave mark).power = s.power ∧ (s.beginSave mark).pins = s.pins ∧
    (s.beginSave mark).store = s.store ∧ (s.beginSave mark).free = s.free := by
  simp [State.beginSave]

/-- `reportTo` keeps all but link. -/
@[simp] theorem State.reportTo_keeps (s : State) (r : Role) (rec : ShiftRecord) (m : ReportMark) :
    ((s.reportTo r rec m).1).pending = s.pending ∧ ((s.reportTo r rec m).1).tables = s.tables ∧
    ((s.reportTo r rec m).1).mgmt = s.mgmt ∧ ((s.reportTo r rec m).1).notices = s.notices ∧
    ((s.reportTo r rec m).1).time = s.time ∧ ((s.reportTo r rec m).1).distance = s.distance ∧
    ((s.reportTo r rec m).1).engine = s.engine ∧ ((s.reportTo r rec m).1).meter = s.meter ∧
    ((s.reportTo r rec m).1).sign = s.sign ∧ ((s.reportTo r rec m).1).intercom = s.intercom ∧
    ((s.reportTo r rec m).1).pay = s.pay ∧ ((s.reportTo r rec m).1).acct = s.acct ∧
    ((s.reportTo r rec m).1).power = s.power ∧ ((s.reportTo r rec m).1).pins = s.pins ∧
    ((s.reportTo r rec m).1).store = s.store ∧ ((s.reportTo r rec m).1).writes = s.writes ∧
    ((s.reportTo r rec m).1).free = s.free := by
  have k := State.offerRole_keeps s r (.shiftReport rec.number 1 (.part1 rec.part1))
  unfold State.reportTo
  split
  · split
    rename_i s1 b1 h1
    have k' := State.offerRole_keeps s1 r (.shiftReport rec.number 2 (.part2 rec.part2))
    split
    simp_all
  · simp

/-- `reportShift` keeps all but link, acct. -/
@[simp] theorem State.reportShift_keeps (s : State) (l : LastShift) :
    (s.reportShift l).pending = s.pending ∧ (s.reportShift l).tables = s.tables ∧
    (s.reportShift l).mgmt = s.mgmt ∧ (s.reportShift l).notices = s.notices ∧
    (s.reportShift l).time = s.time ∧ (s.reportShift l).distance = s.distance ∧
    (s.reportShift l).engine = s.engine ∧ (s.reportShift l).meter = s.meter ∧
    (s.reportShift l).sign = s.sign ∧ (s.reportShift l).intercom = s.intercom ∧
    (s.reportShift l).pay = s.pay ∧ (s.reportShift l).power = s.power ∧ (s.reportShift l).pins = s.pins ∧
    (s.reportShift l).store = s.store ∧ (s.reportShift l).writes = s.writes ∧
    (s.reportShift l).free = s.free := by
  simp [State.reportShift]

/-- `completeWrite` keeps all but link, acct, store. -/
@[simp] theorem State.completeWrite_keeps (s : State) (w : StoreWrite) :
    (s.completeWrite w).pending = s.pending ∧ (s.completeWrite w).tables = s.tables ∧
    (s.completeWrite w).mgmt = s.mgmt ∧ (s.completeWrite w).notices = s.notices ∧
    (s.completeWrite w).time = s.time ∧ (s.completeWrite w).distance = s.distance ∧
    (s.completeWrite w).engine = s.engine ∧ (s.completeWrite w).meter = s.meter ∧
    (s.completeWrite w).sign = s.sign ∧ (s.completeWrite w).intercom = s.intercom ∧
    (s.completeWrite w).pay = s.pay ∧ (s.completeWrite w).power = s.power ∧
    (s.completeWrite w).pins = s.pins ∧ (s.completeWrite w).writes = s.writes ∧
    (s.completeWrite w).free = s.free := by
  unfold State.completeWrite
  split <;> simp

/-- `endTest` keeps all but sign. -/
@[simp] theorem State.endTest_keeps (s : State) :
    (s.endTest).pending = s.pending ∧ (s.endTest).link = s.link ∧ (s.endTest).tables = s.tables ∧
    (s.endTest).mgmt = s.mgmt ∧ (s.endTest).notices = s.notices ∧ (s.endTest).time = s.time ∧
    (s.endTest).distance = s.distance ∧ (s.endTest).engine = s.engine ∧
    (s.endTest).meter = s.meter ∧ (s.endTest).intercom = s.intercom ∧ (s.endTest).pay = s.pay ∧
    (s.endTest).acct = s.acct ∧ (s.endTest).power = s.power ∧ (s.endTest).pins = s.pins ∧
    (s.endTest).store = s.store ∧ (s.endTest).writes = s.writes ∧ (s.endTest).free = s.free := by
  unfold State.endTest
  split <;> simp

/-- `countTest` keeps all but sign. -/
@[simp] theorem State.countTest_keeps (s : State) :
    (s.countTest).pending = s.pending ∧ (s.countTest).link = s.link ∧
    (s.countTest).tables = s.tables ∧ (s.countTest).mgmt = s.mgmt ∧
    (s.countTest).notices = s.notices ∧ (s.countTest).time = s.time ∧
    (s.countTest).distance = s.distance ∧ (s.countTest).engine = s.engine ∧
    (s.countTest).meter = s.meter ∧ (s.countTest).intercom = s.intercom ∧
    (s.countTest).pay = s.pay ∧ (s.countTest).acct = s.acct ∧ (s.countTest).power = s.power ∧
    (s.countTest).pins = s.pins ∧ (s.countTest).store = s.store ∧ (s.countTest).writes = s.writes ∧
    (s.countTest).free = s.free := by
  unfold State.countTest
  (repeat' split) <;> simp

/-- `followMeter` keeps all but intercom. -/
@[simp] theorem State.followMeter_keeps (s : State) :
    (s.followMeter).pending = s.pending ∧ (s.followMeter).link = s.link ∧
    (s.followMeter).tables = s.tables ∧ (s.followMeter).mgmt = s.mgmt ∧
    (s.followMeter).notices = s.notices ∧ (s.followMeter).time = s.time ∧
    (s.followMeter).distance = s.distance ∧ (s.followMeter).engine = s.engine ∧
    (s.followMeter).meter = s.meter ∧ (s.followMeter).sign = s.sign ∧ (s.followMeter).pay = s.pay ∧
    (s.followMeter).acct = s.acct ∧ (s.followMeter).power = s.power ∧
    (s.followMeter).pins = s.pins ∧ (s.followMeter).store = s.store ∧
    (s.followMeter).writes = s.writes ∧ (s.followMeter).free = s.free := by
  simp only [State.followMeter]
  (repeat' split) <;> simp

/-- `requestPrompt` keeps all but intercom. -/
@[simp] theorem State.requestPrompt_keeps (s : State) (i : Nat) :
    ((s.requestPrompt i).1).pending = s.pending ∧ ((s.requestPrompt i).1).link = s.link ∧
    ((s.requestPrompt i).1).tables = s.tables ∧ ((s.requestPrompt i).1).mgmt = s.mgmt ∧
    ((s.requestPrompt i).1).notices = s.notices ∧ ((s.requestPrompt i).1).time = s.time ∧
    ((s.requestPrompt i).1).distance = s.distance ∧ ((s.requestPrompt i).1).engine = s.engine ∧
    ((s.requestPrompt i).1).meter = s.meter ∧ ((s.requestPrompt i).1).sign = s.sign ∧
    ((s.requestPrompt i).1).pay = s.pay ∧ ((s.requestPrompt i).1).acct = s.acct ∧
    ((s.requestPrompt i).1).power = s.power ∧ ((s.requestPrompt i).1).pins = s.pins ∧
    ((s.requestPrompt i).1).store = s.store ∧ ((s.requestPrompt i).1).writes = s.writes ∧
    ((s.requestPrompt i).1).free = s.free := by
  unfold State.requestPrompt
  (repeat' split) <;> simp

/-- `trigger` keeps all but intercom. -/
@[simp] theorem State.trigger_keeps (s : State) (t : Trigger) :
    (s.trigger t).pending = s.pending ∧ (s.trigger t).link = s.link ∧
    (s.trigger t).tables = s.tables ∧ (s.trigger t).mgmt = s.mgmt ∧
    (s.trigger t).notices = s.notices ∧ (s.trigger t).time = s.time ∧
    (s.trigger t).distance = s.distance ∧ (s.trigger t).engine = s.engine ∧
    (s.trigger t).meter = s.meter ∧ (s.trigger t).sign = s.sign ∧ (s.trigger t).pay = s.pay ∧
    (s.trigger t).acct = s.acct ∧ (s.trigger t).power = s.power ∧ (s.trigger t).pins = s.pins ∧
    (s.trigger t).store = s.store ∧ (s.trigger t).writes = s.writes ∧ (s.trigger t).free = s.free := by
  unfold State.trigger
  (repeat' split) <;> simp

/-- `endPrompt` keeps all but intercom. -/
@[simp] theorem State.endPrompt_keeps (s : State) :
    (s.endPrompt).pending = s.pending ∧ (s.endPrompt).link = s.link ∧
    (s.endPrompt).tables = s.tables ∧ (s.endPrompt).mgmt = s.mgmt ∧
    (s.endPrompt).notices = s.notices ∧ (s.endPrompt).time = s.time ∧
    (s.endPrompt).distance = s.distance ∧ (s.endPrompt).engine = s.engine ∧
    (s.endPrompt).meter = s.meter ∧ (s.endPrompt).sign = s.sign ∧ (s.endPrompt).pay = s.pay ∧
    (s.endPrompt).acct = s.acct ∧ (s.endPrompt).power = s.power ∧ (s.endPrompt).pins = s.pins ∧
    (s.endPrompt).store = s.store ∧ (s.endPrompt).writes = s.writes ∧ (s.endPrompt).free = s.free := by
  unfold State.endPrompt
  (repeat' split) <;> simp

/-- `monitorPause` keeps all but intercom. -/
@[simp] theorem State.monitorPause_keeps (s : State) :
    (s.monitorPause).pending = s.pending ∧ (s.monitorPause).link = s.link ∧
    (s.monitorPause).tables = s.tables ∧ (s.monitorPause).mgmt = s.mgmt ∧
    (s.monitorPause).notices = s.notices ∧ (s.monitorPause).time = s.time ∧
    (s.monitorPause).distance = s.distance ∧ (s.monitorPause).engine = s.engine ∧
    (s.monitorPause).meter = s.meter ∧ (s.monitorPause).sign = s.sign ∧
    (s.monitorPause).pay = s.pay ∧ (s.monitorPause).acct = s.acct ∧
    (s.monitorPause).power = s.power ∧ (s.monitorPause).pins = s.pins ∧
    (s.monitorPause).store = s.store ∧ (s.monitorPause).writes = s.writes ∧
    (s.monitorPause).free = s.free := by
  simp only [State.monitorPause]
  (repeat' split) <;> simp

/-- `monitorResume` keeps all but intercom. -/
@[simp] theorem State.monitorResume_keeps (s : State) :
    (s.monitorResume).pending = s.pending ∧ (s.monitorResume).link = s.link ∧
    (s.monitorResume).tables = s.tables ∧ (s.monitorResume).mgmt = s.mgmt ∧
    (s.monitorResume).notices = s.notices ∧ (s.monitorResume).time = s.time ∧
    (s.monitorResume).distance = s.distance ∧ (s.monitorResume).engine = s.engine ∧
    (s.monitorResume).meter = s.meter ∧ (s.monitorResume).sign = s.sign ∧
    (s.monitorResume).pay = s.pay ∧ (s.monitorResume).acct = s.acct ∧
    (s.monitorResume).power = s.power ∧ (s.monitorResume).pins = s.pins ∧
    (s.monitorResume).store = s.store ∧ (s.monitorResume).writes = s.writes ∧
    (s.monitorResume).free = s.free := by
  simp only [State.monitorResume]
  (repeat' split) <;> simp

/-- `evaluateArbiter` keeps all but intercom. -/
@[simp] theorem State.evaluateArbiter_keeps (s : State) :
    (s.evaluateArbiter).pending = s.pending ∧ (s.evaluateArbiter).link = s.link ∧
    (s.evaluateArbiter).tables = s.tables ∧ (s.evaluateArbiter).mgmt = s.mgmt ∧
    (s.evaluateArbiter).notices = s.notices ∧ (s.evaluateArbiter).time = s.time ∧
    (s.evaluateArbiter).distance = s.distance ∧ (s.evaluateArbiter).engine = s.engine ∧
    (s.evaluateArbiter).meter = s.meter ∧ (s.evaluateArbiter).sign = s.sign ∧
    (s.evaluateArbiter).pay = s.pay ∧ (s.evaluateArbiter).acct = s.acct ∧
    (s.evaluateArbiter).power = s.power ∧ (s.evaluateArbiter).pins = s.pins ∧
    (s.evaluateArbiter).store = s.store ∧ (s.evaluateArbiter).writes = s.writes ∧
    (s.evaluateArbiter).free = s.free := by
  simp only [State.evaluateArbiter]
  (repeat' split) <;> simp

/-- `startTone` keeps all but intercom. -/
@[simp] theorem State.startTone_keeps (s : State) :
    (s.startTone).pending = s.pending ∧ (s.startTone).link = s.link ∧
    (s.startTone).tables = s.tables ∧ (s.startTone).mgmt = s.mgmt ∧
    (s.startTone).notices = s.notices ∧ (s.startTone).time = s.time ∧
    (s.startTone).distance = s.distance ∧ (s.startTone).engine = s.engine ∧
    (s.startTone).meter = s.meter ∧ (s.startTone).sign = s.sign ∧ (s.startTone).pay = s.pay ∧
    (s.startTone).acct = s.acct ∧ (s.startTone).power = s.power ∧ (s.startTone).pins = s.pins ∧
    (s.startTone).store = s.store ∧ (s.startTone).writes = s.writes ∧ (s.startTone).free = s.free := by
  unfold State.startTone
  (repeat' split) <;> simp

/-- `endSpeakerTest` keeps all but link, intercom. -/
@[simp] theorem State.endSpeakerTest_keeps (s : State) (o : TestOutcome) (a t : Nat) :
    (s.endSpeakerTest o a t).pending = s.pending ∧ (s.endSpeakerTest o a t).tables = s.tables ∧
    (s.endSpeakerTest o a t).mgmt = s.mgmt ∧ (s.endSpeakerTest o a t).notices = s.notices ∧
    (s.endSpeakerTest o a t).time = s.time ∧ (s.endSpeakerTest o a t).distance = s.distance ∧
    (s.endSpeakerTest o a t).engine = s.engine ∧ (s.endSpeakerTest o a t).meter = s.meter ∧
    (s.endSpeakerTest o a t).sign = s.sign ∧ (s.endSpeakerTest o a t).pay = s.pay ∧
    (s.endSpeakerTest o a t).acct = s.acct ∧ (s.endSpeakerTest o a t).power = s.power ∧
    (s.endSpeakerTest o a t).pins = s.pins ∧ (s.endSpeakerTest o a t).store = s.store ∧
    (s.endSpeakerTest o a t).writes = s.writes ∧ (s.endSpeakerTest o a t).free = s.free := by
  unfold State.endSpeakerTest
  split <;> simp

/-- `abortSpeakerTest` keeps all but link, intercom. -/
@[simp] theorem State.abortSpeakerTest_keeps (s : State) :
    (s.abortSpeakerTest).pending = s.pending ∧ (s.abortSpeakerTest).tables = s.tables ∧
    (s.abortSpeakerTest).mgmt = s.mgmt ∧ (s.abortSpeakerTest).notices = s.notices ∧
    (s.abortSpeakerTest).time = s.time ∧ (s.abortSpeakerTest).distance = s.distance ∧
    (s.abortSpeakerTest).engine = s.engine ∧ (s.abortSpeakerTest).meter = s.meter ∧
    (s.abortSpeakerTest).sign = s.sign ∧ (s.abortSpeakerTest).pay = s.pay ∧
    (s.abortSpeakerTest).acct = s.acct ∧ (s.abortSpeakerTest).power = s.power ∧
    (s.abortSpeakerTest).pins = s.pins ∧ (s.abortSpeakerTest).store = s.store ∧
    (s.abortSpeakerTest).writes = s.writes ∧ (s.abortSpeakerTest).free = s.free := by
  simp [State.abortSpeakerTest]

/-- `measureTest` keeps all but link, intercom. -/
@[simp] theorem State.measureTest_keeps (s : State) :
    (s.measureTest).pending = s.pending ∧ (s.measureTest).tables = s.tables ∧
    (s.measureTest).mgmt = s.mgmt ∧ (s.measureTest).notices = s.notices ∧
    (s.measureTest).time = s.time ∧ (s.measureTest).distance = s.distance ∧
    (s.measureTest).engine = s.engine ∧ (s.measureTest).meter = s.meter ∧
    (s.measureTest).sign = s.sign ∧ (s.measureTest).pay = s.pay ∧
    (s.measureTest).acct = s.acct ∧ (s.measureTest).power = s.power ∧
    (s.measureTest).pins = s.pins ∧ (s.measureTest).store = s.store ∧
    (s.measureTest).writes = s.writes ∧ (s.measureTest).free = s.free := by
  unfold State.measureTest
  split <;> simp

/-- Before the tone has been made, a test's end changes nothing. -/
theorem State.takeTestEnd_of {s : State} (h : s.intercom.test.any (·.toneMade) = false) :
    s.takeTestEnd = s := by
  simp [State.takeTestEnd, h]

/-- `stopIntercom` keeps all but link, intercom. -/
@[simp] theorem State.stopIntercom_keeps (s : State) (run : RunState) :
    (s.stopIntercom run).pending = s.pending ∧ (s.stopIntercom run).tables = s.tables ∧
    (s.stopIntercom run).mgmt = s.mgmt ∧ (s.stopIntercom run).notices = s.notices ∧
    (s.stopIntercom run).time = s.time ∧ (s.stopIntercom run).distance = s.distance ∧
    (s.stopIntercom run).engine = s.engine ∧ (s.stopIntercom run).meter = s.meter ∧
    (s.stopIntercom run).sign = s.sign ∧ (s.stopIntercom run).pay = s.pay ∧
    (s.stopIntercom run).acct = s.acct ∧ (s.stopIntercom run).power = s.power ∧
    (s.stopIntercom run).pins = s.pins ∧ (s.stopIntercom run).store = s.store ∧
    (s.stopIntercom run).writes = s.writes ∧ (s.stopIntercom run).free = s.free := by
  unfold State.stopIntercom
  split <;> simp

/-- `startIntercom` keeps all but intercom. -/
@[simp] theorem State.startIntercom_keeps (s : State) (drops : Nat) :
    (s.startIntercom drops).pending = s.pending ∧ (s.startIntercom drops).link = s.link ∧
    (s.startIntercom drops).tables = s.tables ∧ (s.startIntercom drops).mgmt = s.mgmt ∧
    (s.startIntercom drops).notices = s.notices ∧ (s.startIntercom drops).time = s.time ∧
    (s.startIntercom drops).distance = s.distance ∧ (s.startIntercom drops).engine = s.engine ∧
    (s.startIntercom drops).meter = s.meter ∧ (s.startIntercom drops).sign = s.sign ∧
    (s.startIntercom drops).pay = s.pay ∧ (s.startIntercom drops).acct = s.acct ∧
    (s.startIntercom drops).power = s.power ∧ (s.startIntercom drops).pins = s.pins ∧
    (s.startIntercom drops).store = s.store ∧ (s.startIntercom drops).writes = s.writes ∧
    (s.startIntercom drops).free = s.free := by
  simp only [State.startIntercom]
  (repeat' split) <;> simp

/-- `setMeterState` keeps all but link, meter, sign, intercom, acct, power, writes. -/
@[simp] theorem State.setMeterState_keeps (s : State) (m : MeterState) :
    (s.setMeterState m).pending = s.pending ∧ (s.setMeterState m).tables = s.tables ∧
    (s.setMeterState m).mgmt = s.mgmt ∧ (s.setMeterState m).notices = s.notices ∧
    (s.setMeterState m).time = s.time ∧ (s.setMeterState m).distance = s.distance ∧
    (s.setMeterState m).engine = s.engine ∧ (s.setMeterState m).pay = s.pay ∧
    (s.setMeterState m).pins = s.pins ∧ (s.setMeterState m).store = s.store ∧
    (s.setMeterState m).free = s.free := by
  unfold State.setMeterState
  split <;> simp

/-- `limitTold` keeps all but link, meter, sign, intercom, acct, power, writes. -/
@[simp] theorem State.limitTold_keeps (s : State) :
    (s.limitTold).pending = s.pending ∧ (s.limitTold).tables = s.tables ∧
    (s.limitTold).mgmt = s.mgmt ∧ (s.limitTold).notices = s.notices ∧ (s.limitTold).time = s.time ∧
    (s.limitTold).distance = s.distance ∧ (s.limitTold).engine = s.engine ∧
    (s.limitTold).pay = s.pay ∧ (s.limitTold).pins = s.pins ∧ (s.limitTold).store = s.store ∧
    (s.limitTold).free = s.free := by
  unfold State.limitTold
  split <;> simp

/-- `setSession` keeps all but link, meter, pay. -/
@[simp] theorem State.setSession_keeps (s : State) (x : Session) :
    (s.setSession x).pending = s.pending ∧ (s.setSession x).tables = s.tables ∧
    (s.setSession x).mgmt = s.mgmt ∧ (s.setSession x).notices = s.notices ∧
    (s.setSession x).time = s.time ∧ (s.setSession x).distance = s.distance ∧
    (s.setSession x).engine = s.engine ∧ (s.setSession x).sign = s.sign ∧
    (s.setSession x).intercom = s.intercom ∧ (s.setSession x).acct = s.acct ∧
    (s.setSession x).power = s.power ∧ (s.setSession x).pins = s.pins ∧
    (s.setSession x).store = s.store ∧ (s.setSession x).writes = s.writes ∧
    (s.setSession x).free = s.free := by
  simp only [State.setSession]
  (repeat' split) <;> simp

/-- `replyReader` keeps all but link, pay. -/
@[simp] theorem State.replyReader_keeps (s : State) (i : Nat) (r : ReaderResult) (t : Option ReplyTender) :
    (s.replyReader i r t).pending = s.pending ∧ (s.replyReader i r t).tables = s.tables ∧
    (s.replyReader i r t).mgmt = s.mgmt ∧ (s.replyReader i r t).notices = s.notices ∧
    (s.replyReader i r t).time = s.time ∧ (s.replyReader i r t).distance = s.distance ∧
    (s.replyReader i r t).engine = s.engine ∧ (s.replyReader i r t).meter = s.meter ∧
    (s.replyReader i r t).sign = s.sign ∧ (s.replyReader i r t).intercom = s.intercom ∧
    (s.replyReader i r t).acct = s.acct ∧ (s.replyReader i r t).power = s.power ∧
    (s.replyReader i r t).pins = s.pins ∧ (s.replyReader i r t).store = s.store ∧
    (s.replyReader i r t).writes = s.writes ∧ (s.replyReader i r t).free = s.free := by
  have k := State.offerRole_keeps s .reader (.payResp i r t)
  unfold State.replyReader
  (repeat' split) <;> simp_all

/-- `tryAdvice` keeps all but link, pay. -/
@[simp] theorem State.tryAdvice_keeps (s : State) :
    (s.tryAdvice).pending = s.pending ∧ (s.tryAdvice).tables = s.tables ∧
    (s.tryAdvice).mgmt = s.mgmt ∧ (s.tryAdvice).notices = s.notices ∧ (s.tryAdvice).time = s.time ∧
    (s.tryAdvice).distance = s.distance ∧ (s.tryAdvice).engine = s.engine ∧
    (s.tryAdvice).meter = s.meter ∧ (s.tryAdvice).sign = s.sign ∧
    (s.tryAdvice).intercom = s.intercom ∧ (s.tryAdvice).acct = s.acct ∧
    (s.tryAdvice).power = s.power ∧ (s.tryAdvice).pins = s.pins ∧ (s.tryAdvice).store = s.store ∧
    (s.tryAdvice).writes = s.writes ∧ (s.tryAdvice).free = s.free := by
  unfold State.tryAdvice
  split
  · simp
  · rename_i r rest h
    have k := State.offerRole_keeps s .modem (.advice r)
    (repeat' split) <;> simp_all

/-- `joinAdvice` keeps all but link, notices, pay, writes. -/
@[simp] theorem State.joinAdvice_keeps (s : State) (r : AdviceRecord) :
    (s.joinAdvice r).pending = s.pending ∧ (s.joinAdvice r).tables = s.tables ∧
    (s.joinAdvice r).mgmt = s.mgmt ∧ (s.joinAdvice r).time = s.time ∧
    (s.joinAdvice r).distance = s.distance ∧ (s.joinAdvice r).engine = s.engine ∧
    (s.joinAdvice r).meter = s.meter ∧ (s.joinAdvice r).sign = s.sign ∧
    (s.joinAdvice r).intercom = s.intercom ∧ (s.joinAdvice r).acct = s.acct ∧
    (s.joinAdvice r).power = s.power ∧ (s.joinAdvice r).pins = s.pins ∧
    (s.joinAdvice r).store = s.store ∧ (s.joinAdvice r).free = s.free := by
  simp only [State.joinAdvice]
  (repeat' split) <;> simp

/-- `removeAdvice` keeps all but link, pay, writes. -/
@[simp] theorem State.removeAdvice_keeps (s : State) (r : AdviceRecord) :
    (s.removeAdvice r).pending = s.pending ∧ (s.removeAdvice r).tables = s.tables ∧
    (s.removeAdvice r).mgmt = s.mgmt ∧ (s.removeAdvice r).notices = s.notices ∧
    (s.removeAdvice r).time = s.time ∧ (s.removeAdvice r).distance = s.distance ∧
    (s.removeAdvice r).engine = s.engine ∧ (s.removeAdvice r).meter = s.meter ∧
    (s.removeAdvice r).sign = s.sign ∧ (s.removeAdvice r).intercom = s.intercom ∧
    (s.removeAdvice r).acct = s.acct ∧ (s.removeAdvice r).power = s.power ∧
    (s.removeAdvice r).pins = s.pins ∧ (s.removeAdvice r).store = s.store ∧
    (s.removeAdvice r).free = s.free := by
  simp [State.removeAdvice]

/-- `disputeAdvice` keeps all but pay, writes. -/
@[simp] theorem State.disputeAdvice_keeps (s : State) (r : AdviceRecord) :
    (s.disputeAdvice r).pending = s.pending ∧ (s.disputeAdvice r).link = s.link ∧
    (s.disputeAdvice r).tables = s.tables ∧ (s.disputeAdvice r).mgmt = s.mgmt ∧
    (s.disputeAdvice r).notices = s.notices ∧ (s.disputeAdvice r).time = s.time ∧
    (s.disputeAdvice r).distance = s.distance ∧ (s.disputeAdvice r).engine = s.engine ∧
    (s.disputeAdvice r).meter = s.meter ∧ (s.disputeAdvice r).sign = s.sign ∧
    (s.disputeAdvice r).intercom = s.intercom ∧ (s.disputeAdvice r).acct = s.acct ∧
    (s.disputeAdvice r).power = s.power ∧ (s.disputeAdvice r).pins = s.pins ∧
    (s.disputeAdvice r).store = s.store ∧ (s.disputeAdvice r).free = s.free := by
  simp [State.disputeAdvice]

/-- `endSession` keeps all but link, meter, pay. -/
@[simp] theorem State.endSession_keeps (s : State) :
    (s.endSession).pending = s.pending ∧ (s.endSession).tables = s.tables ∧
    (s.endSession).mgmt = s.mgmt ∧ (s.endSession).notices = s.notices ∧
    (s.endSession).time = s.time ∧ (s.endSession).distance = s.distance ∧
    (s.endSession).engine = s.engine ∧ (s.endSession).sign = s.sign ∧
    (s.endSession).intercom = s.intercom ∧ (s.endSession).acct = s.acct ∧
    (s.endSession).power = s.power ∧ (s.endSession).pins = s.pins ∧ (s.endSession).store = s.store ∧
    (s.endSession).writes = s.writes ∧ (s.endSession).free = s.free := by
  simp only [State.endSession]
  (repeat' split) <;> simp

/-- `beginCloseUpdate` keeps all but acct, writes. -/
@[simp] theorem State.beginCloseUpdate_keeps (s : State) (r : TripRecord) :
    (s.beginCloseUpdate r).pending = s.pending ∧ (s.beginCloseUpdate r).link = s.link ∧
    (s.beginCloseUpdate r).tables = s.tables ∧ (s.beginCloseUpdate r).mgmt = s.mgmt ∧
    (s.beginCloseUpdate r).notices = s.notices ∧ (s.beginCloseUpdate r).time = s.time ∧
    (s.beginCloseUpdate r).distance = s.distance ∧ (s.beginCloseUpdate r).engine = s.engine ∧
    (s.beginCloseUpdate r).meter = s.meter ∧ (s.beginCloseUpdate r).sign = s.sign ∧
    (s.beginCloseUpdate r).intercom = s.intercom ∧ (s.beginCloseUpdate r).pay = s.pay ∧
    (s.beginCloseUpdate r).power = s.power ∧ (s.beginCloseUpdate r).pins = s.pins ∧
    (s.beginCloseUpdate r).store = s.store ∧ (s.beginCloseUpdate r).free = s.free := by
  simp [State.beginCloseUpdate]

/-- `beginClose` keeps all but link, meter, sign, acct, writes. -/
@[simp] theorem State.beginClose_keeps (s : State) (u : Nat) :
    (s.beginClose u).pending = s.pending ∧ (s.beginClose u).tables = s.tables ∧
    (s.beginClose u).mgmt = s.mgmt ∧ (s.beginClose u).notices = s.notices ∧
    (s.beginClose u).time = s.time ∧ (s.beginClose u).distance = s.distance ∧
    (s.beginClose u).engine = s.engine ∧ (s.beginClose u).intercom = s.intercom ∧
    (s.beginClose u).pay = s.pay ∧ (s.beginClose u).power = s.power ∧
    (s.beginClose u).pins = s.pins ∧ (s.beginClose u).store = s.store ∧
    (s.beginClose u).free = s.free := by
  unfold State.beginClose
  split <;> simp

/-- `reportDue` keeps all but link, meter, sign, acct, writes. -/
@[simp] theorem State.reportDue_keeps (s : State) :
    (s.reportDue).pending = s.pending ∧ (s.reportDue).tables = s.tables ∧
    (s.reportDue).mgmt = s.mgmt ∧ (s.reportDue).notices = s.notices ∧ (s.reportDue).time = s.time ∧
    (s.reportDue).distance = s.distance ∧ (s.reportDue).engine = s.engine ∧
    (s.reportDue).intercom = s.intercom ∧ (s.reportDue).pay = s.pay ∧
    (s.reportDue).power = s.power ∧ (s.reportDue).pins = s.pins ∧ (s.reportDue).store = s.store ∧
    (s.reportDue).free = s.free := by
  simp only [State.reportDue]
  (repeat' split) <;> simp

/-- `finishCard` keeps all but link, meter, sign, intercom, pay, acct, writes. -/
@[simp] theorem State.finishCard_keeps (s : State) (t : Tender) (f : CardFields) (r : ReaderResult) (tr : Trigger) :
    (s.finishCard t f r tr).pending = s.pending ∧ (s.finishCard t f r tr).tables = s.tables ∧
    (s.finishCard t f r tr).mgmt = s.mgmt ∧ (s.finishCard t f r tr).notices = s.notices ∧
    (s.finishCard t f r tr).time = s.time ∧ (s.finishCard t f r tr).distance = s.distance ∧
    (s.finishCard t f r tr).engine = s.engine ∧ (s.finishCard t f r tr).power = s.power ∧
    (s.finishCard t f r tr).pins = s.pins ∧ (s.finishCard t f r tr).store = s.store ∧
    (s.finishCard t f r tr).free = s.free := by
  unfold State.finishCard
  split <;> simp

/-- `decideOffline` keeps all but link, notices, meter, sign, intercom, pay, acct, power, writes. -/
@[simp] theorem State.decideOffline_keeps (s : State) :
    (s.decideOffline).pending = s.pending ∧ (s.decideOffline).tables = s.tables ∧
    (s.decideOffline).mgmt = s.mgmt ∧ (s.decideOffline).time = s.time ∧
    (s.decideOffline).distance = s.distance ∧ (s.decideOffline).engine = s.engine ∧
    (s.decideOffline).pins = s.pins ∧ (s.decideOffline).store = s.store ∧
    (s.decideOffline).free = s.free := by
  simp only [State.decideOffline]
  (repeat' split) <;> simp

/-- `testInterlock` keeps all but link, meter, intercom, pay. -/
@[simp] theorem State.testInterlock_keeps (s : State) :
    (s.testInterlock).pending = s.pending ∧ (s.testInterlock).tables = s.tables ∧
    (s.testInterlock).mgmt = s.mgmt ∧ (s.testInterlock).notices = s.notices ∧
    (s.testInterlock).time = s.time ∧ (s.testInterlock).distance = s.distance ∧
    (s.testInterlock).engine = s.engine ∧ (s.testInterlock).sign = s.sign ∧
    (s.testInterlock).acct = s.acct ∧ (s.testInterlock).power = s.power ∧
    (s.testInterlock).pins = s.pins ∧ (s.testInterlock).store = s.store ∧
    (s.testInterlock).writes = s.writes ∧ (s.testInterlock).free = s.free := by
  simp only [State.testInterlock]
  (repeat' split) <;> simp

/-- `completeStep` keeps all but link, engine, meter, acct. -/
@[simp] theorem State.completeStep_keeps (s : State) :
    (s.completeStep).pending = s.pending ∧ (s.completeStep).tables = s.tables ∧
    (s.completeStep).mgmt = s.mgmt ∧ (s.completeStep).notices = s.notices ∧
    (s.completeStep).time = s.time ∧ (s.completeStep).distance = s.distance ∧
    (s.completeStep).sign = s.sign ∧ (s.completeStep).intercom = s.intercom ∧
    (s.completeStep).pay = s.pay ∧ (s.completeStep).power = s.power ∧
    (s.completeStep).pins = s.pins ∧ (s.completeStep).store = s.store ∧
    (s.completeStep).writes = s.writes ∧ (s.completeStep).free = s.free := by
  simp only [State.completeStep]
  (repeat' split) <;> simp

/-- `completeSteps` keeps all but link, engine, meter, acct. -/
@[simp] theorem State.completeSteps_keeps (s : State) (n : Nat) :
    (s.completeSteps n).pending = s.pending ∧ (s.completeSteps n).tables = s.tables ∧
    (s.completeSteps n).mgmt = s.mgmt ∧ (s.completeSteps n).notices = s.notices ∧
    (s.completeSteps n).time = s.time ∧ (s.completeSteps n).distance = s.distance ∧
    (s.completeSteps n).sign = s.sign ∧ (s.completeSteps n).intercom = s.intercom ∧
    (s.completeSteps n).pay = s.pay ∧ (s.completeSteps n).power = s.power ∧
    (s.completeSteps n).pins = s.pins ∧ (s.completeSteps n).store = s.store ∧
    (s.completeSteps n).writes = s.writes ∧ (s.completeSteps n).free = s.free := by
  induction n generalizing s with
  | zero => simp [State.completeSteps]
  | succ n ih => simp [State.completeSteps, ih]

/-- `decideMic` keeps all but link, notices, intercom. -/
@[simp] theorem State.decideMic_keeps (s : State) (side : Side) :
    (s.decideMic side).pending = s.pending ∧ (s.decideMic side).tables = s.tables ∧
    (s.decideMic side).mgmt = s.mgmt ∧ (s.decideMic side).time = s.time ∧
    (s.decideMic side).distance = s.distance ∧ (s.decideMic side).engine = s.engine ∧
    (s.decideMic side).meter = s.meter ∧ (s.decideMic side).sign = s.sign ∧
    (s.decideMic side).pay = s.pay ∧ (s.decideMic side).acct = s.acct ∧
    (s.decideMic side).power = s.power ∧ (s.decideMic side).pins = s.pins ∧
    (s.decideMic side).store = s.store ∧ (s.decideMic side).writes = s.writes ∧
    (s.decideMic side).free = s.free := by
  simp only [State.decideMic]
  (repeat' split) <;> simp

/-- `blockBoundary` keeps all but link, notices, intercom. -/
@[simp] theorem State.blockBoundary_keeps (s : State) :
    (s.blockBoundary).pending = s.pending ∧ (s.blockBoundary).tables = s.tables ∧
    (s.blockBoundary).mgmt = s.mgmt ∧ (s.blockBoundary).time = s.time ∧
    (s.blockBoundary).distance = s.distance ∧ (s.blockBoundary).engine = s.engine ∧
    (s.blockBoundary).meter = s.meter ∧ (s.blockBoundary).sign = s.sign ∧
    (s.blockBoundary).pay = s.pay ∧ (s.blockBoundary).acct = s.acct ∧
    (s.blockBoundary).power = s.power ∧ (s.blockBoundary).pins = s.pins ∧
    (s.blockBoundary).store = s.store ∧ (s.blockBoundary).writes = s.writes ∧
    (s.blockBoundary).free = s.free := by
  simp only [State.blockBoundary]
  split <;> simp

/-- A block in progress has no boundary (8.3). -/
theorem State.blockBoundary_in {s : State} (h : s.intercom.position < blockLength) :
    s.blockBoundary = s := by
  simp [State.blockBoundary, h]

/-- `openSegment` keeps all but engine, meter. -/
@[simp] theorem State.openSegment_keeps (s : State) (n : Nat) (t : Tariff) :
    (s.openSegment n t).pending = s.pending ∧ (s.openSegment n t).link = s.link ∧
    (s.openSegment n t).tables = s.tables ∧ (s.openSegment n t).mgmt = s.mgmt ∧
    (s.openSegment n t).notices = s.notices ∧ (s.openSegment n t).time = s.time ∧
    (s.openSegment n t).distance = s.distance ∧ (s.openSegment n t).sign = s.sign ∧
    (s.openSegment n t).intercom = s.intercom ∧ (s.openSegment n t).pay = s.pay ∧
    (s.openSegment n t).acct = s.acct ∧ (s.openSegment n t).power = s.power ∧
    (s.openSegment n t).pins = s.pins ∧ (s.openSegment n t).store = s.store ∧
    (s.openSegment n t).writes = s.writes ∧ (s.openSegment n t).free = s.free := by
  simp [State.openSegment]

/-- `followBand` keeps all but engine, meter. -/
@[simp] theorem State.followBand_keeps (s : State) (b : Option Nat) :
    ((s.followBand b).1).pending = s.pending ∧ ((s.followBand b).1).link = s.link ∧
    ((s.followBand b).1).tables = s.tables ∧ ((s.followBand b).1).mgmt = s.mgmt ∧
    ((s.followBand b).1).notices = s.notices ∧ ((s.followBand b).1).time = s.time ∧
    ((s.followBand b).1).distance = s.distance ∧ ((s.followBand b).1).sign = s.sign ∧
    ((s.followBand b).1).intercom = s.intercom ∧ ((s.followBand b).1).pay = s.pay ∧
    ((s.followBand b).1).acct = s.acct ∧ ((s.followBand b).1).power = s.power ∧
    ((s.followBand b).1).pins = s.pins ∧ ((s.followBand b).1).store = s.store ∧
    ((s.followBand b).1).writes = s.writes ∧ ((s.followBand b).1).free = s.free := by
  unfold State.followBand
  (repeat' split) <;> simp

/-- `bandChange` keeps all but engine, meter. -/
@[simp] theorem State.bandChange_keeps (s : State) (b : Option Nat) :
    (s.bandChange b).pending = s.pending ∧ (s.bandChange b).link = s.link ∧
    (s.bandChange b).tables = s.tables ∧ (s.bandChange b).mgmt = s.mgmt ∧
    (s.bandChange b).notices = s.notices ∧ (s.bandChange b).time = s.time ∧
    (s.bandChange b).distance = s.distance ∧ (s.bandChange b).sign = s.sign ∧
    (s.bandChange b).intercom = s.intercom ∧ (s.bandChange b).pay = s.pay ∧
    (s.bandChange b).acct = s.acct ∧ (s.bandChange b).power = s.power ∧
    (s.bandChange b).pins = s.pins ∧ (s.bandChange b).store = s.store ∧
    (s.bandChange b).writes = s.writes ∧ (s.bandChange b).free = s.free := by
  unfold State.bandChange
  split <;> simp

/-- `evaluateBand` keeps all but link, time, engine, meter. -/
@[simp] theorem State.evaluateBand_keeps (s : State) :
    (s.evaluateBand).pending = s.pending ∧ (s.evaluateBand).tables = s.tables ∧
    (s.evaluateBand).mgmt = s.mgmt ∧ (s.evaluateBand).notices = s.notices ∧
    (s.evaluateBand).distance = s.distance ∧ (s.evaluateBand).sign = s.sign ∧
    (s.evaluateBand).intercom = s.intercom ∧ (s.evaluateBand).pay = s.pay ∧
    (s.evaluateBand).acct = s.acct ∧ (s.evaluateBand).power = s.power ∧
    (s.evaluateBand).pins = s.pins ∧ (s.evaluateBand).store = s.store ∧
    (s.evaluateBand).writes = s.writes ∧ (s.evaluateBand).free = s.free := by
  simp only [State.evaluateBand]
  (repeat' split) <;> simp

/-- `readerLost` keeps all but link, meter, pay. -/
@[simp] theorem State.readerLost_keeps (s : State) :
    (s.readerLost).pending = s.pending ∧ (s.readerLost).tables = s.tables ∧
    (s.readerLost).mgmt = s.mgmt ∧ (s.readerLost).notices = s.notices ∧
    (s.readerLost).time = s.time ∧ (s.readerLost).distance = s.distance ∧
    (s.readerLost).engine = s.engine ∧ (s.readerLost).sign = s.sign ∧
    (s.readerLost).intercom = s.intercom ∧ (s.readerLost).acct = s.acct ∧
    (s.readerLost).power = s.power ∧ (s.readerLost).pins = s.pins ∧ (s.readerLost).store = s.store ∧
    (s.readerLost).writes = s.writes ∧ (s.readerLost).free = s.free := by
  unfold State.readerLost
  split <;> simp

/-- `modemLost` keeps all but link, notices, meter, sign, intercom, pay, acct, power, writes. -/
@[simp] theorem State.modemLost_keeps (s : State) :
    (s.modemLost).pending = s.pending ∧ (s.modemLost).tables = s.tables ∧
    (s.modemLost).mgmt = s.mgmt ∧ (s.modemLost).time = s.time ∧
    (s.modemLost).distance = s.distance ∧ (s.modemLost).engine = s.engine ∧
    (s.modemLost).pins = s.pins ∧ (s.modemLost).store = s.store ∧ (s.modemLost).free = s.free := by
  unfold State.modemLost
  split <;> simp

/-- `watchHolder` keeps all but mgmt. -/
@[simp] theorem State.watchHolder_keeps (s : State) (t : State) :
    (t.watchHolder s).pending = s.pending ∧ (t.watchHolder s).link = s.link ∧
    (t.watchHolder s).tables = s.tables ∧ (t.watchHolder s).notices = s.notices ∧
    (t.watchHolder s).time = s.time ∧ (t.watchHolder s).distance = s.distance ∧
    (t.watchHolder s).engine = s.engine ∧ (t.watchHolder s).meter = s.meter ∧
    (t.watchHolder s).sign = s.sign ∧ (t.watchHolder s).intercom = s.intercom ∧
    (t.watchHolder s).pay = s.pay ∧ (t.watchHolder s).acct = s.acct ∧
    (t.watchHolder s).power = s.power ∧ (t.watchHolder s).pins = s.pins ∧
    (t.watchHolder s).store = s.store ∧ (t.watchHolder s).writes = s.writes ∧
    (t.watchHolder s).free = s.free := by
  simp only [State.watchHolder]
  (repeat' split) <;> simp

/-- `viewAvailable` keeps all but link, meter. -/
@[simp] theorem State.viewAvailable_keeps (s : State) (t : State) (d : ViewDest) :
    (t.viewAvailable s d).pending = s.pending ∧ (t.viewAvailable s d).tables = s.tables ∧
    (t.viewAvailable s d).mgmt = s.mgmt ∧ (t.viewAvailable s d).notices = s.notices ∧
    (t.viewAvailable s d).time = s.time ∧ (t.viewAvailable s d).distance = s.distance ∧
    (t.viewAvailable s d).engine = s.engine ∧ (t.viewAvailable s d).sign = s.sign ∧
    (t.viewAvailable s d).intercom = s.intercom ∧ (t.viewAvailable s d).pay = s.pay ∧
    (t.viewAvailable s d).acct = s.acct ∧ (t.viewAvailable s d).power = s.power ∧
    (t.viewAvailable s d).pins = s.pins ∧ (t.viewAvailable s d).store = s.store ∧
    (t.viewAvailable s d).writes = s.writes ∧ (t.viewAvailable s d).free = s.free := by
  unfold State.viewAvailable
  split <;> simp

/-- `followPresence` keeps all but link, mgmt, notices, meter, sign, intercom, pay, acct, power, writes. -/
@[simp] theorem State.followPresence_keeps (s : State) (t : State) :
    (t.followPresence s).pending = s.pending ∧ (t.followPresence s).tables = s.tables ∧
    (t.followPresence s).time = s.time ∧ (t.followPresence s).distance = s.distance ∧
    (t.followPresence s).engine = s.engine ∧ (t.followPresence s).pins = s.pins ∧
    (t.followPresence s).store = s.store ∧ (t.followPresence s).free = s.free := by
  simp only [State.followPresence]
  (repeat' split) <;> simp

/-- `opportunity` keeps all but link. -/
@[simp] theorem State.opportunity_keeps (s : State) (seg : Seg) :
    (s.opportunity seg).pending = s.pending ∧ (s.opportunity seg).tables = s.tables ∧
    (s.opportunity seg).mgmt = s.mgmt ∧ (s.opportunity seg).notices = s.notices ∧
    (s.opportunity seg).time = s.time ∧ (s.opportunity seg).distance = s.distance ∧
    (s.opportunity seg).engine = s.engine ∧ (s.opportunity seg).meter = s.meter ∧
    (s.opportunity seg).sign = s.sign ∧ (s.opportunity seg).intercom = s.intercom ∧
    (s.opportunity seg).pay = s.pay ∧ (s.opportunity seg).acct = s.acct ∧
    (s.opportunity seg).power = s.power ∧ (s.opportunity seg).pins = s.pins ∧
    (s.opportunity seg).store = s.store ∧ (s.opportunity seg).writes = s.writes ∧
    (s.opportunity seg).free = s.free := by
  simp only [State.opportunity]
  (repeat' split) <;> simp

/-- `beginApplication` keeps all but acct, writes. -/
@[simp] theorem State.beginApplication_keeps (s : State) (st : Staged) (o : AppOrigin) :
    (s.beginApplication st o).pending = s.pending ∧ (s.beginApplication st o).link = s.link ∧
    (s.beginApplication st o).tables = s.tables ∧ (s.beginApplication st o).mgmt = s.mgmt ∧
    (s.beginApplication st o).notices = s.notices ∧ (s.beginApplication st o).time = s.time ∧
    (s.beginApplication st o).distance = s.distance ∧ (s.beginApplication st o).engine = s.engine ∧
    (s.beginApplication st o).meter = s.meter ∧ (s.beginApplication st o).sign = s.sign ∧
    (s.beginApplication st o).intercom = s.intercom ∧ (s.beginApplication st o).pay = s.pay ∧
    (s.beginApplication st o).power = s.power ∧ (s.beginApplication st o).pins = s.pins ∧
    (s.beginApplication st o).store = s.store ∧ (s.beginApplication st o).free = s.free := by
  simp [State.beginApplication]

/-- `portsStarted` keeps all but link, notices, meter, pay. -/
@[simp] theorem State.portsStarted_keeps (s : State) :
    (s.portsStarted).pending = s.pending ∧ (s.portsStarted).tables = s.tables ∧
    (s.portsStarted).mgmt = s.mgmt ∧ (s.portsStarted).time = s.time ∧
    (s.portsStarted).distance = s.distance ∧ (s.portsStarted).engine = s.engine ∧
    (s.portsStarted).sign = s.sign ∧ (s.portsStarted).intercom = s.intercom ∧
    (s.portsStarted).acct = s.acct ∧ (s.portsStarted).power = s.power ∧
    (s.portsStarted).pins = s.pins ∧ (s.portsStarted).store = s.store ∧
    (s.portsStarted).writes = s.writes ∧ (s.portsStarted).free = s.free := by
  simp [State.portsStarted]

/-- `endExchange` keeps all but link, mgmt, notices, meter, sign, intercom, pay, acct, power, writes. -/
@[simp] theorem State.endExchange_keeps (s : State) (seg : Seg) (a : Bool) :
    (s.endExchange seg a).pending = s.pending ∧ (s.endExchange seg a).tables = s.tables ∧
    (s.endExchange seg a).time = s.time ∧ (s.endExchange seg a).distance = s.distance ∧
    (s.endExchange seg a).engine = s.engine ∧ (s.endExchange seg a).pins = s.pins ∧
    (s.endExchange seg a).store = s.store ∧ (s.endExchange seg a).free = s.free := by
  simp only [State.endExchange]
  (repeat' split) <;> simp

/-- `afterExchange` keeps all but link. -/
@[simp] theorem State.afterExchange_keeps (s : State) (seg : Seg) :
    (s.afterExchange seg).pending = s.pending ∧ (s.afterExchange seg).tables = s.tables ∧
    (s.afterExchange seg).mgmt = s.mgmt ∧ (s.afterExchange seg).notices = s.notices ∧
    (s.afterExchange seg).time = s.time ∧ (s.afterExchange seg).distance = s.distance ∧
    (s.afterExchange seg).engine = s.engine ∧ (s.afterExchange seg).meter = s.meter ∧
    (s.afterExchange seg).sign = s.sign ∧ (s.afterExchange seg).intercom = s.intercom ∧
    (s.afterExchange seg).pay = s.pay ∧ (s.afterExchange seg).acct = s.acct ∧
    (s.afterExchange seg).power = s.power ∧ (s.afterExchange seg).pins = s.pins ∧
    (s.afterExchange seg).store = s.store ∧ (s.afterExchange seg).writes = s.writes ∧
    (s.afterExchange seg).free = s.free := by
  unfold State.afterExchange
  split <;> simp

/-- `missExchange` keeps all but link, mgmt, notices, meter, sign, intercom, pay, acct, power, writes. -/
@[simp] theorem State.missExchange_keeps (s : State) (seg : Seg) :
    (s.missExchange seg).pending = s.pending ∧ (s.missExchange seg).tables = s.tables ∧
    (s.missExchange seg).time = s.time ∧ (s.missExchange seg).distance = s.distance ∧
    (s.missExchange seg).engine = s.engine ∧ (s.missExchange seg).pins = s.pins ∧
    (s.missExchange seg).store = s.store ∧ (s.missExchange seg).free = s.free := by
  unfold State.missExchange
  split <;> simp

end Sys2Proof.Machine
end

