-- ==== Sys2Proof/Laws/Answers.lean ====
section
/-! SUPPORT. How a request reaches its decision and how an answer joins the front transmit queue, as
equations, and what two states that differ in few parts agree in. -/

namespace Sys2Proof.Machine

open Sys2Proof

/-- `sameBut` from an equation for each part outside the list. -/
theorem State.sameBut_of {l : List Part} {s t : State} (h : ∀ p, p ∉ l → p.same s t) : s.sameBut l t :=
  h

/-- A role's node lies on the role's segment (R17). -/
theorem State.holder_seg {s : State} {r : Role} {a : NodeAddr} (h : s.holder r = some a) :
    a.seg = roleSeg r := by
  unfold State.holder at h
  obtain ⟨i, -, rfl⟩ := Option.map_eq_some_iff.mp h
  rfl

/-- An own frame offered on the front segment while the front port runs (R10). -/
theorem State.send_front {s : State} {dst : NodeAddr} (c : Content) (h : dst.seg = .front)
    (hr : s.link.front.running = true) :
    s.send dst c =
      { s with
        link :=
          { s.link with
            front := { s.link.front with queue := joined s.link.front.queue (.own .front dst c) } } } := by
  unfold State.send State.offer State.offerFrame joined
  by_cases hq : s.link.front.queue.length < 24
  · simp [h, State.accepts, State.port, hr, hq, State.modPort]
  · have ha : s.accepts dst.seg = false := by simp [h, State.accepts, State.port, hq]
    rw [ha, if_neg hq]
    rfl

/-- A management answer to a front node (R24). -/
theorem State.mgmtRespond_front {s : State} {rq : Req} (op : OpName) (t : Target) (r : MgmtResult)
    (d : RespData) (h : rq.src.seg = .front) (hr : s.link.front.running = true) :
    s.mgmtRespond rq op t r d =
      { s with
        link :=
          { s.link with
            front :=
              { s.link.front with queue := joined s.link.front.queue (mgmtAnswer rq op t r d) } } } :=
  State.send_front _ h hr

/-- A console answer to the CONSOLE node (R94). -/
theorem State.consoleRespond_front {s : State} {rq : Req} (n : ConsoleName) (r : ConsoleResult)
    (d : ConsoleData) (h : s.holder .console = some rq.src) (hr : s.link.front.running = true) :
    s.consoleRespond rq n r d =
      { s with
        link :=
          { s.link with
            front :=
              { s.link.front with queue := joined s.link.front.queue (consoleAnswer rq n r d) } } } := by
  unfold State.consoleRespond State.offerRole
  rw [h]
  exact State.send_front _ (State.holder_seg h) hr

/-- The front port runs when it takes frames for the part. -/
theorem State.running_of_receives {s : State} {seg : Seg} (h : s.receives seg = true) :
    (s.port seg).running = true := by
  simp [State.receives] at h
  exact h.1.2

/-- A part that takes frames is powered. -/
theorem State.powered_of_receives {s : State} {seg : Seg} (h : s.receives seg = true) :
    s.powered = true := by
  simp [State.receives] at h
  exact h.1.1

/-- A node with authority is configured (R13, R25). -/
theorem State.configured_of_authorised {s : State} {op : OpName} {a : NodeAddr}
    (h : authorised op (s.roleEntry a) = true) : s.configured a = true := by
  unfold State.configured
  cases hr : s.roleEntry a with
  | none => rw [hr] at h; cases op <;> simp [authorised] at h
  | generic => decide
  | named r => cases r <;> decide

/-- A management request from an authorised front node reaches its rule. -/
theorem State.whenMgmt_of {s : State} {op : OpName} {rq : Req} (k : State → State)
    (h : s.fromMgmt op rq) : s.whenMgmt rq k = k s := by
  obtain ⟨h1, h2, h3⟩ := h
  simp [State.whenMgmt, State.checkMgmtSender, h2, h1, State.configured_of_authorised h3]

/-- Checks 2 and 3 of R25 pass. -/
theorem State.whenAllowed_of {s : State} {op : OpName} {rq : Req} (t : Target) (k : State → State)
    (h : authorised op (s.roleEntry rq.src) = true) : s.whenAllowed rq op t true k = k s := by
  simp [State.whenAllowed, h]

/-- A console request from the CONSOLE node reaches its rule. -/
theorem State.whenConsole_of {s : State} {rq : Req} (k : State → State) (h : s.fromConsole rq) :
    s.whenConsole rq k = k s := by
  have := State.holder_seg h.2
  simp only [roleSeg] at this
  simp [State.whenConsole, State.checkConsoleSender, this, h.1, h.2]

/-- A frame of a role's node reaches its block. -/
theorem State.whenFrom_of {s : State} {r : Role} {src : NodeAddr} (k : State → State)
    (h : s.fromRole r src) : s.whenFrom r src k = k s := by
  simp [State.whenFrom, State.checkSender, h.1, h.2]

/-- In RUN a request passes its power check (R95). -/
theorem State.whenRun_of {s : State} {rq : Req} {n : ConsoleName} (k : State → State)
    (h : s.power.state = .run) : s.whenRun rq n k = k s := by
  simp [State.whenRun, h]

/-- A powered part takes the effect. -/
theorem State.whenPowered_of {s : State} (k : State → State) (h : s.powered = true) :
    s.whenPowered k = k s := by
  simp [State.whenPowered, h]

/-- The oldest write, when no write stands before it that completes by itself (R36). -/
theorem State.takeWrite_cons {s : State} {w : StoreWrite} {rest : List StoreWrite}
    (kind : StoreWrite → Bool) (h : s.writes = w :: rest) (hs : s.silent w = false)
    (hk : kind w = true) :
    s.takeWrite kind = some (w, State.completeWrite { s with writes := rest } w) := by
  simp [State.takeWrite, h, hs, hk]

end Sys2Proof.Machine
end

