-- ==== Sys2Proof/Laws/Link.lean ====
section
/-! SUPPORT. The operations that touch nothing of the link but its transmit queues: the link with both
transmit queues set aside is the same after them. -/

namespace Sys2Proof.Machine

open Sys2Proof

/-- A link with its transmit queues set aside. -/
def Link.still (l : Link) : Link :=
  { l with front := { l.front with queue := [] }, rear := { l.rear with queue := [] } }

@[simp] theorem State.offerFrame_still (s : State) (seg : Seg) (f : Frame) :
    (s.offerFrame seg f).1.link.still = s.link.still := by
  unfold State.offerFrame
  split <;> cases seg <;> simp [State.modPort, Link.still]

@[simp] theorem State.offer_still (s : State) (dst : NodeAddr) (c : Content) :
    (s.offer dst c).1.link.still = s.link.still := by simp [State.offer]

@[simp] theorem State.send_still (s : State) (dst : NodeAddr) (c : Content) :
    (s.send dst c).link.still = s.link.still := by simp [State.send]

@[simp] theorem State.offerRole_still (s : State) (r : Role) (c : Content) :
    (s.offerRole r c).1.link.still = s.link.still := by
  unfold State.offerRole
  split <;> simp

@[simp] theorem State.mgmtRespond_still (s : State) (rq : Req) (op : OpName) (t : Target)
    (r : MgmtResult) (d : RespData) : (s.mgmtRespond rq op t r d).link.still = s.link.still := by
  simp [State.mgmtRespond]

@[simp] theorem State.consoleRespond_still (s : State) (rq : Req) (n : ConsoleName)
    (r : ConsoleResult) (d : ConsoleData) :
    (s.consoleRespond rq n r d).link.still = s.link.still := by
  simp [State.consoleRespond]

/-- What a tested offer leaves of the link. -/
theorem State.offerRole_still_of {s s' : State} {r : Role} {c : Content} {b : Bool}
    (h : s.offerRole r c = (s', b)) : s'.link.still = s.link.still := by
  have := State.offerRole_still s r c
  rw [h] at this
  exact this

@[simp] theorem State.drainRoute_still (s : State) (r : Role) (e : NoticeEntry) (m : RouteMark) :
    (s.drainRoute r e m).1.link.still = s.link.still := by
  unfold State.drainRoute
  split
  · split <;> exact State.offerRole_still_of ‹_›
  all_goals rfl

/-- What a taken route leaves of the link. -/
theorem State.drainRoute_still_of {s s' : State} {r : Role} {e : NoticeEntry} {m m' : RouteMark}
    {b : Bool} (h : s.drainRoute r e m = (s', m', b)) : s'.link.still = s.link.still := by
  have := State.drainRoute_still s r e m
  rw [h] at this
  exact this

@[simp] theorem State.drainHead_still (s : State) (e : NoticeEntry) :
    (s.drainHead e).1.link.still = s.link.still := by
  unfold State.drainHead
  split
  · exact State.drainRoute_still_of ‹_›
  · next h1 =>
    split
    next h2 => exact (State.drainRoute_still_of h2).trans (State.drainRoute_still_of h1)

@[simp] theorem State.drainLoop_still (s : State) (n : Nat) :
    (s.drainLoop n).link.still = s.link.still := by
  induction n generalizing s with
  | zero => rfl
  | succ n ih =>
    simp only [State.drainLoop]
    split
    · rfl
    · next e _ =>
      have h := State.drainHead_still s e
      split
      · exact h
      · rw [ih]
        exact h

@[simp] theorem State.drain_still (s : State) :
    (s.drain).link.still = s.link.still := by
  unfold State.drain
  split <;> simp

@[simp] theorem State.offerNotice_still (s : State) (n : Notice) :
    (s.offerNotice n).link.still = s.link.still := by
  unfold State.offerNotice
  split <;> simp

@[simp] theorem State.tryView_still (s : State) (d : ViewDest) :
    (s.tryView d).link.still = s.link.still := by
  simp only [State.tryView]
  split
  · split
    · rw [(State.modView_keeps _ _ _).2.1]
      exact State.offerRole_still_of ‹_›
    · exact State.offerRole_still_of ‹_›
  · rfl

@[simp] theorem State.markViews_still (s : State) :
    (s.markViews).link.still = s.link.still := by
  simp [State.markViews]

@[simp] theorem State.begin_still (s : State) (w : StoreWrite) :
    (s.begin w).link.still = s.link.still := by
  simp [State.begin]

@[simp] theorem State.beginCarrying_still (s : State) (w : StoreWrite) :
    (s.beginCarrying w).link.still = s.link.still := by
  simp [State.beginCarrying]

@[simp] theorem State.restartCheckpointTimer_still (s : State) :
    (s.restartCheckpointTimer).link.still = s.link.still := by
  unfold State.restartCheckpointTimer
  split <;> simp

@[simp] theorem State.beginCheckpoint_still (s : State) (r : Option Ref) :
    (s.beginCheckpoint r).link.still = s.link.still := by
  simp [State.beginCheckpoint]

@[simp] theorem State.beginSave_still (s : State) (m : SaveMark) :
    (s.beginSave m).link.still = s.link.still := by
  simp [State.beginSave]

@[simp] theorem State.reportTo_still (s : State) (r : Role) (x : ShiftRecord) (m : ReportMark) :
    ((s.reportTo r x m).1).link.still = s.link.still := by
  unfold State.reportTo
  split <;> simp

@[simp] theorem State.reportShift_still (s : State) (l : LastShift) :
    (s.reportShift l).link.still = s.link.still := by
  simp [State.reportShift]

@[simp] theorem State.completeWrite_still (s : State) (w : StoreWrite) :
    (s.completeWrite w).link.still = s.link.still := by
  unfold State.completeWrite
  split <;> simp

@[simp] theorem State.recompose_still (s : State) :
    (s.recompose).link.still = s.link.still := by
  simp [State.recompose]

@[simp] theorem State.withIntercom_still (s : State) (i : Intercom) :
    (s.withIntercom i).link.still = s.link.still := by
  simp [State.withIntercom]

@[simp] theorem State.followMeter_still (s : State) :
    (s.followMeter).link.still = s.link.still := by
  simp only [State.followMeter]
  split <;> simp

@[simp] theorem State.requestPrompt_still (s : State) (i : Nat) :
    ((s.requestPrompt i).1).link.still = s.link.still := by
  simp only [State.requestPrompt]
  split
  · simp
  · split <;> simp

@[simp] theorem State.trigger_still (s : State) (t : Trigger) :
    (s.trigger t).link.still = s.link.still := by
  simp only [State.trigger]
  repeat' split
  all_goals simp

@[simp] theorem State.endPrompt_still (s : State) :
    (s.endPrompt).link.still = s.link.still := by
  unfold State.endPrompt
  (repeat' split) <;> simp

@[simp] theorem State.endTest_still (s : State) :
    (s.endTest).link.still = s.link.still := by
  unfold State.endTest
  split <;> simp

@[simp] theorem State.monitorOn_still (s : State) :
    (s.monitorOn).link.still = s.link.still := by
  simp [State.monitorOn]

@[simp] theorem State.monitorOff_still (s : State) :
    (s.monitorOff).link.still = s.link.still := by
  simp [State.monitorOff]

@[simp] theorem State.monitorPause_still (s : State) :
    (s.monitorPause).link.still = s.link.still := by
  simp only [State.monitorPause]
  split <;> simp

@[simp] theorem State.monitorResume_still (s : State) :
    (s.monitorResume).link.still = s.link.still := by
  simp only [State.monitorResume]
  split <;> simp

@[simp] theorem State.endSpeakerTest_still (s : State) (o : TestOutcome) (a b : Nat) :
    (s.endSpeakerTest o a b).link.still = s.link.still := by
  unfold State.endSpeakerTest
  split <;> simp

@[simp] theorem State.abortSpeakerTest_still (s : State) :
    (s.abortSpeakerTest).link.still = s.link.still := by
  simp [State.abortSpeakerTest]

@[simp] theorem State.measureTest_still (s : State) :
    (s.measureTest).link.still = s.link.still := by
  unfold State.measureTest
  split <;> simp

@[simp] theorem State.stopIntercom_still (s : State) (r : RunState) :
    (s.stopIntercom r).link.still = s.link.still := by
  unfold State.stopIntercom
  split <;> simp

@[simp] theorem State.startIntercom_still (s : State) (d : Nat) :
    (s.startIntercom d).link.still = s.link.still := by
  simp only [State.startIntercom]
  split <;> simp

@[simp] theorem State.setMeterState_still (s : State) (m : MeterState) :
    (s.setMeterState m).link.still = s.link.still := by
  unfold State.setMeterState
  split <;> simp

@[simp] theorem State.limitTold_still (s : State) :
    (s.limitTold).link.still = s.link.still := by
  unfold State.limitTold
  split <;> simp

@[simp] theorem State.modTrip_still (s : State) (f : TripRecord → TripRecord) :
    (s.modTrip f).link.still = s.link.still := by
  simp [State.modTrip]

@[simp] theorem State.modShift_still (s : State) (f : ShiftRecord → ShiftRecord) :
    (s.modShift f).link.still = s.link.still := by
  simp [State.modShift]

@[simp] theorem State.openSegment_still (s : State) (n : Nat) (t : Tariff) :
    (s.openSegment n t).link.still = s.link.still := by
  simp [State.openSegment]

@[simp] theorem State.followBand_still (s : State) (b : Option Nat) :
    ((s.followBand b).1).link.still = s.link.still := by
  simp only [State.followBand]
  repeat' split
  all_goals simp

@[simp] theorem State.bandChange_still (s : State) (b : Option Nat) :
    (s.bandChange b).link.still = s.link.still := by
  unfold State.bandChange
  split <;> simp

@[simp] theorem State.evaluateBand_still (s : State) :
    (s.evaluateBand).link.still = s.link.still := by
  simp only [State.evaluateBand]
  split <;> simp

@[simp] theorem State.modCounters_still (s : State) (f : PayCounters → PayCounters) :
    (s.modCounters f).link.still = s.link.still := by
  simp [State.modCounters]

@[simp] theorem State.setSession_still (s : State) (x : Session) :
    (s.setSession x).link.still = s.link.still := by
  simp only [State.setSession]
  split <;> simp

@[simp] theorem State.modTender_still (s : State) (i : Nat) (f : Tender → Tender) :
    (s.modTender i f).link.still = s.link.still := by
  simp [State.modTender]

@[simp] theorem State.replyReader_still (s : State) (q : Nat) (r : ReaderResult) (t : Option ReplyTender) :
    (s.replyReader q r t).link.still = s.link.still := by
  unfold State.replyReader
  split
  · exact State.offerRole_still_of ‹_›
  · rw [(State.modCounters_keeps _ _).2.1]
    exact State.offerRole_still_of ‹_›

@[simp] theorem State.tryAdvice_still (s : State) :
    (s.tryAdvice).link.still = s.link.still := by
  unfold State.tryAdvice
  split
  · rfl
  · split
    · split
      · next h =>
        have k := State.offerRole_still_of h
        exact k
      · next h =>
        have k := State.offerRole_still_of h
        exact k
    · rfl

@[simp] theorem State.joinAdvice_still (s : State) (r : AdviceRecord) :
    (s.joinAdvice r).link.still = s.link.still := by
  simp only [State.joinAdvice]
  repeat' split
  all_goals simp

@[simp] theorem State.removeAdvice_still (s : State) (r : AdviceRecord) :
    (s.removeAdvice r).link.still = s.link.still := by
  simp [State.removeAdvice]

@[simp] theorem State.disputeAdvice_still (s : State) (r : AdviceRecord) :
    (s.disputeAdvice r).link.still = s.link.still := by
  simp [State.disputeAdvice]

@[simp] theorem State.endSession_still (s : State) :
    (s.endSession).link.still = s.link.still := by
  simp only [State.endSession]
  split <;> simp

@[simp] theorem State.beginCloseUpdate_still (s : State) (r : TripRecord) :
    (s.beginCloseUpdate r).link.still = s.link.still := by
  simp [State.beginCloseUpdate]

@[simp] theorem State.beginClose_still (s : State) (u : Nat) :
    (s.beginClose u).link.still = s.link.still := by
  unfold State.beginClose
  split <;> simp

@[simp] theorem State.reportDue_still (s : State) :
    (s.reportDue).link.still = s.link.still := by
  simp only [State.reportDue]
  split <;> simp

@[simp] theorem State.finishCard_still (s : State) (t : Tender) (f : CardFields) (r : ReaderResult) (tr : Trigger) :
    (s.finishCard t f r tr).link.still = s.link.still := by
  unfold State.finishCard
  split <;> simp

@[simp] theorem State.decideOffline_still (s : State) :
    (s.decideOffline).link.still = s.link.still := by
  simp only [State.decideOffline]
  repeat' split
  all_goals simp

@[simp] theorem State.testInterlock_still (s : State) :
    (s.testInterlock).link.still = s.link.still := by
  simp only [State.testInterlock]
  split <;> simp

@[simp] theorem State.activateEmergency_still (s : State) :
    (s.activateEmergency).link.still = s.link.still := by
  simp [State.activateEmergency]

@[simp] theorem State.clearEmergency_still (s : State) (c : ClearCause) :
    (s.clearEmergency c).link.still = s.link.still := by
  simp [State.clearEmergency]

@[simp] theorem State.holdExpires_still (s : State) :
    (s.holdExpires).link.still = s.link.still := by
  simp only [State.holdExpires]
  repeat' split
  all_goals simp

@[simp] theorem State.readerLost_still (s : State) :
    (s.readerLost).link.still = s.link.still := by
  unfold State.readerLost
  split <;> simp

@[simp] theorem State.modemLost_still (s : State) :
    (s.modemLost).link.still = s.link.still := by
  unfold State.modemLost
  split <;> simp

@[simp] theorem State.watchHolder_still (s : State) (t : State) :
    (t.watchHolder s).link.still = s.link.still := by
  simp only [State.watchHolder]
  repeat' split
  all_goals simp

@[simp] theorem State.viewAvailable_still (s : State) (t : State) (d : ViewDest) :
    (t.viewAvailable s d).link.still = s.link.still := by
  unfold State.viewAvailable
  split <;> simp

@[simp] theorem State.followPresence_still (s : State) (t : State) :
    (t.followPresence s).link.still = s.link.still := by
  simp only [State.followPresence]
  repeat' split
  all_goals simp

@[simp] theorem State.portsStarted_still (s : State) :
    (s.portsStarted).link.still = s.link.still := by
  simp [State.portsStarted]

/-- What a link with its transmit queues set aside says of a port. -/
theorem State.port_of_still {s t : State} (h : t.link.still = s.link.still) (seg : Seg) :
    t.port seg = { s.port seg with queue := (t.port seg).queue } := by
  cases seg
  · exact congrArg (fun l : Link => { l.front with queue := t.link.front.queue }) h
  · exact congrArg (fun l : Link => { l.rear with queue := t.link.rear.queue }) h

/-- What a link with its transmit queues set aside says of the link. -/
theorem State.link_of_still {s t : State} (h : t.link.still = s.link.still) :
    t.link =
      { s.link with
        front := { s.link.front with queue := t.link.front.queue }
        rear := { s.link.rear with queue := t.link.rear.queue } } :=
  congrArg
    (fun l : Link =>
      { l with
        front := { l.front with queue := t.link.front.queue }
        rear := { l.rear with queue := t.link.rear.queue } }) h

end Sys2Proof.Machine
end

