-- ==== Sys2Proof/Laws/Values.lean ====
section
/-! SUPPORT. What the shared operations of notices, views and presence give: sequence numbers, and transmit
queues that only grow. -/

namespace Sys2Proof.Machine

open Sys2Proof

/-! ### The pending commit slot (R31, R34) -/

/-- With no removal of the object waiting, an application takes its copy out of the slot (R34). -/
theorem State.slotApplied_of_not_mem {s : State} {st : Staged} (o : AppOrigin)
    (h : StoreWrite.slotRemove st.isTariff ∉ s.writes) :
    s.slotApplied st o = s.mgmt.slot.applied st o := by
  simp [State.slotApplied, h]

/-- A copy withdrawn since has left the slot already, which then stands as it is (R31). -/
theorem State.slotApplied_of_mem {s : State} {st : Staged} (o : AppOrigin)
    (h : StoreWrite.slotRemove st.isTariff ∈ s.writes) : s.slotApplied st o = s.mgmt.slot := by
  simp [State.slotApplied, h]

/-! ### Notice numbers (R38) -/

/-- An offered entry takes a number whether or not it joins (R38). -/
theorem NoticeQueue.enqueue_nextSeq (q : NoticeQueue) (e : NoticeEntry) :
    (q.enqueue e).1.nextSeq = (q.nextSeq + 1) % 65536 := by
  unfold NoticeQueue.enqueue
  simp only [wrap16]
  repeat' split
  all_goals rfl

/-- A drain takes no number (R39). -/
theorem State.drainLoop_nextSeq (n : Nat) (s : State) :
    (s.drainLoop n).notices.nextSeq = s.notices.nextSeq := by
  induction n generalizing s with
  | zero => rfl
  | succ n ih =>
    simp only [State.drainLoop]
    split
    · rfl
    · split <;> simp [ih]

/-- A drain attempt takes no number (R39). -/
@[simp] theorem State.drain_nextSeq (s : State) : s.drain.notices.nextSeq = s.notices.nextSeq := by
  unfold State.drain
  split <;> simp [State.drainLoop_nextSeq]

/-- An offered notice takes the next number (R38). -/
@[simp] theorem State.offerNotice_nextSeq (s : State) (n : Notice) :
    (s.offerNotice n).notices.nextSeq = (s.notices.nextSeq + 1) % 65536 := by
  have h := NoticeQueue.enqueue_nextSeq s.notices (s.noticeEntry n)
  unfold State.offerNotice
  split <;> simp_all

/-! ### What a notice depends on (R38, R39) -/

/-- Two states in which notices fare alike: the tables, the counter, the notice queue, and of the front port
whether it runs, its queue and its node table. -/
structure State.NoticesAlike (s t : State) : Prop where
  tables : t.tables = s.tables
  now : t.now = s.now
  notices : t.notices = s.notices
  running : t.link.front.running = s.link.front.running
  queue : t.link.front.queue = s.link.front.queue
  nodes : t.link.front.nodes = s.link.front.nodes

theorem State.NoticesAlike.holder {s t : State} (h : s.NoticesAlike t) (r : Role) :
    t.holder r = s.holder r := by
  simp [State.holder, h.tables]

/-- A front role's presence is alike. -/
theorem State.NoticesAlike.rolePresence {s t : State} (h : s.NoticesAlike t) {r : Role}
    (hr : roleSeg r = .front) : t.rolePresence r = s.rolePresence r := by
  unfold State.rolePresence
  rw [h.holder]
  cases ha : s.holder r with
  | none => rfl
  | some a =>
    have hs : a.seg = .front := (State.holder_seg ha).trans hr
    simp [State.presence, State.port, hs, h.nodes]

/-- An offer to a front role fares alike, and leaves the two states alike. -/
theorem State.NoticesAlike.offerRole {s t : State} (h : s.NoticesAlike t) {r : Role}
    (hr : roleSeg r = .front) (c : Content) :
    (t.offerRole r c).2 = (s.offerRole r c).2 ∧ (s.offerRole r c).1.NoticesAlike (t.offerRole r c).1 := by
  unfold State.offerRole
  rw [h.holder]
  cases ha : s.holder r with
  | none => exact ⟨rfl, h⟩
  | some a =>
    have hs : a.seg = .front := (State.holder_seg ha).trans hr
    have hacc : t.accepts .front = s.accepts .front := by
      unfold State.accepts State.port
      rw [h.running, h.queue]
    simp only [State.offer, State.offerFrame, hs, hacc]
    split
    · exact ⟨rfl, h.tables, h.now, h.notices, h.running, by simp [State.modPort, h.queue], h.nodes⟩
    · exact ⟨rfl, h⟩

theorem State.NoticesAlike.drainRoute {s t : State} (h : s.NoticesAlike t) {r : Role}
    (hr : roleSeg r = .front) (e : NoticeEntry) (m : RouteMark) :
    (t.drainRoute r e m).2 = (s.drainRoute r e m).2
      ∧ (s.drainRoute r e m).1.NoticesAlike (t.drainRoute r e m).1 := by
  unfold State.drainRoute
  rw [h.rolePresence hr]
  obtain ⟨h1, h2⟩ := h.offerRole hr (.notice e.seq e.notice e.cls e.time)
  cases m <;> cases s.rolePresence r <;> try exact ⟨rfl, h⟩
  generalize t.offerRole r (.notice e.seq e.notice e.cls e.time) = x at *
  generalize s.offerRole r (.notice e.seq e.notice e.cls e.time) = y at *
  obtain ⟨x1, x2⟩ := x
  obtain ⟨y1, y2⟩ := y
  cases h1
  cases x2 <;> exact ⟨rfl, h2⟩

theorem State.NoticesAlike.drainHead {s t : State} (h : s.NoticesAlike t) (e : NoticeEntry) :
    (t.drainHead e).2 = (s.drainHead e).2
      ∧ (s.drainHead e).1.NoticesAlike (t.drainHead e).1 := by
  obtain ⟨h1, h2⟩ := h.drainRoute (r := .console) rfl e e.console
  unfold State.drainHead
  generalize t.drainRoute .console e e.console = x at *
  generalize s.drainRoute .console e e.console = y at *
  obtain ⟨x1, x2, x3⟩ := x
  obtain ⟨y1, y2, y3⟩ := y
  cases h1
  cases x3
  · obtain ⟨k1, k2⟩ := State.NoticesAlike.drainRoute h2 (r := .modem) rfl e e.modem
    exact ⟨by simp only [k1], k2⟩
  · exact ⟨rfl, h2⟩

theorem State.NoticesAlike.drainLoop (n : Nat) {s t : State} (h : s.NoticesAlike t) :
    (s.drainLoop n).NoticesAlike (t.drainLoop n) := by
  induction n generalizing s t with
  | zero => exact h
  | succ n ih =>
    simp only [State.drainLoop, h.notices]
    cases s.notices.entries[s.notices.headIdx]? with
    | none => exact h
    | some e =>
      obtain ⟨h1, h2⟩ := h.drainHead e
      simp only
      generalize t.drainHead e = x at *
      generalize s.drainHead e = y at *
      obtain ⟨x1, x2, x3⟩ := x
      obtain ⟨y1, y2, y3⟩ := y
      cases h1
      have hn : x1.notices = y1.notices := h2.notices
      split
      · exact ⟨h2.tables, h2.now, by simp only [hn], h2.running, h2.queue, h2.nodes⟩
      · exact ih ⟨h2.tables, h2.now, by simp only [hn], h2.running, h2.queue, h2.nodes⟩

/-- A notice offered to states in which notices fare alike leaves them so: their notice queues are equal. -/
theorem State.NoticesAlike.offerNotice {s t : State} (h : s.NoticesAlike t) (n : Notice) :
    (s.offerNotice n).NoticesAlike (t.offerNotice n) := by
  have he : t.noticeEntry n = s.noticeEntry n := by
    simp [State.noticeEntry, State.classRoute, h.tables, h.now, h.notices]
  have hd : ∀ {a b : State}, a.NoticesAlike b → a.drain.NoticesAlike b.drain := by
    intro a b k
    unfold State.drain
    rw [k.running, k.notices]
    split
    · exact k.drainLoop _
    · exact k
  unfold State.offerNotice
  rw [h.notices, he]
  cases hq : s.notices.enqueue (s.noticeEntry n) with
  | mk q joined =>
    cases joined
    · exact ⟨h.tables, h.now, rfl, h.running, h.queue, h.nodes⟩
    · exact hd ⟨h.tables, h.now, rfl, h.running, h.queue, h.nodes⟩

/-! ### Completed steps (R76, R77) -/

/-- What `n` completed steps make of the counts that they change. -/
def StepCount.many (c : StepCount) (inc : Nat) : Nat → StepCount
  | 0 => c
  | n + 1 => (c.one inc).many inc n

/-- A try at a view leaves the trip and the meter state (R113). -/
@[simp] theorem State.tryView_trip (s : State) (d : ViewDest) :
    (s.tryView d).meter.trip = s.meter.trip ∧ (s.tryView d).meter.state = s.meter.state := by
  unfold State.tryView
  simp only
  split
  · split
    all_goals
      next h =>
        have k := congrArg (·.1.meter) h
        simp only [State.offerRole_keeps] at k
        cases d <;> simp [State.modView, ← k]
  · simp

/-- Marking the views leaves the trip and the meter state (R112). -/
@[simp] theorem State.markViews_trip (s : State) :
    s.markViews.meter.trip = s.meter.trip ∧ s.markViews.meter.state = s.meter.state := by
  simp [State.markViews]

/-- A trip after steps shows their counts in its current segment (R77). -/
theorem TripRecord.withSteps_withSteps (r : TripRecord) (c d : StepCount) :
    (r.withSteps c).withSteps d = r.withSteps d := by
  simp [TripRecord.withSteps, TripRecord.modCurrent, List.modify_modify_eq, Function.comp_def]

/-- The current segment of a trip after steps. -/
theorem TripRecord.withSteps_current (r : TripRecord) (c : StepCount) :
    (r.withSteps c).segments.getLast? =
      r.segments.getLast?.map fun g => { g with charged := c.charged, free := c.free } := by
  simp only [TripRecord.withSteps, TripRecord.modCurrent, List.getLast?_eq_getElem?,
    List.length_modify, List.getElem?_modify]
  cases r.segments[r.segments.length - 1]? <;> simp

/-- A completed step changes the counts as `StepCount.one` says (R77, R79). -/
theorem State.completeStep_counts (s : State) (r : TripRecord) (h : s.meter.trip = some r) :
    let c := (s.stepCount r).one s.engine.inc
    let t := s.completeStep
    t.engine = { s.engine with fs := c.fs } ∧ t.meter.state = s.meter.state
      ∧ t.meter.trip = some (r.withSteps c)
      ∧ t.acct = { s.acct with totals := { s.acct.totals with steps := c.total } } := by
  simp only [State.completeStep, h]
  split <;> simp

/-- Completed steps change the counts as `StepCount.many` says (R76, R77, R79). -/
theorem State.completeSteps_counts (n : Nat) (s : State) (r : TripRecord) (h : s.meter.trip = some r)
    (hs : r.segments ≠ []) :
    let c := (s.stepCount r).many s.engine.inc n
    let t := s.completeSteps n
    t.engine = { s.engine with fs := c.fs } ∧ t.meter.state = s.meter.state
      ∧ t.meter.trip = some (r.withSteps c)
      ∧ t.acct = { s.acct with totals := { s.acct.totals with steps := c.total } } := by
  induction n generalizing s r with
  | zero =>
    obtain ⟨l, g, hl⟩ : ∃ l g, r.segments = l ++ [g] :=
      ⟨_, _, (List.dropLast_append_getLast hs).symm⟩
    have hr : r.withSteps (s.stepCount r) = r := by
      simp [TripRecord.withSteps, TripRecord.modCurrent, State.stepCount, hl, List.modify_eq_take_drop]
      simp [← hl]
    exact ⟨rfl, rfl, by simpa [State.completeSteps, StepCount.many, hr] using h, rfl⟩
  | succ n ih =>
    obtain ⟨h1, h2, h3, h4⟩ := State.completeStep_counts s r h
    have hs' : (r.withSteps ((s.stepCount r).one s.engine.inc)).segments ≠ [] := by
      simpa [TripRecord.withSteps, TripRecord.modCurrent] using hs
    have hc : s.completeStep.stepCount (r.withSteps ((s.stepCount r).one s.engine.inc))
        = (s.stepCount r).one s.engine.inc := by
      obtain ⟨g, hg⟩ := Option.ne_none_iff_exists'.mp (mt List.getLast?_eq_none_iff.mp hs)
      simp only [State.stepCount, TripRecord.withSteps_current, h1, h4, hg]
      rfl
    obtain ⟨k1, k2, k3, k4⟩ := ih _ _ h3 hs'
    rw [hc, h1] at k1 k3 k4
    exact ⟨by simpa [State.completeSteps, StepCount.many] using k1,
      by simpa [State.completeSteps] using k2.trans h2,
      by simpa [State.completeSteps, StepCount.many, TripRecord.withSteps_withSteps] using k3,
      by simpa [State.completeSteps, StepCount.many, h4] using k4⟩

/-! ### Presence that does not change (R8) -/

/-- Roles stand as before when the role table and every presence do. -/
theorem State.rolePresence_congr {s t : State} (h1 : t.tables = s.tables)
    (h2 : ∀ a, t.presence a = s.presence a) (r : Role) : t.rolePresence r = s.rolePresence r := by
  unfold State.rolePresence State.holder
  rw [h1]
  cases (s.tables.roles.of (roleSeg r)).findIdx? (· == .named r) <;> simp [h2]

/-- Nothing follows when no presence has changed (R8). -/
theorem State.followPresence_same {s t : State} (h1 : t.tables = s.tables)
    (h2 : ∀ a, t.presence a = s.presence a) : s.followPresence t = t := by
  have h := State.rolePresence_congr h1 h2
  have hc : ∀ a, t.configured a = s.configured a := by
    intro a
    simp [State.configured, State.roleEntry, h1]
  have ha : ∀ r, t.available r = s.available r := by
    intro r
    simp [State.available, h]
  have hw : s.watchHolder t = t := by
    unfold State.watchHolder
    split
    · simp [hc, h2]
    · rfl
  have hv : ∀ d, s.viewAvailable t d = t := by
    intro d
    unfold State.viewAvailable
    simp [ha]
  have hn : ∀ r, newlyLost s t r = false := by
    intro r
    simp [newlyLost, h]
  simp [State.followPresence, hw, h, hv, ha, hn]

/-! ### Transmit queues that only grow (R10) -/

/-- Both transmit queues of `t` begin with those of `s`. -/
def State.grows (s t : State) : Prop :=
  s.link.front.queue <+: t.link.front.queue ∧ s.link.rear.queue <+: t.link.rear.queue

theorem State.grows_refl (s : State) : s.grows s := ⟨List.prefix_refl _, List.prefix_refl _⟩

theorem State.grows_trans {s t u : State} (h : s.grows t) (h' : t.grows u) : s.grows u :=
  ⟨h.1.trans h'.1, h.2.trans h'.2⟩

/-- A state with the same link has the same queues. -/
theorem State.grows_of_link {s t : State} (h : t.link = s.link) : s.grows t := by
  unfold State.grows
  rw [h]
  exact s.grows_refl

/-- Growth after a change that leaves the link alone. -/
theorem State.grows_after {s t u : State} (h : t.link = s.link) (h' : t.grows u) : s.grows u :=
  State.grows_trans (State.grows_of_link h) h'

/-- A frame that stood in the front queue, or found it full, still does after the queue has grown. -/
theorem offeredTo_of_grows {s t : State} {f : Frame} (h : s.grows t)
    (h' : offeredTo s.link.front.queue f) : offeredTo t.link.front.queue f := by
  obtain ⟨l, hl⟩ := h.1
  rcases h' with h' | h'
  · exact .inl (hl ▸ List.mem_append_left _ h')
  · refine .inr ?_
    rw [← hl, List.length_append]
    omega

/-- The queue that an answer joined holds it, or is full. -/
theorem offeredTo_joined (q : List Frame) (f : Frame) : offeredTo (joined q f) f := by
  unfold offeredTo joined
  split
  · exact .inl (by simp)
  · exact .inr (by omega)

theorem State.offerFrame_grows (s : State) (seg : Seg) (f : Frame) :
    s.grows (s.offerFrame seg f).1 := by
  unfold State.offerFrame
  split
  · cases seg <;> exact ⟨by simp [State.modPort], by simp [State.modPort]⟩
  · exact s.grows_refl

theorem State.offerRole_grows (s : State) (r : Role) (c : Content) :
    s.grows (s.offerRole r c).1 := by
  unfold State.offerRole
  split
  · exact State.offerFrame_grows ..
  · exact s.grows_refl

theorem State.drainRoute_grows (s : State) (r : Role) (e : NoticeEntry) (m : RouteMark) :
    s.grows (s.drainRoute r e m).1 := by
  unfold State.drainRoute
  split
  · have h := State.offerRole_grows s r (.notice e.seq e.notice e.cls e.time)
    split <;> simp_all
  all_goals exact s.grows_refl

theorem State.drainHead_grows (s : State) (e : NoticeEntry) : s.grows (s.drainHead e).1 := by
  have h := State.drainRoute_grows s .console e e.console
  unfold State.drainHead
  split
  · simp_all
  · next s' m hd =>
    rw [hd] at h
    exact State.grows_trans h (State.drainRoute_grows s' .modem e e.modem)

theorem State.drainLoop_grows (n : Nat) (s : State) : s.grows (s.drainLoop n) := by
  induction n generalizing s with
  | zero => exact s.grows_refl
  | succ n ih =>
    simp only [State.drainLoop]
    split
    · exact s.grows_refl
    · next e _ =>
      have h := State.drainHead_grows s e
      split
      · exact h
      · refine State.grows_trans h (State.grows_after ?_ (ih _))
        rfl

theorem State.drain_grows (s : State) : s.grows s.drain := by
  unfold State.drain
  split
  · exact State.drainLoop_grows ..
  · exact s.grows_refl

theorem State.offerNotice_grows (s : State) (n : Notice) : s.grows (s.offerNotice n) := by
  unfold State.offerNotice
  split
  · next q h => exact State.drain_grows { s with notices := q }
  · exact s.grows_refl

theorem State.tryView_grows (s : State) (d : ViewDest) : s.grows (s.tryView d) := by
  unfold State.tryView
  simp only
  split
  · have h := State.offerRole_grows s (viewRole d) (.fareView (s.buildView (s.viewState d)))
    split
    · next s' hs =>
      rw [hs] at h
      cases d <;> exact h
    · simp_all
  · exact s.grows_refl

theorem State.markViews_grows (s : State) : s.grows s.markViews := by
  unfold State.markViews
  refine State.grows_trans ?_ (State.tryView_grows _ _)
  exact State.grows_after (by simp) (State.tryView_grows _ _)

theorem State.tryAdvice_grows (s : State) : s.grows s.tryAdvice := by
  unfold State.tryAdvice
  split
  · exact s.grows_refl
  · next r rest _ =>
    split
    · have h := State.offerRole_grows s .modem (.advice r)
      split <;> simp_all
      exact h
    · exact s.grows_refl

/-! ### Views at a return or a wake (R117) -/

/-- A node right after its port starts is not PRESENT (R22). -/
theorem NodeEntry.start_presence (e : RoleEntry) : (NodeEntry.start e).presence ≠ .present := by
  cases e <;> simp [NodeEntry.start]

/-- No role is available right after the ports start, so no view is tried there (R22, R113). -/
theorem State.available_of_started (s : State) (front rear : List RoleEntry)
    (hf : s.link.front.nodes = front.map .start) (hr : s.link.rear.nodes = rear.map .start) (r : Role) :
    s.available r = false := by
  have h (a : NodeAddr) : s.presence a ≠ .present := by
    unfold State.presence
    split
    · simp
    · cases hs : a.seg <;> simp only [State.port, hf, hr, List.getElem?_map, Option.map_map] <;>
        cases hx : (_ : List RoleEntry)[a.num - 1]? <;>
        simp [NodeEntry.start_presence]
  unfold State.available State.rolePresence
  cases s.holder r <;> simp [h]

/-- Entry to HOLDUP leaves the meter controller as it stands (R201, R117). -/
@[simp] theorem State.enterHoldup_meter (s : State) : s.enterHoldup.meter = s.meter := by
  simp [State.enterHoldup]

end Sys2Proof.Machine
end

