-- ==== Sys2Proof/Tests/Slice0.lean ====
section
/-! SUPPORT. Tests: the refusals of `wellFormed`, states that meet the hypotheses of the statements, and
small checks of single commands against the numbers of the manual. -/

namespace Sys2Proof.Tests

open Sys2Proof Sys2Proof.Machine

/-! ### Senders and small records -/

/-- Nodes of the factory role table (R17). -/
def cons : NodeAddr := ⟨.front, 1⟩
def modm : NodeAddr := ⟨.front, 2⟩
def serv : NodeAddr := ⟨.front, 7⟩
def readr : NodeAddr := ⟨.rear, 1⟩
def paxd : NodeAddr := ⟨.rear, 2⟩

/-- A request of the console, of the modem and of the service node. -/
def rqC : Req := ⟨cons, 5, .none⟩
def rqM : Req := ⟨modm, 6, ⟨3, 9, 1⟩⟩
def rqS : Req := ⟨serv, 7, ⟨4, 0, 65535⟩⟩

def tariff1 : Tariff := ⟨350, 2, 1000, 300, 20, some .max, true⟩
def tariff2 : Tariff := ⟨450, 0, 800, 250, 25, some .sum, true⟩

def allDays : List DayType := [.mon, .tue, .wed, .thu, .fri, .sat, .sun, .holiday]

def band1 : Band := ⟨allDays, 360, 1320, 1, [1, 2]⟩
def band2 : Band := ⟨allDays, 1320, 360, 2, [2]⟩
def newYear : Holiday := ⟨none, 1, 1⟩
def extra1 : Extra := ⟨150, 3, [1, 2], true⟩
def extra2 : Extra := ⟨100, 1, [1], false⟩

def tset : TariffSet :=
  ⟨⟨10, 15, 1⟩, [some tariff1, some tariff2] ++ List.replicate 6 none,
   [some band1, some band2] ++ List.replicate 10 none, some newYear :: List.replicate 23 none,
   [some extra1, some extra2] ++ List.replicate 14 none⟩

def cal : Calibration := ⟨1000, 60, 200, ⟨40, true⟩⟩

def shift3 : ShiftRecord :=
  { number := 3, driver := 42, limit := 0, opened := 1000, closed := 0, elapsed := 600, hiredDs := 0
    trips := 0, unpaidTrips := 0, hiredM := 0, unhiredM := 0, fares := 0, extras := 0, card := 0
    offline := 0, cash := 0, tips := 0, unpaid := 0, lateDispute := 0, pendingAdvice := 0
    interruptions := 0, emergencies := 0 }

/-- A trip of 500 minor units under way on tariff 1. -/
def trip9 : TripRecord where
  number := 9
  shift := 3
  epoch := 1
  start := 999000
  stop := 0
  segments := [⟨1, 999000, 7, 2, 900, 500⟩]
  flagFall := 350
  fare := 500
  extras := []
  tenders := []
  unpaid := 0
  flags := .clear

def card9 : CardFields := ⟨1, ⟨1, 9, 1⟩, 77, none⟩

/-- The tender of a card offer of 500 under authorization. -/
def tender1 : Tender := ⟨1, 500, 20, some card9, .authWait, none, .none⟩

def advice9 : AdviceRecord := ⟨.offline, ⟨1, 8, 1⟩, 3, 300, 0, 1, 900000, false⟩

/-! ### States -/

/-- Every configured node PRESENT. -/
def allPresent (l : List RoleEntry) : List NodeEntry :=
  l.map fun e => match e with
    | .none => ⟨.absent, 0, false⟩
    | _ => ⟨.present, 0, false⟩

/-- The part in RUN with its nodes PRESENT, calibrated, with a tariff set and a valid time: VACANT. -/
def work : State :=
  { State.reset with
    link :=
      { State.reset.link with
        front := { State.reset.link.front with nodes := allPresent Tables.factory.roles.front }
        rear := { State.reset.link.rear with nodes := allPresent Tables.factory.roles.rear } }
    mgmt := ⟨none, ⟨tset, cal, none, none⟩, .empty⟩
    notices := ⟨[], 0, 2⟩
    time :=
      ⟨{ Backup.lost with counter := 1000000, timeInvalid := false, trim := ⟨40, true⟩, keptBand := some 1 },
        none, some 1, none⟩
    distance := .start cal
    meter := { State.reset.meter with state := .vacant, lastAssigned := 8, lastClosed := 8 }
    acct := { State.reset.acct with shift := ⟨some shift3, false⟩, lastNumber := 3 }
    store := { State.reset.store with metrology := ⟨tset, cal, none, none⟩ }
    writes := [] }

/-- `s` in another meter state. -/
def meterAt (s : State) (m : MeterState) : State := { s with meter := { s.meter with state := m } }

def offState : State := meterAt work .offDuty

/-- HIRED with trip 9 on tariff 1. -/
def hired : State :=
  { work with
    engine := ⟨.running, some 1, 300000000, 3000000, 1000000, 20, 1000, 0⟩
    intercom := { work.intercom with mode := .arbiter }
    meter :=
      { work.meter with
        state := .hired, trip := some trip9, lastAssigned := 9 }
    power := { work.power with checkpoint := .running 30 } }

/-- PAY with 500 due. -/
def paying : State :=
  { hired with
    engine := { hired.engine with mode := .held }
    meter := { hired.meter with state := .pay, snapshot := some 500, correction := 100 }
    power := { hired.power with checkpoint := .stopped } }

/-- `s` with another session and tenders. -/
def paySession (s : State) (x : Session) (l : List Tender) : State :=
  { s with pay := { s.pay with session := x, tenders := l } }

def offered : State := paySession paying ⟨.offered, 500, 75, 1, false, true⟩ []
def acknowledged : State := paySession paying ⟨.offered, 500, 75, 1, true, false⟩ []
def presented : State := paySession paying ⟨.presented, 500, 75, 1, true, true⟩ []
def authWait : State :=
  let s := paySession paying ⟨.authWait, 500, 75, 1, true, true⟩ [tender1]
  { s with pay := { s.pay with auth := .running 20 } }

/-- The close of trip 9 in its step 2. -/
def closing : State := { paying with meter := { paying.meter with closing := true, stage := .updating } }

/-- `s` in another power state. -/
def powerAt (s : State) (p : PowerState) : State := { s with power := { s.power with state := p } }

/-- `s` with its ports stopped. -/
def portsStopped (s : State) : State := s.stopPorts true

/-- `s` in HOLDUP with its save begun. -/
def inHoldup (s : State) : State :=
  let s := portsStopped (powerAt s .holdup)
  { s with
    power := { s.power with sample := 800, progress := .writing }
    distance := { s.distance with running := false }
    intercom := { s.intercom with run := .muted } }

def parked : State :=
  let s := portsStopped (powerAt offState .parked)
  { s with
    intercom := { s.intercom with run := .stopped }
    power := { s.power with sample := 1200, wake := ⟨[], some 900000, none⟩ } }

/-- The part without supply. -/
def noSupply (s : State) : State :=
  let s := portsStopped (powerAt s .off)
  { s with distance := { s.distance with running := false }, intercom := { s.intercom with run := .stopped } }

/-- `s` with waiting store writes. -/
def writing (s : State) (l : List StoreWrite) : State := { s with writes := l }

def carry0 : ShiftCarry := ⟨⟨some shift3, false⟩, 3, none, false⟩

/-- `s` with its front transmit queue filled to `n` frames. -/
def queued (s : State) (n : Nat) : State :=
  s.modPort .front fun p => { p with queue := List.replicate n (.relay [1]) }

/-! ### Witnesses: the whole machine -/

theorem witness_StepTakesFrontCommand :
    ({ work with pending := [.meterInterval, .secondEvent] } : State).pending
      = .meterInterval :: [.secondEvent] := rfl

theorem witness_StepKeepsQueueLimits :
    (queued work 24).bounded ∧ step (queued work 24) = .next (queued work 24) :=
  ⟨by unfold State.bounded; decide, rfl⟩

theorem witness_StepKeepsMeterAgreement :
    (hired.meterAgrees ∧ paying.meterAgrees ∧ work.meterAgrees) ∧ step hired = .next hired :=
  ⟨by unfold State.meterAgrees; decide, rfl⟩

theorem witness_CounterChangesAtSecondsOnly :
    (∃ t, exec .secondEvent work = .next t ∧ t.now ≠ work.now)
      ∧ ∃ t, exec .backupLoss (noSupply work) = .next t ∧ t.now ≠ (noSupply work).now :=
  ⟨⟨_, rfl, by decide⟩, ⟨_, rfl, by decide⟩⟩

/-- A part that has never had a supply. -/
def newPart : State :=
  { noSupply State.reset with store := .factory, writes := [], free := 0 }

theorem witness_ResetIsFirstColdStart :
    newPart.power.state = .off ∧ newPart.store = .factory ∧ newPart.time.backup = .lost
      ∧ newPart.pins = ⟨true, false, false⟩ ∧ newPart.pending = [] ∧ newPart.writes = []
      ∧ newPart.free = 0 := by decide

/-! ### Witnesses: the cab link -/

theorem witness_LineCarriesFrames :
    ((List.replicate 66 (7 : Byte)).length ≤ 66 ∧ 66 < (List.replicate 67 (7 : Byte)).length
      ∧ ([true, false] : List Bool).length < 8 ∧ ([true, false] : List Bool) ≠ [])
    ∧ (readr.num ≤ 7 ∧ 1 ≤ modm.num ∧ modm.num ≤ 7
      ∧ (List.replicate 60 (7 : Byte)).length ≤ 60 ∧ FrameKind.data ≠ .poll
      ∧ FrameKind.data ≠ .empty) := by decide

/-- A DATA frame of the modem to the reader, with its check. -/
def dataBody : List Byte := frameBody readr modm .data [0x11, 0x22]

/-- The same frame with a wrong low check byte. -/
def badCheck : List Byte := dataBody.set 7 (dataBody.getD 7 0 + 1)

/-- The front port of `s` in LOOPBACK. -/
def looped (s : State) : State :=
  s.modPort .front fun p => { p with mode := .loopback, loopTimer := 60 }

theorem witness_FramesAreCheckedAndEchoed :
    ((work.port .front).listens = true ∧ (work.port .front).exchange = none
      ∧ (work.port .front).mode = .normal)
    ∧ 66 < (List.replicate 67 (0 : Byte)).length
    ∧ (List.replicate 5 (0 : Byte)).length < 6
    ∧ (dataBody.length ≤ 66 ∧ 6 ≤ badCheck.length
      ∧ badCheck.length = 6 + (badCheck.getD 3 0).toNat
      ∧ (crc (badCheck.take (badCheck.length - 2))).toNat
        ≠ (badCheck.getD (badCheck.length - 2) 0).toNat * 256
          + (badCheck.getD (badCheck.length - 1) 0).toNat)
    ∧ checkFrame .front dataBody = .valid ⟨readr, modm, .data⟩ [0x11, 0x22]
    ∧ (((looped work).port .front).listens = true ∧ ((looped work).port .front).exchange = none
      ∧ ((looped work).port .front).mode = .loopback) := by decide +kernel

/-- A frame at the front port marked as from the rear segment, and one to node 8. -/
def wrongSide : List Byte := frameBody cons readr .data []
def wrongNode : List Byte :=
  let c := crc [0x88, 0x02, 0x00, 0x00]
  [0x88, 0x02, 0x00, 0x00] ++ [c.extractLsb' 8 8, c.extractLsb' 0 8]

theorem witness_FramesAreCheckedAndEchoed_header :
    (wrongSide.length ≤ 66 ∧ 6 ≤ wrongSide.length
      ∧ wrongSide.length = 6 + (wrongSide.getD 3 0).toNat
      ∧ (crc (wrongSide.take (wrongSide.length - 2))).toNat
        = (wrongSide.getD (wrongSide.length - 2) 0).toNat * 256
          + (wrongSide.getD (wrongSide.length - 1) 0).toNat
      ∧ (wrongSide.getD 1 0).getLsbD 7 = true)
    ∧ (wrongNode.length = 6 + (wrongNode.getD 3 0).toNat
      ∧ wrongNode.getD 0 0 &&& 0x78#8 ≠ 0#8) := by decide +kernel

theorem witness_LoopbackModes :
    (hired.fromMgmt .loopback rqS ∧ hired.tripOpen = true)
    ∧ (work.fromMgmt .loopback rqS ∧ work.tripOpen = false ∧ (work.port .rear).exchange = none
      ∧ (work.port .rear).echo = none ∧ (work.port .rear).sending = none
      ∧ (work.port .rear).loopLeaving = false ∧ (work.port .rear).mode = .normal)
    ∧ (work.modPort .rear fun p => { p with exchange := some ⟨1, false⟩ }).fromMgmt .loopback rqS
    ∧ (((looped work).port .front).mode = .loopback
      ∧ ((looped work).port .front).loopLeaving = false
      ∧ ((looped work).port .front).echo = none ∧ ((looped work).port .front).sending = none) := by
  decide

/-- The front port of `s` in a poll exchange with the modem, whose reply has begun. -/
def polling (s : State) (replying : Bool) : State :=
  s.modPort .front fun p => { p with exchange := some ⟨2, replying⟩ }

theorem witness_PassedDataJoinsOtherQueue :
    ((polling work true).port modm.seg).listens = true
    ∧ ((polling work true).port modm.seg).mode = .normal
    ∧ ((polling work true).port modm.seg).exchange = some ⟨modm.num, true⟩
    ∧ readr.seg ≠ modm.seg ∧ (List.replicate 60 (7 : Byte)).length ≤ 60
    ∧ (polling work true).presence modm = .present
    ∧ (polling work true).matching ⟨readr, modm, .data⟩ = some (2, ⟨.any, .any, .kind .data, .pass⟩)
    ∧ (polling work true).accepts readr.seg = true
    ∧ ((polling work true).modPort .rear fun p =>
        { p with queue := List.replicate 24 (.relay []) }).accepts readr.seg = false := by decide

theorem witness_ClassificationOrder :
    (⟨cons, readr, .mgmtReq⟩ : Header).src.seg = .rear
    ∧ (⟨⟨.front, 0⟩, modm, .mgmtReq⟩ : Header).dst.num = 0
    ∧ ((⟨cons, modm, .data⟩ : Header).dst.num ≠ 0
      ∧ (⟨cons, modm, .data⟩ : Header).dst.seg = (⟨cons, modm, .data⟩ : Header).src.seg)
    ∧ ((⟨readr, modm, .data⟩ : Header).dst.num ≠ 0
      ∧ (⟨readr, modm, .data⟩ : Header).dst.seg ≠ (⟨readr, modm, .data⟩ : Header).src.seg) := by
  decide

/-- No node of the front port is due. -/
def noneDue : State :=
  work.modPort .front fun p => { p with nodes := List.replicate 7 ⟨.absent, 0, false⟩ }

theorem witness_PollTakesNextDueNode :
    ((work.port .front).free = true ∧ 1 ≤ (work.port .front).pointer
      ∧ (work.port .front).pointer ≤ 7 ∧ ((work.port .front).nodes[7 - 1]?).any (·.due) = true)
    ∧ ((noneDue.port .front).free = true ∧ (noneDue.port .front).pointer = 7)
    ∧ ∀ n, 1 ≤ n → n ≤ 7 → ((noneDue.port .front).nodes[n - 1]?).any (·.due) = false :=
  ⟨by decide, by decide, by intro n h h'; interval_cases n <;> decide⟩

/-- `s` with a front node's row replaced. -/
def frontNode (s : State) (n : Nat) (e : NodeEntry) : State :=
  s.modPort .front fun p => { p with nodes := p.nodes.set (n - 1) e }

theorem witness_PollOutcomeMovesPresence :
    (((polling work true).port .front).nodes[2 - 1]? = some ⟨.present, 0, false⟩
      ∧ ((polling work true).port .front).listens = true
      ∧ ((polling work true).port .front).exchange = some ⟨2, true⟩)
    ∧ ((frontNode (polling work false) 2 ⟨.present, 2, false⟩).port .front).nodes[2 - 1]?
        = some ⟨.present, 2, false⟩
    ∧ ((frontNode (polling work false) 2 ⟨.present, 2, false⟩).port .front).exchange
        = some ⟨2, false⟩
    ∧ ((frontNode work 7 ⟨.lost, 3, false⟩).port .front).nodes[7 - 1]? = some ⟨.lost, 3, false⟩
    ∧ (∀ b, ((frontNode (polling work b) 2 ⟨.lost, 3, false⟩).port .front).nodes[2 - 1]?
        = some ⟨.lost, 3, false⟩
      ∧ ((frontNode (polling work b) 2 ⟨.lost, 3, false⟩).port .front).exchange = some ⟨2, b⟩
      ∧ ((frontNode (polling work b) 2 ⟨.lost, 3, false⟩).port .front).listens = true) := by
  decide

/-- The front port sending a frame of a queue. -/
def sendingFrom (o : TxOrigin) : State :=
  (queued work 2).modPort .front fun p => { p with sending := some ⟨.relay [1], o, true⟩ }

/-- The rear port sending its head, with no pending view of the passenger display. -/
def rearSending : State :=
  State.modView
    (work.modPort .rear fun p =>
      { p with queue := [.relay [1]], sending := some ⟨.relay [1], .transmit, true⟩ })
    .paxDisplay fun v => { v with mark := false }

theorem witness_SentFramesLeaveTheirQueues :
    ((sendingFrom .monitor).link.front.mode = .normal
      ∧ (sendingFrom .monitor).link.front.sending = some ⟨.relay [1], .monitor, true⟩)
    ∧ (rearSending.link.rear.mode = .normal
      ∧ rearSending.link.rear.sending = some ⟨.relay [1], .transmit, true⟩
      ∧ rearSending.meter.pax.mark = false)
    ∧ (sendingFrom .transmit).link.front.sending = some ⟨.relay [1], .transmit, true⟩ := by decide

/-- The front port of `work` in a receiver state, with its window at 16 counted violations. -/
def receiving (r : RxState) (h : Health) : State :=
  work.modPort .front fun p => { p with rx := r, health := h, window := 16 }

theorem witness_ReceiverStates :
    ((receiving .waiting .good).port .front).rx = .waiting
    ∧ (((receiving .receiving .degraded).port .front).running = true
      ∧ ((receiving .receiving .degraded).port .front).rx = .receiving
      ∧ ((receiving .receiving .degraded).port .front).exchange = none
      ∧ ((receiving .receiving .degraded).port .front).health = .degraded)
    ∧ (((receiving .receiving .good).port .front).health = .good
      ∧ ((receiving .receiving .good).port .front).window = 16)
    ∧ ((receiving .ignoring .good).port .front).rx = .ignoring := by decide

/-! ### Witnesses: management, the store and notices -/

theorem witness_RequestsAreChecked :
    (work.fromMgmt .read rqM ∧ indexInRange (.forwarding 31) = true
      ∧ indexInRange (.forwarding 32) = false)
    ∧ (mgmtRow (.restart rqC) = some (rqC, .restart, .none) ∧ work.receives .front = true
      ∧ work.configured rqC.src = true ∧ authorised .restart (work.roleEntry rqC.src) = false)
    ∧ (work.fromMgmt .write rqS ∧ isDirect .meterStatus = false)
    ∧ (work.fromMgmt .openLoad rqS ∧ loadTarget (.forwarding 0) = none)
    ∧ (work.fromMgmt .writePart rqS ∧ 60 < 61 ∧ work.fromMgmt .commit rqS
      ∧ work.fromMgmt .abortLoad rqS) := by decide

theorem witness_TableWritesApplyAtOnce :
    work.fromMgmt .write rqS ∧ promptValid ⟨.pax, 8000, [⟨1000, 300⟩]⟩ = true
    ∧ payLimitsValid Tables.factory.payLimits = true
    ∧ (700 ≤ 700 ∧ 700 + 20 ≤ 720 ∧ 720 ≤ 1600 ∧ 5 ≤ 5 ∧ 960 ≤ 960)
    ∧ (⟨.urgent, .modem⟩ : ClassRoute).route = .modem
    ∧ resolveFwd (.entry .any (.role .modem) .any .pass) ≠ none
    ∧ intercomValid Tables.factory.intercom = true := by decide

theorem witness_SignAndRoleWritesApply :
    (work.fromMgmt .write rqS ∧ channelValid ⟨.aux2, .aux, 100, 1500⟩ = true
      ∧ work.tripOpen = false ∧ LampRole.aux2 ≠ .vacant
      ∧ (List.replicate 6 (some LampValue.on)).length = 6
      ∧ brightnessValid Tables.factory.brightness = true)
    ∧ ((∀ r, RoleEntry.none ≠ .named r)
      ∧ (work.port .front).nodes[7 - 1]? = some ⟨.present, 0, false⟩)
    ∧ ((∀ r, RoleEntry.generic ≠ .named r)
      ∧ (work.port .front).nodes[3 - 1]? = some ⟨.absent, 0, false⟩) :=
  ⟨by decide, ⟨nofun, by decide⟩, nofun, by decide⟩

theorem witness_SignAndRoleWritesApply_refusals :
    (work.fromMgmt .write rqS ∧ hired.fromMgmt .write rqS ∧ hired.tripOpen = true
      ∧ ¬ 4000 ≤ 3999 ∧ (hired.channel (6 - 1)).role ≠ .aux1 ∧ LampOwner.aux ≠ .sign)
    ∧ (work.tables.patterns[2]? = some [none, some .on, none, none, none, none]
      ∧ LampValue.on ≠ .off)
    ∧ ((work.channel 0).role = .vacant
      ∧ [some LampValue.on, none, none, none, none, none][0]? = some (some .on)
      ∧ ([] : List (Option LampValue)).length ≠ 6)
    ∧ brightnessValid { Tables.factory.brightness with tLow := 1600 } = false
    ∧ (roleSeg .reader ≠ .front ∧ work.holder .modem = some modm ∧ modm ≠ ⟨.front, 3⟩) := by decide

theorem witness_CompletedWritesAreAnswered :
    (work.powered = true ∧ work.link.front.running = true ∧ rqM.src.seg = .front)
    ∧ (writing work [.table (.prompt 3 none) rqM (.prompts 3)]).writes
        = [.table (.prompt 3 none) rqM (.prompts 3)]
    ∧ (writing work [.pendingCopy (.calibration cal) rqM (.calibration 0)]).writes
        = .pendingCopy (.calibration cal) rqM (.calibration 0) :: []
    ∧ (writing work [.ackTrips 8 0 rqM]).writes = .ackTrips 8 0 rqM :: []
    ∧ ((writing work [.shiftOpen carry0 rqC 3]).writes = .shiftOpen carry0 rqC 3 :: []
      ∧ carry0.report = false ∧ work.holder .console = some rqC.src) := by decide

/-- The metrology switch open. -/
def opened (s : State) : State := { s with pins := { s.pins with metrologyOpen := true } }

/-- A load window of the service node. -/
def loading (s : State) (st : Staged) : State :=
  { s with mgmt := { s.mgmt with window := some ⟨st, serv, 1⟩ } }

/-- A load window of another node. -/
def otherLoads : State := { work with mgmt := { work.mgmt with window := some ⟨.tariffSet tset, cons, 1⟩ } }

theorem witness_OpenLoadDecided :
    (work.fromMgmt .openLoad rqS ∧ work.pins.metrologyOpen = false)
    ∧ ((opened work).fromMgmt .openLoad rqS ∧ (opened work).mgmt.window = none
      ∧ (opened work).mgmt.slot.tariffSet.isSome = false)
    ∧ (loading (opened work) (.calibration cal)).mgmt.window ≠ none
    ∧ loadTarget (.tariffSet 0) = some true ∧ loadTarget (.calibration 0) = some false := by decide

theorem witness_LoadWindowRuns :
    ((loading work (.tariffSet tset)).fromMgmt .writePart rqS
      ∧ (loading work (.tariffSet tset)).mgmt.window = some ⟨.tariffSet tset, serv, 1⟩
      ∧ (Staged.tariffSet tset).isTariff = true
      ∧ (loading work (.tariffSet tset)).pins.metrologyOpen = false)
    ∧ ((loading (opened work) (.tariffSet tset)).fromMgmt .writePart rqS
      ∧ (loading (opened work) (.tariffSet tset)).pins.metrologyOpen = true
      ∧ (Staged.tariffSet tset).setPart 60 .malformed = none
      ∧ ((Staged.tariffSet tset).setPart 60 .undefined).isSome = true)
    ∧ (otherLoads.fromMgmt .writePart rqS
      ∧ otherLoads.mgmt.window = some ⟨.tariffSet tset, cons, 1⟩ ∧ cons ≠ rqS.src) := by decide

/-- A calibration in the pending commit slot. -/
def slotFull (s : State) : State :=
  { s with mgmt := { s.mgmt with slot := { s.mgmt.slot with calibration := some cal } } }

theorem witness_LoadWindowRuns_other :
    ((loading (opened work) (.calibration cal)).fromMgmt .writePart rqS
      ∧ (Staged.calibration cal).isTariff = false
      ∧ (Staged.calibration cal).setPart 0 .malformed = none
      ∧ (Staged.calibration cal).setPart 0 (.calibration cal) = some (.calibration cal))
    ∧ (work.fromMgmt .writePart rqS ∧ work.mgmt.window = none)
    ∧ ((slotFull work).fromMgmt .abortLoad rqS ∧ (slotFull work).mgmt.window = none
      ∧ (slotFull work).mgmt.slot.calibration.isSome = true
      ∧ (slotFull work).pins.metrologyOpen = false
      ∧ (slotFull (opened work)).pins.metrologyOpen = true)
    ∧ (otherLoads.fromMgmt .abortLoad rqS ∧ otherLoads.mgmt.slot.tariffSet.isSome = false) := by decide

theorem witness_CommitTakesOneWay :
    ((loading (opened work) (.calibration cal)).fromMgmt .commit rqS
      ∧ (loading (opened work) (.calibration cal)).mgmt.window = some ⟨.calibration cal, serv, 1⟩
      ∧ (loading (opened work) (.calibration cal)).pins.metrologyOpen = true
      ∧ (500 ≤ cal.k ∧ cal.k ≤ 65000 ∧ 1 ≤ cal.pMax ∧ cal.pMax ≤ 255 ∧ 50 ≤ cal.sMin
        ∧ cal.sMin ≤ 10000 ∧ cal.trim.n ≤ 65535)
      ∧ (opened work).tripOpen = false ∧ (opened work).acct.totals.metrology < 4294967295)
    ∧ ((loading (opened hired) (.calibration cal)).fromMgmt .commit rqS
      ∧ (loading (opened hired) (.calibration cal)).tripOpen = true)
    ∧ ¬ 500 ≤ factoryCalibration.k := by decide

theorem witness_CommitTakesOneWay_tariffs :
    (work.fromMgmt .commit rqS ∧ work.mgmt.window = none)
    ∧ ((loading work (.tariffSet tset)).fromMgmt .commit rqS
      ∧ (loading work (.tariffSet tset)).mgmt.window = some ⟨.tariffSet tset, serv, 1⟩
      ∧ (loading work (.tariffSet tset)).pins.metrologyOpen = false)
    ∧ (otherLoads.fromMgmt .commit rqS ∧ cons ≠ rqS.src)
    ∧ ((loading (opened work) (.tariffSet tset)).pins.metrologyOpen = true
      ∧ (∀ x ∈ tset.failures, x = false) ∧ work.tripOpen = false ∧ hired.tripOpen = true)
    ∧ ({ tset with general := ⟨61, 120, 65535⟩ } : TariffSet).failures[0]? = some true
    ∧ TariffSet.failures { tset with extras := List.replicate 15 none ++ [some ⟨0, 0, [], false⟩] } 
        = List.replicate 45 false ++ List.replicate 15 false ++ [true] := by decide +kernel

/-- The application record and the totalizers of the application under way. -/
def app5 : AppRecord := ⟨5, 1000000, false⟩
def totals5 : Totals := ⟨10, 5, 8, 100, 3000, 0, 5⟩

theorem witness_ApplicationPutsInForce :
    (work.powered = true ∧ work.link.front.running = true ∧ rqM.src.seg = .front
      ∧ (writing work
          [.application (.calibration cal) app5 totals5 1000000 (.commit rqM (.calibration 0))]).writes
        = [.application (.calibration cal) app5 totals5 1000000 (.commit rqM (.calibration 0))])
    ∧ work.pins.metrologyOpen = false := by decide

/-- The close of trip 9 applying the tariff set of its slot. -/
def applyingTariffs : State :=
  let s := writing closing [.application (.tariffSet tset) app5 totals5 1000000 .close]
  { s with
    mgmt := { s.mgmt with slot := ⟨some tset, none⟩ }, meter := { s.meter with stage := .applying } }

theorem witness_ApplicationPutsInForce_tariffs :
    (writing work
        [.application (.tariffSet tset) app5 totals5 1000000 (.commit rqM (.tariffSet 0))]).writes
      = [.application (.tariffSet tset) app5 totals5 1000000 (.commit rqM (.tariffSet 0))]
    ∧ (applyingTariffs.powered = true ∧ applyingTariffs.power.state = .run
      ∧ applyingTariffs.writes = .application (.tariffSet tset) app5 totals5 1000000 .close :: []
      ∧ applyingTariffs.mgmt.slot.calibration = none)
    ∧ ((inHoldup applyingTariffs).powered = true
      ∧ (inHoldup applyingTariffs).power.state = .holdup)
    ∧ (let s := slotFull (writing closing [.closeUpdate trip9 carry0 totals5 1000000 9])
       s.powered = true ∧ s.power.state = .run
        ∧ s.writes = .closeUpdate trip9 carry0 totals5 1000000 9 :: [] ∧ carry0.report = false
        ∧ (s.mgmt.slot.calibration.map Staged.calibration).or (s.mgmt.slot.tariffSet.map Staged.tariffSet)
          = some (.calibration cal)
        ∧ s.acct.totals.metrology < 4294967295)
    ∧ (noSupply work).powered = false ∧ (opened work).pins.metrologyOpen = true := by decide

/-- The same close after the set it applies was withdrawn and another committed. -/
def recommitted : State :=
  { applyingTariffs with
    writes :=
      [.application (.tariffSet tset) app5 totals5 1000000 .close, .slotRemove true,
       .pendingCopy (.tariffSet .factory) rqS (.tariffSet 0)]
    mgmt := { applyingTariffs.mgmt with slot := ⟨some .factory, none⟩ } }

theorem witness_ApplicationPutsInForce_withdrawn :
    (recommitted.powered = true ∧ recommitted.power.state = .run
      ∧ recommitted.mgmt.slot = ⟨some .factory, none⟩
      ∧ recommitted.acct.totals.metrology < 4294967295)
    ∧ StoreWrite.slotRemove true ∈ recommitted.writes.drop 1
    ∧ StoreWrite.slotRemove true ∉ applyingTariffs.writes := by decide

/-- R33, R34, R109: the copy committed after the withdrawal is the one the close applies next. -/
theorem test_recommitted_copy_is_applied :
    ∃ t, execApplicationComplete recommitted = .next t ∧ t.mgmt.slot.tariffSet = some .factory
      ∧ t.meter.stage = .applying := ⟨_, rfl, by decide, by decide⟩

/-- A notice queue of `u` URGENT and then `r` ROUTINE entries. -/
def noticed (u r : Nat) : State :=
  { work with
    notices :=
      ⟨List.replicate u ⟨0, .timeInvalid, .urgent, .sent, .pending, 0⟩
        ++ List.replicate r ⟨1, .wake [], .routine, .unrouted, .pending, 0⟩, 0, 65535⟩ }

theorem witness_NoticeAdmission :
    (noticed 8 7).notices.entries.length < 16
    ∧ (16 ≤ (noticed 15 1).notices.entries.length
      ∧ ((noticed 15 1).classRoute .emergencyOn).cls = .urgent
      ∧ (noticed 15 1).notices.entries
        = List.replicate 15 ⟨0, .timeInvalid, .urgent, .sent, .pending, 0⟩
          ++ ⟨1, .wake [], .routine, .unrouted, .pending, 0⟩ :: []
      ∧ ∀ y ∈ List.replicate 15 (⟨0, .timeInvalid, .urgent, .sent, .pending, 0⟩ : NoticeEntry),
        y.cls = .urgent)
    ∧ (16 ≤ (noticed 16 0).notices.entries.length
      ∧ ∀ y ∈ (noticed 16 0).notices.entries, y.cls = .urgent)
    ∧ ((noticed 15 1).classRoute .wake).cls = .routine := by decide

/-! ### Witnesses: time base, calendar and distance -/

/-- `s` with the backup domain changed. -/
def backupOf (s : State) (f : Backup → Backup) : State :=
  { s with time := { s.time with backup := f s.time.backup } }

theorem witness_BackupDomainRuns :
    ((noSupply work).power.state = .off ∧ (noSupply work).time.backup.alive = true
      ∧ (noSupply work).time.newTrim = none ∧ 1 ≤ (noSupply work).time.backup.position
      ∧ (noSupply work).time.backup.trim.n ≠ 0
      ∧ (noSupply work).time.backup.trimCount + 1 < (noSupply work).time.backup.trim.n)
    ∧ ((backupOf (noSupply work) fun b => { b with position := 5, trimCount := 39 }).time.backup.position ≤ 5
      ∧ (backupOf (noSupply work) fun b => { b with trimCount := 39 }).time.backup.trim.n
        ≤ (backupOf (noSupply work) fun b => { b with trimCount := 39 }).time.backup.trimCount + 1)
    ∧ (noSupply State.reset).time.backup.trim.n = 0
    ∧ (work.power.state ≠ .off ∧ work.time.newTrim = none ∧ work.time.backup.alive = true)
    ∧ ({ work with time := { work.time with newTrim := some ⟨40, true⟩ } } : State).time.newTrim
        = some ⟨40, true⟩ := by decide

/-- `s` with `n` accepted edges since the last interval, and the largest residual. -/
def edged (s : State) (n : Nat) : State :=
  { s with distance := { s.distance with count := n, residual := 999 } }

theorem witness_IntervalMakesMetres :
    ((edged work 61).powered = true ∧ (edged work 61).distance.incoming = none
      ∧ (edged work 61).distance.running = true ∧ (edged work 61).distance.k ≠ 0
      ∧ (edged work 61).acct.totals.totalM + (edged work 61).distance.residual + 1000 * 60 < 4294967296)
    ∧ (State.reset.powered = true ∧ State.reset.distance.running = true ∧ State.reset.distance.k = 0)
    ∧ ((inHoldup work).powered = true ∧ (inHoldup work).distance.running = false) := by decide

theorem witness_EdgesAreFiltered :
    (work.distance.running = true ∧ work.distance.holdoff = none)
    ∧ (((1199 : BitVec 32) - 1000).toNat < cal.sMin ∧ cal.sMin ≤ ((1200 : BitVec 32) - 1000).toNat)
    ∧ ({ work with distance := { work.distance with holdoff := some 1000 } } : State).distance.holdoff
        = some 1000
    ∧ (inHoldup work).distance.running = false := by decide

theorem witness_SecondEventAdvances :
    (work.time.staged = none ∧ work.time.backup.alive = true ∧ work.powered = true
      ∧ work.now < 4294967295)
    ∧ (backupOf work fun b => { b with counter := 4294967295 }).now = 4294967295
    ∧ (noSupply work).powered = false := by decide

/-- The front port of `work` DEGRADED, with its quiet run at `q` and `w` violations in the window. -/
def degraded (q w : Nat) : State :=
  work.modPort .front fun p => { p with health := .degraded, quiet := q, window := w }

theorem witness_SecondEventAdvances_ports :
    ((degraded 4 2).powered = true ∧ (degraded 4 2).time.staged = none
      ∧ (degraded 4 2).time.backup.alive = true ∧ ((degraded 4 2).port .front).running = true
      ∧ ((degraded 4 2).port .front).health = .degraded ∧ ((degraded 4 2).port .front).window ≤ 2
      ∧ 4 ≤ ((degraded 4 2).port .front).quiet ∧ ((degraded 4 2).port .rear).health = .good)
    ∧ ((degraded 3 2).port .front).quiet < 4 ∧ 2 < ((degraded 4 3).port .front).window
    ∧ ((inHoldup work).powered = true ∧ ((inHoldup work).port .front).running = false) := by decide

/-- `s` with a staged time of the modem. -/
def staged (s : State) (v : Nat) : State :=
  { s with time := { s.time with staged := some ⟨v, rqM⟩ } }

theorem witness_SetTimeIsStagedAndTaken :
    ((staged work 5).fromMgmt .setTime rqM ∧ (staged work 5).time.staged ≠ none)
    ∧ (hired.fromMgmt .setTime rqM ∧ hired.time.staged = none ∧ hired.tripOpen = true
      ∧ hired.now + 1 + 120 < 1000122)
    ∧ (work.fromMgmt .setTime rqM ∧ work.time.staged = none
      ∧ ¬(work.tripOpen = true ∧ (work.now + 1 + 120 < 4294967295 ∨ 4294967295 + 120 < work.now + 1)))
    ∧ ((staged hired 999880).powered = true ∧ (staged hired 999880).link.front.running = true
      ∧ (staged hired 999880).time.staged = some ⟨999880, rqM⟩
      ∧ (staged hired 999880).tripOpen = true ∧ 999880 + 120 < (staged hired 999880).now + 1)
    ∧ ¬((staged hired 999881).now + 1 + 120 < 999881
      ∨ 999881 + 120 < (staged hired 999881).now + 1) := by decide

theorem witness_CalendarFollowsCounter :
    31701600 ≤ 4294967295
    ∧ (some newYear ∈ tset.holidays ∧ newYear.year = none
      ∧ newYear.month = (dateOf 31701600).month ∧ newYear.day = (dateOf 31701600).day)
    ∧ (∀ h, some h ∈ TariffSet.factory.holidays → ¬ h.month = 1) ∧ work.powered = true :=
  ⟨by decide, by decide +kernel, by intro h hh; simp [TariffSet.factory] at hh, by decide⟩

/-! ### Witnesses: the fare engine and the meter -/

theorem witness_IntervalChargesTrip :
    (edged hired 60).powered = true ∧ (edged hired 60).distance.running = true
    ∧ (edged hired 60).distance.k ≠ 0 ∧ (edged hired 60).meter.state = .hired
    ∧ (edged hired 60).engine.mode = .running ∧ (edged hired 60).engine.q ≠ 0
    ∧ (edged hired 60).meter.trip = some trip9
    ∧ trip9.segments = [] ++ [⟨1, 999000, 7, 2, 900, 500⟩]
    ∧ (edged hired 60).activeTariff = some tariff1 ∧ tariff1.basis = some .max
    ∧ trip9.fare ≤ 9999999 ∧ 7 + 1 ≤ 4294967295 ∧ 900 + 61 ≤ 4294967295
    ∧ (edged hired 60).acct.totals.steps + 1 ≤ 4294967295 := by decide

theorem witness_NewSegmentKeepsProgress :
    hired.meter.trip = some trip9 ∧ hired.engine.pa < hired.engine.q
    ∧ 0 < tariff2.stepDm * hired.distance.k * tariff2.stepDs := by decide

/-- The minute in which band 2 becomes current, with `n` segments on the open trip. -/
def bandChanges (s : State) (n : Nat) : State :=
  let s := backupOf s fun b => { b with counter := 31701600 }
  { s with
    time := { s.time with band := some 2 }
    meter := { s.meter with
      trip := some { trip9 with segments := List.replicate n ⟨1, 999000, 7, 2, 900, 500⟩ } } }

theorem witness_NewSegmentKeepsProgress_bands :
    (work.powered = true ∧ work.time.backup.keptBand = work.mgmt.metrology.tariffSet.currentBand work.now)
    ∧ ((bandChanges hired 3).powered = true
      ∧ (bandChanges hired 3).mgmt.metrology.tariffSet.currentBand (bandChanges hired 3).now = some 2
      ∧ (bandChanges hired 3).time.backup.keptBand ≠ some 2
      ∧ (bandChanges hired 3).engine.mode = .running
      ∧ (bandChanges hired 3).activeTariff = some tariff1
      ∧ (bandChanges hired 3).bandEntry (some 2) = some band2 ∧ tariff1.followBand = true
      ∧ (bandChanges hired 3).engine.active ≠ some band2.default
      ∧ (bandChanges hired 3).tariff band2.default = some tariff2
      ∧ ((bandChanges hired 3).meter.trip.map (·.segments.length)) = some 3
      ∧ ((bandChanges hired 4).meter.trip.map (·.segments.length)) = some 4)
    ∧ (bandChanges paying 1).engine.mode ≠ .running
    ∧ ((bandChanges paying 1).fromConsole rqC ∧ (bandChanges paying 1).power.state = .run
      ∧ (bandChanges paying 1).meter.state = .pay ∧ (bandChanges paying 1).meter.closing = false
      ∧ (bandChanges paying 1).pay.session.state = .idle ∧ (bandChanges paying 1).pay.tenders = []
      ∧ (bandChanges paying 1).meter.correction ≠ 0 ∧ (bandChanges paying 1).meter.trip.isSome = true) := by
  decide +kernel

theorem witness_RequestsNeedRun :
    runRow (.hire rqC (.number 8)) = some (rqC, .hire)
    ∧ (powerAt work .restarting).fromConsole rqC
    ∧ (powerAt work .restarting).power.state ≠ .run := by decide

theorem witness_DutyRequestsDecided :
    (offState.fromConsole rqC ∧ offState.power.state = .run ∧ offState.meter.state = .offDuty
      ∧ offState.acct.shift.record ≠ none ∧ offState.acct.shift.limitSet = false
      ∧ offState.pins.metrologyOpen = false)
    ∧ (opened offState).pins.metrologyOpen = true
    ∧ (work.fromConsole rqC ∧ work.meter.state = .vacant) := by decide

theorem witness_HireDecided :
    (work.fromConsole rqC ∧ work.power.state = .run ∧ 1 ≤ 2 ∧ 2 ≤ 8)
    ∧ ((work.meter.state = .vacant ∧ work.pins.metrologyOpen = false
      ∧ work.mgmt.metrology.calibration.k ≠ 0 ∧ work.time.backup.timeInvalid = false)
      ∧ work.bandEntry work.time.band = some band1
      ∧ ((work.tariff 2).isNone || !band1.allowed.contains 2) = false
      ∧ (unreported work.acct.reportedThrough work.store.log).length < 64
      ∧ work.applying = false ∧ work.tariff 2 = some tariff2 ∧ work.meter.lastAssigned < 4294967295)
    ∧ (band1.default = 1 ∧ work.tariff 1 = some tariff1)
    ∧ offState.meter.state ≠ .vacant := by decide

/-- HIRED with a fare of 0. -/
def freeRide : State := { hired with meter := { hired.meter with trip := some { trip9 with fare := 0 } } }

theorem witness_PayFreezesFare :
    (work.fromConsole rqC ∧ work.power.state = .run ∧ work.meter.state ≠ .hired)
    ∧ (hired.fromConsole rqC ∧ hired.power.state = .run ∧ hired.meter.state = .hired
      ∧ hired.meter.trip = some trip9 ∧ trip9.fare ≠ 0)
    ∧ (freeRide.fromConsole rqC ∧ freeRide.meter.trip = some { trip9 with fare := 0 }) := by decide

theorem witness_ResumeReturnsToHired :
    (paying.fromConsole rqC ∧ paying.power.state = .run ∧ paying.meter.state = .pay
      ∧ paying.meter.closing = false ∧ paying.pay.session.state = .idle ∧ paying.pay.tenders = []
      ∧ paying.meter.correction ≠ 0 ∧ paying.meter.trip = some trip9)
    ∧ (authWait.fromConsole rqC ∧ authWait.pay.session.state ≠ .idle) := by decide

theorem witness_ExtraJoinsFare :
    (work.fromConsole rqC ∧ work.power.state = .run ∧ work.meter.state = .vacant)
    ∧ (closing.fromConsole rqC ∧ closing.meter.trip = some trip9 ∧ closing.meter.state = .pay
      ∧ closing.meter.closing = true)
    ∧ (hired.fromConsole rqC ∧ hired.power.state = .run ∧ hired.meter.trip = some trip9
      ∧ hired.meter.state = .hired ∧ hired.extraRefusal trip9 1 = none
      ∧ hired.mgmt.metrology.tariffSet.extra 1 = some extra1 ∧ (∀ y ∈ trip9.extras, y.code ≠ 1)
      ∧ trip9.fare + extra1.amount ≤ 9999999)
    ∧ (paying.fromConsole rqC ∧ paying.meter.state = .pay ∧ paying.meter.closing = false
      ∧ paying.pay.session.state = .idle ∧ paying.extraRefusal trip9 1 = none
      ∧ paying.extraRefusal trip9 2 ≠ none) := by decide

theorem witness_EndUnpaidBeginsClose :
    (work.fromConsole rqC ∧ work.power.state = .run ∧ work.meter.state ≠ .pay)
    ∧ (closing.fromConsole rqC ∧ closing.power.state = .run ∧ closing.meter.state = .pay
      ∧ closing.meter.closing = true)
    ∧ (presented.fromConsole rqC ∧ presented.power.state = .run ∧ presented.meter.state = .pay
      ∧ presented.pay.session.state ≠ .idle)
    ∧ (paying.fromConsole rqC ∧ paying.power.state = .run ∧ paying.meter.trip = some trip9
      ∧ paying.meter.state = .pay ∧ paying.meter.closing = false
      ∧ paying.pay.session.state = .idle) := by decide

/-- The close of trip 9 with its update begun, under a log of `n` records. -/
def closeBegun (n : Nat) : State :=
  let s := writing closing [.closeUpdate trip9 carry0 totals5 1000000 9]
  { s with
    acct := { s.acct with entry := some trip9.contribution }
    store := { s.store with log := List.replicate n { trip9 with number := 1 } } }

theorem witness_CloseUpdateReleasesMeter :
    (closeBegun 63).power.state = .run
    ∧ (closeBegun 63).writes = .closeUpdate trip9 carry0 totals5 1000000 9 :: []
    ∧ carry0.report = false ∧ (closeBegun 63).meter.trip = some trip9
    ∧ (closeBegun 63).acct.entry = some trip9.contribution
    ∧ (closeBegun 63).mgmt.slot.tariffSet = none ∧ (closeBegun 63).mgmt.slot.calibration = none
    ∧ (closeBegun 63).power.park ≠ .waiting ∧ (closeBegun 63).store.log.length < 64 := by decide

theorem witness_ViewsAreOffered :
    (work.powered = true ∧ work.meter.console.mark = true ∧ work.holder .console = some cons
      ∧ work.presence cons = .present ∧ work.accepts .front = true)
    ∧ ((work.modView .paxDisplay fun v => { v with mark := false }).viewState .paxDisplay).mark = false
    ∧ (paying.fromRole .paxDisplay paxd ∧ paying.pay.session.state ≠ .offered)
    ∧ (offered.fromRole .paxDisplay paxd ∧ offered.pay.session.state = .offered
      ∧ offered.pay.session.offerAck = false)
    ∧ (acknowledged.fromRole .paxDisplay paxd ∧ acknowledged.pay.session.state = .offered
      ∧ acknowledged.pay.session.offerAck = true ∧ acknowledged.meter.snapshot = some 500
      ∧ acknowledged.meter.snapshot ≠ some 499 ∧ acknowledged.pay.session.viewMatch = false
      ∧ acknowledged.available .paxDisplay = true) := by decide

/-! ### Witnesses: the roof sign -/

/-- Every channel lit, with `n` low checks in a row. -/
def allLit (n : Nat) : State :=
  { work with
    sign := { work.sign with lamps := work.sign.lamps.map fun l => { l with lit := true, lowChecks := n } } }

theorem witness_LampsAreSetAndChecked :
    (work.fromConsole rqC ∧ 1 ≤ 6 ∧ 6 < 7)
    ∧ (work.fromMgmt .clearLamp rqM ∧ 0 ≤ 6 ∧ 6 < 7)
    ∧ (work.sign.lamps[1 - 1]? = some .start ∧ Lamp.start.lit = false)
    ∧ ((allLit 2).sign.lamps[6 - 1]? = some { Lamp.start with lit := true, lowChecks := 2 }
      ∧ ((allLit 2).channel (6 - 1)).maxMa < 1501 ∧ 99 < ((allLit 2).channel (6 - 1)).minMa
      ∧ ((allLit 2).channel (6 - 1)).minMa ≤ 100 ∧ Lamp.start.fault = .ok)
    ∧ (allLit 1).sign.lamps[6 - 1]? = some { Lamp.start with lit := true, lowChecks := 1 } := by decide

/-- The sampler seven samples into a change to `c`. -/
def ambientAt (c : AmbientLevel) (n : Nat) : State :=
  { work with sign := { work.sign with ambient := ⟨.night, 0, c, n⟩ } }

theorem witness_TestsAndAmbientRun :
    (work.fromMgmt .signTest rqS ∧ work.tripOpen = false ∧ 1 ≤ 60 ∧ 60 ≤ 60)
    ∧ (hired.fromMgmt .signTest rqS ∧ hired.tripOpen = true) ∧ work.powered = true
    ∧ (work.power.state = .run ∧ work.tables.brightness.tHigh ≤ 1600
      ∧ ¬ work.tables.brightness.tHigh ≤ 1599 ∧ 400 ≤ work.tables.brightness.tLow)
    ∧ ((ambientAt .day 7).sign.ambient.candidate = .day ∧ (ambientAt .day 7).sign.ambient.count = 7
      ∧ (ambientAt .day 7).sign.ambient.level ≠ .day)
    ∧ (ambientAt .day 6).sign.ambient.count < 7
    ∧ (ambientAt .dusk 7).sign.ambient.candidate ≠ .day := by decide

/-- The emergency switch held toward a target, with the emergency active or not. -/
def holding (target : Nat) (active : Bool) : State :=
  { work with sign := { work.sign with hold := .timing target, emergency := ⟨active, 7⟩ } }

theorem witness_EmergencyFollowsSwitch :
    (work.power.state = .run ∧ work.pins.emergencyClosed = false ∧ work.sign.hold = .released)
    ∧ ((holding 2 false).power.state = .run ∧ (holding 2 false).sign.hold = .timing 2
      ∧ (holding 2 false).sign.emergency.active = false)
    ∧ ((holding 10 true).sign.hold = .timing 10 ∧ (holding 10 true).sign.emergency.active = true
      ∧ (holding 10 true).fromMgmt .emergencyClear rqM)
    ∧ (work.fromMgmt .emergencyClear rqM ∧ work.sign.emergency.active = false) := by decide

/-! ### Witnesses: the partition intercom -/

/-- `s` with the intercom changed. -/
def talk (s : State) (f : Intercom → Intercom) : State := { s with intercom := f s.intercom }

/-- The monitor builder with `n` samples. -/
def monitoring (n : Nat) : State :=
  talk work fun i => { i with monitor := ⟨.running, List.replicate n 3, 65535, true⟩ }

theorem witness_CodecFrameWorksPaths :
    (inHoldup work).intercom.run = .muted ∧ parked.intercom.run = .stopped
    ∧ (hired.intercom.run = .running ∧ hired.intercom.position < 128
      ∧ hired.intercom.playing = none ∧ hired.intercom.queue = []
      ∧ hired.intercom.test = none ∧ hired.intercom.drv.stuck = false
      ∧ hired.intercom.pax.stuck = false)
    ∧ ((monitoring 40).powered = true ∧ (monitoring 40).intercom.monitor.state = .running
      ∧ 40 ≤ (monitoring 40).intercom.monitor.samples.length
      ∧ (monitoring 40).holder .modem = some modm ∧ (monitoring 40).link.monitor.length < 4) := by
  decide

/-- `s` with a prompt queue. -/
def prompting (l : List Nat) : State := talk work fun i => { i with queue := l }

/-- Prompt 0 playing its segment `k` with `n` samples left of it. -/
def playing (k n : Nat) : State :=
  talk work fun i =>
    { i with
      position := 127
      playing := some ⟨0, ⟨.both, 8000, [⟨880, 150⟩, ⟨0, 50⟩, ⟨660, 200⟩]⟩, k, n, 0⟩ }

theorem witness_PromptsWaitAndPlay :
    (work.fromConsole rqC ∧ (work.tables.prompts[5]?).join = none)
    ∧ (work.tables.prompts[1]?).join = some ⟨.pax, 8000, [⟨1000, 300⟩]⟩
    ∧ (1 ∈ (prompting [1]).intercom.queue ∧ 1 ∉ (prompting (List.replicate 7 0)).intercom.queue
      ∧ (prompting (List.replicate 7 0)).intercom.queue.length < 8
      ∧ 1 ∉ (prompting (List.replicate 8 0)).intercom.queue
      ∧ 8 ≤ (prompting (List.replicate 8 0)).intercom.queue.length)
    ∧ work.powered = true
    ∧ ((prompting [1]).intercom.run = .running ∧ (prompting [1]).intercom.playing = none
      ∧ (prompting [1]).intercom.test = none ∧ (prompting [1]).intercom.queue = 1 :: []
      ∧ (prompting [1]).intercom.position < 128 ∧ 10 ≤ 300)
    ∧ ((playing 2 0).powered = true ∧ (playing 2 0).intercom.playing.map (·.left) = some 0
      ∧ (playing 2 1).intercom.run = .running ∧ (playing 2 1).intercom.position < 128
      ∧ (playing 2 1).intercom.playing.map (·.left) = some 1
      ∧ (playing 2 1).intercom.playing.map (fun x => x.entry.tones[x.segment + 1]?) = some none
      ∧ (playing 1 1).intercom.playing.map (fun x => x.entry.tones[x.segment + 1]?)
        = some (some ⟨660, 200⟩)
      ∧ (playing 0 2).intercom.playing.map (·.left) = some 2)
    ∧ work.intercom.playing = none := by decide

/-- A driver's microphone that has heard a block of energy `e` over a floor of 100, in HIRED. -/
def heard (e h : Nat) : State :=
  talk hired fun i =>
    { i with
      position := 128
      drv := { i.drv with floor := some 100, sum := e * 128, peak := 5, active := true, hangover := h } }

/-- Both microphones after `n` quiet blocks, with peaks `a` and `b`, in VACANT. -/
def quietBlocks (n a b : Nat) : State :=
  talk work fun i =>
    { i with
      position := 128
      drv := { i.drv with peak := a, stuckCount := n, floor := some 100 }
      pax := { i.pax with peak := b, stuckCount := n } }

theorem witness_BlockDecidesSpeech :
    ((heard 10000 0).intercom.run = .running ∧ (heard 10000 0).intercom.position = 128
      ∧ (heard 10000 0).intercom.drv.floor = some 100
      ∧ (heard 10000 0).intercom.drv.stuck = false
      ∧ 10000 = (heard 10000 0).intercom.drv.sum / 128 ∧ 4 < (heard 10000 0).intercom.drv.peak
      ∧ (heard 10000 0).intercom.mode = .arbiter
      ∧ 100 * (heard 10000 0).tables.intercom.margin / 4 < 10000
      ∧ (heard 10000 0).tables.intercom.eMin ≤ 10000)
    ∧ (9999 < (heard 9999 23).tables.intercom.eMin ∧ (heard 9999 23).intercom.drv.active = true
      ∧ (heard 9999 23).intercom.drv.hangover + 1 < (heard 9999 23).tables.intercom.hangover)
    ∧ (heard 9999 24).tables.intercom.hangover ≤ (heard 9999 24).intercom.drv.hangover + 1
    ∧ ((inHoldup hired).intercom.run ≠ .running ∧ hired.intercom.position < 128) := by
  decide

theorem witness_BlockDecidesSpeech_quiet :
    ((quietBlocks 312 4 4).intercom.run = .running ∧ (quietBlocks 312 4 4).intercom.position = 128
      ∧ (quietBlocks 312 4 4).intercom.mode = .closed ∧ (quietBlocks 312 4 4).intercom.test = none)
    ∧ (∀ side, ((quietBlocks 312 4 4).intercom.mic side).stuck = false
      ∧ ((quietBlocks 312 4 4).intercom.mic side).peak ≤ 4
      ∧ 312 ≤ ((quietBlocks 312 4 4).intercom.mic side).stuckCount)
    ∧ ((quietBlocks 312 4 5).intercom.mic .drv).peak ≤ 4
    ∧ 4 < ((quietBlocks 312 4 5).intercom.mic .pax).peak
    ∧ 4 < ((quietBlocks 312 5 4).intercom.mic .drv).peak
    ∧ ¬ 312 ≤ ((quietBlocks 311 4 4).intercom.mic .drv).stuckCount
    ∧ ((quietBlocks 312 4 4).intercom.mic .pax).floor = none
    ∧ ((quietBlocks 312 4 4).intercom.mic .drv).floor = some 100 :=
  ⟨by decide, by intro side; cases side <;> decide, by decide, by decide, by decide, by decide,
   by decide, by decide⟩

/-- A speaker test of the service node on the driver's side, with `n` samples played. -/
def testing (n : Nat) : State :=
  talk work fun i => { i with test := some ⟨.drv, rqS, true, n, 0, 8000, 200000⟩ }

theorem witness_SpeakerTestMeasures :
    (hired.fromMgmt .speakerTest rqS ∧ hired.tripOpen = true)
    ∧ ((testing 0).fromMgmt .speakerTest rqS ∧ (testing 0).tripOpen = false
      ∧ (testing 0).intercom.test ≠ none)
    ∧ (work.fromMgmt .speakerTest rqS ∧ work.tripOpen = false ∧ work.intercom.test = none)
    ∧ ((testing 4000).powered = true ∧ (testing 4000).link.front.running = true
      ∧ rqS.src.seg = .front ∧ (testing 4000).power.park ≠ .waiting
      ∧ (testing 4000).intercom.test = some ⟨.drv, rqS, true, 4000, 0, 8000, 200000⟩)
    ∧ ((testing 3999).powered = true ∧ 3999 < 4000)
    ∧ ((testing 3999).intercom.run = .running ∧ (testing 3999).intercom.position < 128
      ∧ (testing 3999).intercom.playing = none
      ∧ (testing 3999).intercom.test = some ⟨.drv, rqS, true, 3999, 0, 8000, 200000⟩
      ∧ (testing 3999).intercom.drv.stuck = false ∧ (testing 3999).intercom.pax.stuck = false)
    ∧ (testing 4000).intercom.run = .running := by
  decide

/-- R152: the frame that follows the tone's last sample finds the test ended. -/
theorem test_frame_takes_test_end :
    (∃ t, execCodecFrame 5 7 (testing 4000) = .next t ∧ t.intercom.test = none
      ∧ t.intercom.position = (testing 4000).intercom.position + 1)
    ∧ (∃ t, execCodecFrame 5 7 (testing 3999) = .next t
      ∧ t.intercom.test.map (·.played) = some 4000) :=
  ⟨⟨_, rfl, by decide, by decide⟩, ⟨_, rfl, by decide⟩⟩

theorem witness_HireDecided_test :
    ((testing 9).fromConsole rqC ∧ (testing 9).power.state = .run ∧ (testing 9).meter.state = .vacant
      ∧ (testing 9).pins.metrologyOpen = false ∧ (testing 9).mgmt.metrology.calibration.k ≠ 0
      ∧ (testing 9).time.backup.timeInvalid = false ∧ (testing 9).applying = false)
    ∧ (testing 9).bandEntry (testing 9).time.band = some band1 ∧ (testing 9).tariff 1 = some tariff1
    ∧ (testing 9).intercom.test = some ⟨.drv, rqS, true, 9, 0, 8000, 200000⟩
    ∧ rqS.src.seg = .front := by decide

/-! ### Witnesses: card payment -/

theorem witness_OffersRunTheSession :
    (paying.fromConsole rqC ∧ paying.meter.closing = false ∧ paying.meter.state = .pay
      ∧ paying.pay.session.state = .idle ∧ paying.remainingDue ≠ 0
      ∧ paying.holder .reader = some readr ∧ paying.presence readr = .present
      ∧ paying.pay.tenders.length < 6 ∧ paying.accepts .rear = true)
    ∧ (offered.fromRole .reader readr ∧ offered.pay.session.state = .offered
      ∧ offered.meter.trip = some trip9 ∧ offered.pay.session.viewMatch = true)
    ∧ ((paySession paying ⟨.offered, 500, 75, 1, false, false⟩ []).fromRole .reader readr
      ∧ (paySession paying ⟨.offered, 500, 75, 1, false, false⟩ []).pay.session.viewMatch = false
      ∧ (paySession paying ⟨.offered, 500, 75, 1, false, false⟩ []).available .paxDisplay = true)
    ∧ (acknowledged.fromRole .paxDisplay paxd ∧ acknowledged.pay.session.state = .offered
      ∧ acknowledged.meter.snapshot ≠ none ∧ acknowledged.pay.session.offerAck = true
      ∧ offered.fromRole .paxDisplay paxd ∧ offered.pay.session.offerAck = false)
    ∧ (presented.fromConsole rqC ∧ presented.meter.closing = false ∧ presented.meter.state = .pay
      ∧ presented.pay.session.state = .presented)
    ∧ (authWait.fromConsole rqC ∧ authWait.meter.closing = false ∧ authWait.meter.state = .pay
      ∧ authWait.pay.session.state = .authWait) := by decide

theorem witness_CashJoinsTenders :
    (paying.fromConsole rqC ∧ paying.meter.closing = false ∧ paying.meter.trip = some trip9
      ∧ paying.meter.state = .pay ∧ paying.pay.session.state = .idle ∧ paying.remainingDue = 500
      ∧ paying.pay.tenders.length < 6 ∧ 499 < paying.remainingDue ∧ paying.remainingDue ≤ 500)
    ∧ (work.fromConsole rqC ∧ work.meter.closing = false ∧ work.meter.state ≠ .pay) := by decide

theorem witness_AuthorizationsAreDecided :
    (presented.fromRole .reader readr ∧ readr.num ≠ 0 ∧ modm.num ≠ 0 ∧ modm.seg ≠ readr.seg
      ∧ presented.matching ⟨modm, readr, .payReq⟩
        = some (0, ⟨.role .reader, .any, .kind .payReq, .payment⟩)
      ∧ presented.pay.session.state = .presented ∧ presented.available .modem = true)
    ∧ (paying.fromRole .reader readr ∧ paying.pay.session.state ≠ .presented
      ∧ paying.matching ⟨modm, readr, .payReq⟩
        = some (0, ⟨.role .reader, .any, .kind .payReq, .payment⟩))
    ∧ (authWait.fromRole .modem modm
      ∧ authWait.matching ⟨readr, modm, .payResp⟩
        = some (1, ⟨.role .modem, .any, .kind .payResp, .payment⟩)
      ∧ authWait.pay.session.state = .authWait ∧ 1 ≤ authWait.pay.session.index
      ∧ authWait.pay.tenders[authWait.pay.session.index - 1]? = some tender1
      ∧ tender1.index = authWait.pay.session.index ∧ tender1.card = some card9
      ∧ card9.ref.epoch = authWait.pay.epoch) := by decide

/-- `s` with the modem LOST. -/
def modemLost (s : State) : State := frontNode s 2 ⟨.lost, 3, false⟩

/-- A late match entry of trip 9's first tender, and that tender and its advice as an offline decision
leaves them. -/
def late9 (accepted : Bool) : LateEntry := ⟨card9.ref, 500, 20, 1, accepted, 3⟩
def offline9 : AdviceRecord := { advice9 with ref := card9.ref, amount := 500 }

/-- PAY (or VACANT, from `work`) with the entry alone in the late match list and `l` in the advice queue. -/
def lateOf (s : State) (accepted : Bool) (l : List AdviceRecord) : State :=
  { s with
    pay := { s.pay with
      late := [late9 accepted], advice := l
      tenders :=
        [{ tender1 with
            status := if accepted then .offlineAccepted else .declined
            advice := if accepted then .queued else .none }] } }

theorem witness_AuthorizationsAreDecided_late :
    ((modemLost presented).fromRole .reader readr ∧ (modemLost presented).available .modem = false
      ∧ (modemLost presented).matching ⟨modm, readr, .payReq⟩
        = some (0, ⟨.role .reader, .any, .kind .payReq, .payment⟩)
      ∧ (modemLost presented).pay.session.state = .presented
      ∧ (modemLost presented).pay.session.index = (modemLost presented).pay.tenders.length + 1)
    ∧ (work.fromRole .modem modm
      ∧ work.matching ⟨readr, modm, .payResp⟩
        = some (1, ⟨.role .modem, .any, .kind .payResp, .payment⟩)
      ∧ (2 : Nat) ≠ work.pay.epoch ∧ card9.ref.epoch = work.pay.epoch
      ∧ work.pay.session.state ≠ .authWait ∧ work.pay.late = [])
    ∧ (∀ accepted, (lateOf paying accepted [offline9]).fromRole .modem modm
      ∧ (lateOf paying accepted [offline9]).matching ⟨readr, modm, .payResp⟩
        = some (1, ⟨.role .modem, .any, .kind .payResp, .payment⟩)
      ∧ (lateOf paying accepted [offline9]).pay.session.state ≠ .authWait
      ∧ (lateOf paying accepted [offline9]).pay.late = [] ++ late9 accepted :: []
      ∧ (lateOf paying accepted [offline9]).openTender card9.ref ≠ none
      ∧ (card9.ref, AdviceKind.offline)
        ∈ (lateOf paying accepted [offline9]).pay.advice.map fun r => (r.ref, r.kind))
    ∧ (∀ accepted, (lateOf work accepted []).openTender card9.ref = none
      ∧ (lateOf work accepted []).pay.late = [] ++ late9 accepted :: []
      ∧ (lateOf work accepted []).pay.advice.length < 32
      ∧ (lateOf work accepted []).acct.shift.record = some shift3)
    ∧ 32 ≤ (lateOf paying false (List.replicate 32 advice9)).pay.advice.length
    ∧ ({ lateOf work true [] with
        acct := { work.acct with shift := .none, last := some ⟨shift3, .notSent, .notSent⟩ } }
        : State).acct.last = some ⟨shift3, .notSent, .notSent⟩ := by decide

theorem witness_ExpiryDecidesOffline :
    ((inHoldup authWait).pay.session.state = .authWait ∧ (inHoldup authWait).pay.auth = .running 20
      ∧ (inHoldup authWait).power.state = .holdup)
    ∧ (authWait.pay.session.state = .authWait ∧ authWait.pay.auth = .running 20
      ∧ authWait.power.state = .run ∧ 1 ≤ authWait.pay.session.index
      ∧ authWait.pay.tenders[authWait.pay.session.index - 1]? = some tender1
      ∧ tender1.index = authWait.pay.session.index ∧ tender1.card = some card9) := by decide

/-- The modem LOST, with advice 9 in flight. -/
def adviceWaits : State :=
  let s := frontNode work 2 ⟨.lost, 3, false⟩
  { s with
    pay := { s.pay with advice := [{ advice9 with inFlight := true }], ackTimer := .running 1 } }

theorem witness_AdviceIsAcknowledged :
    (adviceWaits.powered = true ∧ adviceWaits.pay.ackTimer = .running 1
      ∧ adviceWaits.available .modem = false)
    ∧ (adviceWaits.fromRole .modem modm
      ∧ ∃ r ∈ adviceWaits.pay.advice, r.ref = ⟨1, 8, 1⟩ ∧ r.kind = .offline)
    ∧ ∀ r ∈ adviceWaits.pay.advice, ¬(r.ref = ⟨1, 8, 1⟩ ∧ r.kind = .disputed) := by decide

/-- PAY with an advice record of the open trip in flight and another behind it. -/
def adviceInFlight : State :=
  let s := lateOf paying true [{ offline9 with inFlight := true }, advice9]
  { s with pay := { s.pay with ackTimer := .running 1 } }

theorem witness_AdviceIsAcknowledged_next :
    (adviceInFlight.powered = true ∧ adviceInFlight.pay.ackTimer = .running 1
      ∧ adviceInFlight.pay.advice = { offline9 with inFlight := true } :: advice9 :: []
      ∧ adviceInFlight.holder .modem = some modm ∧ adviceInFlight.presence modm = .present
      ∧ adviceInFlight.pay.session.state ≠ .authWait ∧ adviceInFlight.accepts .front = true)
    ∧ (adviceInFlight.fromRole .modem modm ∧ offline9.kind = .offline
      ∧ ∀ x ∈ [advice9], x.ref ≠ card9.ref ∧ x.inFlight = false)
    ∧ (adviceInFlight.tripTender card9.ref ≠ none ∧ work.pay.ackTimer = .stopped) := by decide

/-! ### Witnesses: shift accounting -/

/-- OFF_DUTY with no shift open. -/
def noShift : State := { offState with acct := { offState.acct with shift := .none } }

/-- The close update of shift 3 waiting, with the modem LOST. -/
def closedShift : State :=
  let last : LastShift := ⟨shift3, .notSent, .notSent⟩
  let s := writing (modemLost noShift)
    [.shiftClose { carry0 with last := some last } totals5 1000000 rqC 3]
  { s with acct := { s.acct with last := some last } }

theorem witness_ShiftsOpenAndClose :
    (noShift.fromConsole rqC ∧ noShift.power.state = .run ∧ 1 ≤ 65535 ∧ 65535 < 65536
      ∧ noShift.meter.state = .offDuty ∧ noShift.acct.shift.record = none
      ∧ noShift.acct.lastNumber < 4294967295)
    ∧ (hired.fromConsole rqC ∧ hired.power.state = .run ∧ hired.acct.shift.record = some shift3
      ∧ hired.tripOpen = true)
    ∧ (offState.fromConsole rqC ∧ offState.power.state = .run
      ∧ offState.acct.shift.record = some shift3 ∧ offState.meter.state = .offDuty)
    ∧ (work.fromConsole rqC ∧ work.acct.shift.record = some shift3 ∧ work.meter.state = .vacant)
    ∧ (closedShift.powered = true ∧ closedShift.link.front.running = true
      ∧ closedShift.holder .console = some rqC.src ∧ closedShift.presence rqC.src = .present
      ∧ closedShift.available .modem = false
      ∧ closedShift.writes
        = .shiftClose { carry0 with last := some ⟨shift3, .notSent, .notSent⟩ } totals5 1000000 rqC 3 :: []
      ∧ closedShift.acct.last = some ⟨shift3, .notSent, .notSent⟩
      ∧ closedShift.link.front.queue.length ≤ 21)
    ∧ ((writing noShift [.shiftClose carry0 totals5 1000000 rqC 3]).writes
        = .shiftClose carry0 totals5 1000000 rqC 3 :: []
      ∧ noShift.powered = true ∧ noShift.link.front.running = true
      ∧ noShift.holder .console = some rqC.src ∧ carry0.report = false) := by decide

/-- A shift of 10 minutes' limit that has run 600 s. -/
def limited : State :=
  { work with acct := { work.acct with shift := ⟨some { shift3 with limit := 10 }, false⟩ } }

/-- Two trips in the log, the older one reported. -/
def logged : State :=
  { work with
    acct := { work.acct with reportedThrough := 7 }
    store := { work.store with log := [{ trip9 with number := 7 }, { trip9 with number := 8 }] } }

theorem witness_LimitAndReportsAreKept :
    (limited.power.state = .run ∧ limited.power.park ≠ .waiting
      ∧ limited.acct.shift.record = some { shift3 with limit := 10 }
      ∧ limited.acct.shift.limitSet = false ∧ 10 ≠ 0 ∧ 10 * 60 ≤ shift3.elapsed)
    ∧ (logged.fromMgmt .ackTrips rqM ∧ logged.store.log.getLast? = some { trip9 with number := 8 }
      ∧ logged.acct.reportedThrough < min 4294967295 8 ∧ min 7 8 ≤ logged.acct.reportedThrough) := by
  decide

/-! ### Witnesses: supply, parking and restart -/

/-- The checkpoint of trip 9 in HIRED at 999,990. -/
def saved9 : SaveRecord :=
  ⟨999990, false, .hired, some ⟨trip9, 1000, 0, some 1⟩, ⟨false, 0⟩, true, false⟩

/-- `s` in HOLDUP with the save alone waiting and the last sample `x`. -/
def saving (s : State) (x : Nat) : State :=
  let s := writing (inHoldup s) [.save .freshHoldup saved9 carry0 totals5]
  { s with power := { s.power with sample := x } }

/-- RUN after `n` samples below LOW. -/
def lowAfter (n : Nat) : State := { work with power := { work.power with lowCount := n } }

theorem witness_SupplyDropsAreHeld :
    (work.power.state = .run ∧ work.tables.power.low ≤ 900 ∧ 899 < work.tables.power.low
      ∧ (lowAfter 1).power.lowCount < 2 ∧ (lowAfter 2).power.state = .run
      ∧ (lowAfter 2).power.lowCount = 2)
    ∧ ((saving hired 1049).power.state = .holdup
      ∧ (saving hired 1049).writes = .save .freshHoldup saved9 carry0 totals5 :: []
      ∧ carry0.report = false
      ∧ (saving hired 1049).power.sample < (saving hired 1049).tables.power.restore)
    ∧ ((saving hired 1050).tables.power.restore ≤ (saving hired 1050).power.sample
      ∧ (saving hired 1050).meter.stage = .none ∧ (saving hired 1050).pay.authExpired = false)
    ∧ work.powered = true := by decide

/-- `s` with the ignition off and the park delay timer at `n`. -/
def parking (s : State) (n : Nat) : State :=
  { s with pins := { s.pins with ignition := false }, power := { s.power with park := .running n } }

theorem witness_ParkingAndWake :
    (work.power.state = .run ∧ work.power.park = .stopped ∧ work.pins.ignition = true)
    ∧ ((parking hired 1).power.state = .run ∧ (parking hired 1).power.park = .running 1
      ∧ (parking hired 1).tripOpen = true)
    ∧ ((parking work 1).power.park = .running 1 ∧ (parking work 1).tripOpen = false
      ∧ (parking work 1).pay.session.state = .idle ∧ (parking work 1).intercom.test = none)
    ∧ (parked.power.state = .parked ∧ parked.tables.power.restore ≤ parked.power.sample)
    ∧ work.power.state ≠ .parked := by decide

/-- PARKED with the ignition off, a shift at its limit and the last supply sample `x`. -/
def parkedAt (x : Nat) : State :=
  { parked with
    pins := { parked.pins with ignition := false }
    acct := { parked.acct with shift := ⟨some { shift3 with limit := 10 }, false⟩ }
    power := { parked.power with sample := x } }

theorem witness_ParkingAndWake_sources :
    ((parkedAt 1050).power.state = .parked
      ∧ (parkedAt 1050).tables.power.restore ≤ (parkedAt 1050).power.sample
      ∧ (parkedAt 1050).pins.ignition = false ∧ (parkedAt 1050).pins.emergencyClosed = false
      ∧ (parkedAt 1050).sign.hold = .released
      ∧ (parkedAt 1050).acct.shift.record = some { shift3 with limit := 10 }
      ∧ (parkedAt 1050).acct.shift.limitSet = false ∧ 10 ≠ 0 ∧ 10 * 60 ≤ shift3.elapsed)
    ∧ ((parkedAt 1050).link.front.running = false ∧ (parkedAt 1050).notices.entries.length < 15
      ∧ ((parkedAt 1050).classRoute .wake).route ≠ .console
      ∧ ((parkedAt 1050).classRoute .shiftLimit).route ≠ .console
      ∧ (parkedAt 1050).holder .modem ≠ none)
    ∧ ((parkedAt 1049).power.state = .parked
      ∧ (parkedAt 1049).power.sample < (parkedAt 1049).tables.power.restore) := by decide

/-- A stamped request waiting for its checkpoint. -/
def heldRequest : StampedReq := ⟨card9.ref, 3, 500, 20, 1, 77, []⟩

/-- AUTH_WAIT with the request's checkpoint waiting. -/
def holdingRequest : State :=
  let s := writing authWait [.checkpoint saved9 9 carry0 totals5 (some card9.ref)]
  { s with pay := { s.pay with held := some heldRequest, auth := .stopped } }

theorem witness_CheckpointsAreTaken :
    (hired.power.state = .run ∧ hired.power.checkpoint = .running 30 ∧ hired.meter.state = .hired)
    ∧ (hired.powered = true ∧ (writing hired [.checkpoint saved9 9 carry0 totals5 none]).writes
        = .checkpoint saved9 9 carry0 totals5 none :: [] ∧ carry0.report = false)
    ∧ (holdingRequest.powered = true
      ∧ holdingRequest.writes = .checkpoint saved9 9 carry0 totals5 (some heldRequest.ref) :: []
      ∧ holdingRequest.pay.held = some heldRequest ∧ holdingRequest.holder .modem = some modm
      ∧ holdingRequest.accepts .front = true) := by decide

/-- The part with trip 9 in its checkpoint, a resume limit of 15 minutes and a counter at `n`. -/
def checkpointed (n : Nat) : State :=
  let s := backupOf work fun b => { b with counter := n }
  { s with store := { s.store with checkpoint := saved9 } }

theorem witness_StartUpsRestore :
    (hired.fromMgmt .restart rqS ∧ hired.tripOpen = true)
    ∧ (work.fromMgmt .restart rqS ∧ work.tripOpen = false ∧ work.power.state ≠ .restarting)
    ∧ ((powerAt work .restarting).power.state = .restarting
      ∧ (writing work [.save .freshRequest saved9 carry0 totals5]).writes
        = .save .freshRequest saved9 carry0 totals5 :: [])
    ∧ ((noSupply work).power.state = .off ∧ (noSupply work).writes = []
      ∧ (noSupply work).store.tables.power.restore ≤ 1050
      ∧ 1049 < (noSupply work).store.tables.power.restore)
    ∧ ((checkpointed 1000890).powered = true ∧ (checkpointed 1000890).writes = []
      ∧ (checkpointed 1000890).store.checkpoint.trip = some ⟨trip9, 1000, 0, some 1⟩
      ∧ (∀ x ∈ (checkpointed 1000890).store.log, x.number ≠ trip9.number)
      ∧ (checkpointed 1000890).store.checkpoint.meter = .hired
      ∧ (checkpointed 1000890).store.checkpoint.timeInvalid = false
      ∧ (checkpointed 1000890).time.backup.timeInvalid = false
      ∧ (checkpointed 1000890).store.checkpoint.time ≤ (checkpointed 1000890).now
      ∧ (checkpointed 1000890).now ≤ (checkpointed 1000890).store.checkpoint.time
        + 60 * (checkpointed 1000890).store.metrology.tariffSet.general.resumeLimit)
    ∧ (backupOf (checkpointed 1000890) fun b => { b with timeInvalid := true }).time.backup.timeInvalid
      = true := by decide

/-! ### Refusals of `wellFormed`: one ill-formed command for each check -/

/-- A sender on node 8, which no address names. -/
def rq8 : Req := ⟨⟨.front, 8⟩, 5, .none⟩

theorem test_wf_body : (Instr.frameReceived .front (List.replicate 67 0)).wellFormed = false := by decide
theorem test_wf_source_zero :
    (Instr.dataFrame .front ⟨.front, 0⟩ readr []).wellFormed = false := by decide
theorem test_wf_destination : (Instr.dataFrame .front modm ⟨.rear, 8⟩ []).wellFormed = false := by decide
theorem test_wf_payload :
    (Instr.dataFrame .front modm readr (List.replicate 61 0)).wellFormed = false := by decide
theorem test_wf_repoll_node : (Instr.repollDue ⟨.front, 0⟩).wellFormed = false := by decide
theorem test_wf_sender : (Instr.onDuty rq8).wellFormed = false := by decide
theorem test_wf_tag : (Instr.onDuty ⟨cons, 256, .none⟩).wellFormed = false := by decide
theorem test_wf_echo : (Instr.restart ⟨serv, 5, ⟨1, 0, 65536⟩⟩).wellFormed = false := by decide
theorem test_wf_target_index : (Instr.write rqS (.forwarding 65536)).wellFormed = false := by decide
theorem test_wf_target_node : (Instr.write rqS (.roles ⟨.rear, 8⟩)).wellFormed = false := by decide
theorem test_wf_read_selector :
    (Instr.read rqM (.trip 1) (.trip 65536 0)).wellFormed = false := by decide
theorem test_wf_read_part : (Instr.read rqM (.shift 0) (.part 65536)).wellFormed = false := by decide
theorem test_wf_index : (Instr.promptsWrite rqS 65536 none).wellFormed = false := by decide
theorem test_wf_role_node : (Instr.rolesWrite rqS ⟨.front, 8⟩ none).wellFormed = false := by decide
theorem test_wf_pattern :
    (Instr.signPatternWrite rqS .off (some [some .on])).wellFormed = false := by decide
theorem test_wf_test_pattern : (Instr.signTest rqS 5 (some [])).wellFormed = false := by decide
theorem test_wf_duration : (Instr.signTest rqS 65536 none).wellFormed = false := by decide
theorem test_wf_code : (Instr.extra rqC 65536).wellFormed = false := by decide
theorem test_wf_driver : (Instr.shiftOpen rqC 4294967296).wellFormed = false := by decide
theorem test_wf_view_seq : (Instr.viewAck paxd 65536 0).wellFormed = false := by decide
theorem test_wf_view_fare : (Instr.viewAck paxd 0 4294967296).wellFormed = false := by decide
theorem test_wf_offer_trip : (Instr.offerAck readr 4294967296 1).wellFormed = false := by decide
theorem test_wf_ref_epoch : (Instr.adviceAck modm ⟨256, 9, 1⟩ none).wellFormed = false := by decide
theorem test_wf_ref_index : (Instr.adviceAck modm ⟨1, 9, 7⟩ none).wellFormed = false := by decide
theorem test_wf_request_id :
    (Instr.payReq readr modm ⟨65536, 0, 0, 0, []⟩).wellFormed = false := by decide
theorem test_wf_card :
    (Instr.payReq readr modm ⟨1, 0, 0, 0, List.replicate 41 0⟩).wellFormed = false := by decide
theorem test_wf_auth_code :
    (Instr.payResp modm readr ⟨⟨1, 9, 1⟩, .approved, List.replicate 9 0⟩).wellFormed = false := by decide
theorem test_wf_response_ref :
    (Instr.payResp modm readr ⟨⟨1, 9, 0⟩, .approved, []⟩).wellFormed = false := by decide
theorem test_wf_ambient : (Instr.ambientSample 4096).wellFormed = false := by decide
theorem test_wf_channel : (Instr.lampCheck 0 5).wellFormed = false := by decide
theorem test_wf_current : (Instr.lampCheck 1 65536).wellFormed = false := by decide
theorem test_wf_supply : (Instr.supplySample 4096).wellFormed = false := by decide
theorem test_wf_pin_ambient : (Instr.pinReset 4096).wellFormed = false := by decide
theorem test_wf_cold_sample : (Instr.coldStart 4096 0).wellFormed = false := by decide
theorem test_wf_accepts : (Instr.lampCheck 6 65535).wellFormed = true := by decide

/-! ### Small checks against the manual's numbers -/

/-- The state after a command; `s` itself at a stop. -/
def after (c : Instr) (s : State) : State :=
  match exec c s with
  | .next t => t
  | _ => s

/-- R3's check over the nine characters 123456789: the value every description of this CRC gives. -/
theorem test_crc : crc [0x31, 0x32, 0x33, 0x34, 0x35, 0x36, 0x37, 0x38, 0x39] = 0x29B1 := by decide +kernel

/-- R1: a byte's first bit is its most significant one. -/
theorem test_line_msb_first : (codedByte 0x80).take 2 = [(true, false), (false, true)] := by decide

/-- R1: the largest frame occupies 534 bit times. -/
theorem test_line_longest : (lineBits (List.replicate 66 0)).length = 534 := by decide +kernel

/-- 1.3: a rear node's address byte. -/
theorem test_address_byte : byteOfAddr ⟨.rear, 2⟩ = 0x82 := by decide

/-- 3.4: C = 31,701,600 is MON 2001-01-01, minute 1,320. -/
theorem test_calendar : dateOf 31701600 = ⟨2001, 1, 1⟩ ∧ weekday 31701600 = 0
    ∧ minuteOfDay 31701600 = 1320 := by decide +kernel

/-- 3.4: 2000 is a leap year and 2100 is not. -/
theorem test_leap : leapYear 2000 = true ∧ leapYear 2100 = false := by decide

/-- R47: the counter's range reaches 2136-02-07. -/
theorem test_last_date : dateOf 4294967295 = ⟨2136, 2, 7⟩ := by decide +kernel

/-- The calibration of 4.3 and 4.4: 8,000 pulses per kilometre, P_max 40. -/
def cal8 : Calibration := ⟨8000, 40, 2000, ⟨0, true⟩⟩

/-- `s` with that calibration in use and `n` edges in the interval. -/
def pulsed (s : State) (n : Nat) : State :=
  { s with distance := { (Distance.start cal8) with count := n } }

/-- 4.3: a raw count of 47 hands on 40 and counts 7 over the limit. -/
theorem test_clamp : (after .meterInterval (pulsed work 47)).distance.overrate = 7
    ∧ (after .meterInterval (pulsed work 47)).distance.lastP = 40 := by decide +kernel

/-- 4.4, the second interval: 10,000 gives 1 m and leaves 2,000. -/
theorem test_residual :
    let s := pulsed work 5
    (after .meterInterval { s with distance := { s.distance with residual := 5000 } }).distance.residual
      = 2000 := by decide +kernel

/-- Tariff 6 of 5.4 on a trip with FS 2 and a fare of 640. -/
def shortSteps : State :=
  let s := pulsed hired 40
  { s with
    engine := ⟨.running, some 1, 800000, 100000, 80000, 5, 700000, 2⟩
    mgmt := { s.mgmt with metrology := { s.mgmt.metrology with
      tariffSet := { tset with tariffs := [some { tariff1 with basis := some .sum }] } } }
    meter := { s.meter with trip := some { trip9 with fare := 640 } } }

theorem witness_IntervalChargesTrip_steps :
    shortSteps.powered = true ∧ shortSteps.distance.running = true ∧ shortSteps.distance.k ≠ 0
    ∧ shortSteps.meter.state = .hired ∧ shortSteps.engine.mode = .running
    ∧ shortSteps.activeTariff = some { tariff1 with basis := some .sum }
    ∧ 640 + 2 * shortSteps.engine.inc ≤ 9999999 ∧ 0 < shortSteps.engine.inc
    ∧ shortSteps.engine.fs + 2
      ≤ (shortSteps.engine.pa + (min 40 shortSteps.distance.pMax * shortSteps.engine.uD
          + shortSteps.engine.uT)) / shortSteps.engine.q := by decide +kernel

/-- 5.4, several steps in one interval: PA 780,000, FS 0, fare 655. -/
theorem test_several_steps : (after .meterInterval shortSteps).engine.pa = 780000
    ∧ (after .meterInterval shortSteps).fare = 655 := by decide +kernel

/-- 5.5, reaching FARE_MAX: three steps of 20 from 9,999,950. -/
theorem test_fare_max :
    (StepCount.many ⟨0, 0, 0, 0, 9999950, false⟩ 20 3).fare = 9999999
      ∧ (StepCount.many ⟨0, 0, 0, 0, 9999950, false⟩ 20 3).saturated = true := by decide

/-- 8.2: s = 10,000, g = 256, a = 64 give 2,500; s = 20,000, g = 512, a = 256 saturate. -/
theorem test_path_output : pathOutput 10000 256 64 = 2500 ∧ pathOutput 20000 512 256 = 32767 := by decide

/-- R146: the phase steps of 1,000 Hz and 880 Hz. -/
theorem test_phase_step : phaseStep 1000 = 8192 ∧ phaseStep 880 = 7209 := by decide

/-- R149: d = 1,000 and p = −3,000 give −8. -/
theorem test_monitor_sample : monitorSample 1000 (-3000) = -8 := by decide

/-- 9.4, a split payment: PAY_CARD of 3,000 offers a tip cap of 450. -/
theorem test_tip_cap :
    let s : State := { paying with meter := { paying.meter with snapshot := some 4200 } }
    (after (.payCard rqC (some 3000)) s).pay.session.tipCap = 450 := by decide +kernel

/-- 9.4: CASH of 5,000 over a remaining due of 4,200 enters as 4,200. -/
theorem test_cash :
    let s : State := { paying with meter := { paying.meter with snapshot := some 4200 } }
    (after (.cash rqC 5000) s).pay.tenders.map (·.amount) = [4200] := by decide +kernel

/-- 11.5: samples below LOW enter HOLDUP at the third. -/
theorem test_holdup : (after (.supplySample 850) (lowAfter 2)).power.state = .holdup
    ∧ (after (.supplySample 850) (lowAfter 1)).power.state = .run := by decide +kernel

/-- 6.10, the table's wake column: a wake marks both views, to HOLDUP as to RUN. -/
theorem test_wake_marks :
    let seen : Meter :=
      { parked.meter with console := ⟨false, true, 4⟩, pax := ⟨false, true, 9⟩, lastAck := none }
    let woken (x : Nat) : Meter := (after .ignitionOn { parkedAt x with meter := seen }).meter
    (woken 1049).console = ⟨true, false, 4⟩ ∧ (woken 1049).pax = ⟨true, false, 9⟩
      ∧ (woken 1050).console = ⟨true, false, 4⟩ ∧ (woken 1050).pax = ⟨true, false, 9⟩ := by
  decide +kernel

/-- 11.5: an outage within the resume limit restores the trip HIRED, one beyond it in PAY. -/
theorem test_outage :
    (after (.coldStart 1230 0) (noSupply (checkpointed 1000890))).meter.state = .hired
    ∧ (after (.coldStart 1230 0) (noSupply (checkpointed 1000891))).meter.state = .pay := by decide +kernel

/-- The state after reset is what the first cold start of a new part leaves. -/
theorem test_reset : exec (.coldStart 1050 0) newPart = .next .reset := rfl

/-- No row of the table carries bits, so no word spells a command. -/
theorem test_no_word : decodeTableWord 16 0x1234 = none := rfl

end Sys2Proof.Tests
end

/-! ### Admission to the notice queue (R38) -/

namespace Sys2Proof.Machine

open Sys2Proof

/-! #### What an offer forms -/

/-- The CONSOLE mark of a fresh entry is pending unless the route is MODEM alone (R38). -/
theorem routeMarks_console_pending_iff (r : Route) :
    (routeMarks r).1 = .pending ↔ r ≠ .modem := by
  cases r <;> decide

/-- The MODEM mark of a fresh entry is pending unless the route is CONSOLE alone (R38). -/
theorem routeMarks_modem_pending_iff (r : Route) :
    (routeMarks r).2 = .pending ↔ r ≠ .console := by
  cases r <;> decide

@[simp] theorem State.noticeEntry_seq (s : State) (n : Notice) :
    (s.noticeEntry n).seq = s.notices.nextSeq := rfl

@[simp] theorem State.noticeEntry_notice (s : State) (n : Notice) :
    (s.noticeEntry n).notice = n := rfl

@[simp] theorem State.noticeEntry_cls (s : State) (n : Notice) :
    (s.noticeEntry n).cls = (s.classRoute n.kind).cls := rfl

@[simp] theorem State.noticeEntry_time (s : State) (n : Notice) :
    (s.noticeEntry n).time = s.now := rfl

theorem State.noticeEntry_console_pending_iff (s : State) (n : Notice) :
    (s.noticeEntry n).console = .pending ↔ (s.classRoute n.kind).route ≠ .modem :=
  routeMarks_console_pending_iff _

theorem State.noticeEntry_modem_pending_iff (s : State) (n : Notice) :
    (s.noticeEntry n).modem = .pending ↔ (s.classRoute n.kind).route ≠ .console :=
  routeMarks_modem_pending_iff _

/-! #### What the queue does with it -/

/-- The search of an eviction finds the first ROUTINE entry, which is the oldest (R38). -/
theorem findIdx?_routine_of_urgent_prefix {a b : List NoticeEntry} {x : NoticeEntry}
    (hx : x.cls = .routine) (ha : ∀ y ∈ a, y.cls = .urgent) :
    (a ++ x :: b).findIdx? (fun y => y.cls == .routine) = some a.length := by
  have hnone : a.findIdx? (fun y => y.cls == .routine) = none := by
    rw [List.findIdx?_eq_none_iff]
    intro y hy
    simp [ha y hy]
  simp [List.findIdx?_append, hnone, List.findIdx?_cons, hx]

/-- The search of an eviction fails among URGENT entries alone (R38). -/
theorem findIdx?_routine_of_all_urgent {l : List NoticeEntry} (hl : ∀ y ∈ l, y.cls = .urgent) :
    l.findIdx? (fun y => y.cls == .routine) = none := by
  rw [List.findIdx?_eq_none_iff]
  intro y hy
  simp [hl y hy]

/-- With room, an entry joins behind the others. -/
theorem NoticeQueue.enqueue_of_room {q : NoticeQueue} (e : NoticeEntry)
    (hroom : q.entries.length < 16) :
    q.enqueue e = (⟨q.entries ++ [e], q.drops, (q.nextSeq + 1) % 65536⟩, true) := by
  rw [NoticeQueue.enqueue, if_pos hroom, wrap16]

/-- At a full queue an URGENT entry evicts the oldest ROUTINE one, which is counted as a drop. -/
theorem NoticeQueue.enqueue_evicts {q : NoticeQueue} {e x : NoticeEntry} {a b : List NoticeEntry}
    (hfull : 16 ≤ q.entries.length) (he : e.cls = .urgent) (hq : q.entries = a ++ x :: b)
    (hx : x.cls = .routine) (ha : ∀ y ∈ a, y.cls = .urgent) :
    q.enqueue e
      = (⟨a ++ b ++ [e], min (q.drops + 1) 65535, (q.nextSeq + 1) % 65536⟩, true) := by
  have hfind : q.entries.findIdx? (fun y => y.cls == .routine) = some a.length := by
    rw [hq, findIdx?_routine_of_urgent_prefix hx ha]
  have herase : q.entries.eraseIdx a.length = a ++ b := by
    simp [hq, List.eraseIdx_append_of_length_le]
  rw [NoticeQueue.enqueue, if_neg (Nat.not_lt.mpr hfull)]
  simp only [he, hfind, herase, satInc, max16, wrap16]

/-- At a full queue a ROUTINE entry, or one with no ROUTINE entry to evict, is dropped and counted. -/
theorem NoticeQueue.enqueue_drops {q : NoticeQueue} {e : NoticeEntry}
    (hfull : 16 ≤ q.entries.length)
    (h : e.cls = .routine ∨ ∀ y ∈ q.entries, y.cls = .urgent) :
    q.enqueue e
      = (⟨q.entries, min (q.drops + 1) 65535, (q.nextSeq + 1) % 65536⟩, false) := by
  rw [NoticeQueue.enqueue, if_neg (Nat.not_lt.mpr hfull)]
  rcases h with hroutine | hurgent
  · simp only [hroutine, satInc, max16, wrap16]
  · simp only [findIdx?_routine_of_all_urgent hurgent, satInc, max16, wrap16]
    cases e.cls <;> rfl

/-- An offer leaves the queue as the admission makes it; only an entry that joins brings a drain attempt
(R38, R39). -/
theorem State.offerNotice_eq (s : State) (n : Notice) :
    s.offerNotice n =
      if (s.notices.enqueue (s.noticeEntry n)).2 = true then
        State.drain { s with notices := (s.notices.enqueue (s.noticeEntry n)).1 }
      else { s with notices := (s.notices.enqueue (s.noticeEntry n)).1 } := by
  unfold State.offerNotice
  rcases s.notices.enqueue (s.noticeEntry n) with ⟨q, _ | _⟩ <;> rfl

/-- Settles O25: the entry's fields are those of the moment of the offer, and the three cases of the
admission (room, eviction, drop) are the three equations of `NoticeQueue.enqueue`. -/
theorem noticeAdmission : Obligations.NoticeAdmission := by
  rintro s n c rfl e r q
  refine ⟨s.offerNotice_eq n, s.noticeEntry_seq n, s.noticeEntry_notice n, s.noticeEntry_cls n,
    s.noticeEntry_time n, s.noticeEntry_console_pending_iff n, s.noticeEntry_modem_pending_iff n,
    s.notices.enqueue_nextSeq e, ?room, ?evicts, ?drops⟩
  case room =>
    intro hroom
    have hr : r = _ := NoticeQueue.enqueue_of_room e hroom
    simp only [q, hr, and_self]
  case evicts =>
    intro a x b hfull hurgent hentries hx ha
    have hr : r = _ := NoticeQueue.enqueue_evicts (e := e) hfull hurgent hentries hx ha
    simp only [q, hr, and_self]
  case drops =>
    intro hfull h
    have hr : r = _ := NoticeQueue.enqueue_drops (e := e) hfull h
    simp only [q, hr, and_self]

end Sys2Proof.Machine

/-! ### Changes of the meter state (R93) and the duty requests (R96, R97) -/

namespace Sys2Proof.Machine

open Sys2Proof

/-! #### One try at a view (R113) -/

/-- A refused offer changes nothing (R10). -/
theorem State.offerRole_refused {s : State} {r : Role} {c : Content}
    (h : (s.offerRole r c).2 = false) : (s.offerRole r c).1 = s := by
  unfold State.offerRole State.offer State.offerFrame at h ⊢
  cases hr : s.holder r with
  | none => rfl
  | some a =>
    rw [hr] at h
    by_cases ha : s.accepts a.seg = true <;> simp_all

/-- An offer neither starts nor stops the front port. -/
@[simp] theorem State.offerRole_front_running (s : State) (r : Role) (c : Content) :
    (s.offerRole r c).1.link.front.running = s.link.front.running := by
  unfold State.offerRole State.offer State.offerFrame
  cases s.holder r with
  | none => rfl
  | some a =>
    by_cases ha : s.accepts a.seg = true
    · cases hseg : a.seg <;> simp_all [State.modPort]
    · simp [ha]

/-- A try at a view does nothing, or the offered view counts as sent under its number: the mark is cleared,
the hold-off timer runs and the sequence number rises (R113). -/
theorem State.tryView_cases (s : State) (d : ViewDest) :
    s.tryView d = s ∨
      s.tryView d =
        (s.offerRole (viewRole d) (.fareView (s.buildView (s.viewState d)))).1.modView d
          fun v => ⟨false, true, wrap16 v.seq⟩ := by
  unfold State.tryView
  simp only
  split
  · split
    · next s' h => exact .inr (by rw [h])
    · next s' h =>
      have hs := State.offerRole_refused (congrArg Prod.snd h)
      exact .inl (by rw [← hs, h])
  · exact .inl rfl

/-- A try at a view neither starts nor stops the front port. -/
@[simp] theorem State.tryView_front_running (s : State) (d : ViewDest) :
    (s.tryView d).link.front.running = s.link.front.running := by
  rcases s.tryView_cases d with h | h <;> simp [h]

/-- A try at a view keeps the last view acknowledgement. -/
@[simp] theorem State.tryView_lastAck (s : State) (d : ViewDest) :
    (s.tryView d).meter.lastAck = s.meter.lastAck := by
  rcases s.tryView_cases d with h | h
  · rw [h]
  · cases d <;> simp [h, State.modView]

/-- A try at one destination's view leaves the other destination's view state. -/
theorem State.tryView_viewState_of_ne (s : State) {d e : ViewDest} (hne : e ≠ d) :
    (s.tryView d).viewState e = s.viewState e := by
  rcases s.tryView_cases d with h | h
  · rw [h]
  · cases d <;> cases e <;> simp_all [State.modView, State.viewState]

/-- A pending view is still pending after a try, or was sent under its next number (R113). -/
theorem State.tryView_viewMarked {s : State} {d : ViewDest} (hm : (s.viewState d).mark = true) :
    s.viewMarked (s.tryView d) d := by
  rcases s.tryView_cases d with h | h
  · exact .inl (by rw [h]; exact hm)
  · refine .inr ?_
    cases d <;> simp [h, State.modView, State.viewState, wrap16]

/-! #### Marking both views (R112) -/

/-- `viewMarked` reads the sequence number alone of the state before. -/
theorem State.viewMarked_congr {s s' t : State} {d : ViewDest}
    (hseq : (s'.viewState d).seq = (s.viewState d).seq) (h : s'.viewMarked t d) :
    s.viewMarked t d := by
  unfold State.viewMarked at h ⊢
  rwa [hseq] at h

/-- `viewMarked` reads the destination's view state alone of the state after. -/
theorem State.viewMarked_congr_after {s t t' : State} {d : ViewDest}
    (hview : t'.viewState d = t.viewState d) (h : s.viewMarked t d) : s.viewMarked t' d := by
  unfold State.viewMarked at h ⊢
  rwa [hview]

/-- The marks set, every view is pending under the number it had. -/
theorem State.setMarks_viewState (s : State) (d : ViewDest) :
    s.setMarks.viewState d = { s.viewState d with mark := true } := by
  cases d <;> simp [State.viewState]

/-- After `markViews` each view is pending or was sent under its next number (R112, R113). -/
theorem State.markViews_viewMarked (s : State) (d : ViewDest) : s.viewMarked s.markViews d := by
  have hmark (e : ViewDest) : (s.setMarks.viewState e).mark = true := by
    rw [State.setMarks_viewState]
  have hseq (e : ViewDest) : (s.setMarks.viewState e).seq = (s.viewState e).seq := by
    rw [State.setMarks_viewState]
  unfold State.markViews
  cases d with
  | console =>
    exact State.viewMarked_congr_after (State.tryView_viewState_of_ne _ (by decide))
      (State.viewMarked_congr (hseq .console) (State.tryView_viewMarked (hmark .console)))
  | paxDisplay =>
    have hpax : (s.setMarks.tryView .console).viewState .paxDisplay
        = s.setMarks.viewState .paxDisplay := State.tryView_viewState_of_ne _ (by decide)
    refine State.viewMarked_congr ?_ (State.tryView_viewMarked ?_)
    · rw [hpax, hseq]
    · rw [hpax, hmark]

@[simp] theorem State.markViews_front_running (s : State) :
    s.markViews.link.front.running = s.link.front.running := by
  simp [State.markViews]

@[simp] theorem State.markViews_lastAck (s : State) :
    s.markViews.meter.lastAck = s.meter.lastAck := by
  simp [State.markViews]

/-! #### A change of the meter state (R93) -/

/-- The intercom told of the meter state stands in its mode (R139). -/
@[simp] theorem State.followMeter_mode (s : State) :
    s.followMeter.intercom.mode = modeOf s.meter.state := by
  simp only [State.followMeter]
  split
  · next h => exact h
  · rfl

/-- A checkpoint takes the record of the state in which it is begun (R207). -/
theorem State.beginCheckpoint_begins (s : State) :
    ∃ a c o, .checkpoint s.saveRecord a c o none ∈ s.beginCheckpoint.writes := by
  refine ⟨s.meter.lastAssigned, s.acct.carry, s.acct.totalsNow, ?_⟩
  simp [State.beginCheckpoint, State.beginCarrying, State.begin]

/-- A change of the meter state ends with a checkpoint and the marking of both views; before them the meter
controller has the new state without an acknowledgement, the intercom its mode, and the link is as it was
(R93, R115, R139). -/
theorem State.setMeterState_ends (s : State) (m : MeterState) :
    ∃ u : State, s.setMeterState m = u.beginCheckpoint.markViews
      ∧ u.meter = { s.meter with state := m, lastAck := none } ∧ u.intercom.mode = modeOf m
      ∧ u.link = s.link := by
  refine ⟨_, rfl, ?_⟩
  split <;> simp

/-- A change of the meter state neither starts nor stops the front port. -/
@[simp] theorem State.setMeterState_front_running (s : State) (m : MeterState) :
    (s.setMeterState m).link.front.running = s.link.front.running := by
  obtain ⟨u, hends, -, -, hlink⟩ := s.setMeterState_ends m
  simp [hends, hlink]

/-- The two modes of the intercom by the meter state (R139). -/
theorem modeOf_eq (m : MeterState) :
    modeOf m = if m = .hired ∨ m = .pay then .arbiter else .closed := by
  cases m <;> rfl

/-- A change of the meter state does all that `movedTo` asks (R93). -/
theorem State.setMeterState_movedTo (s : State) (m : MeterState) :
    s.movedTo (s.setMeterState m) m := by
  obtain ⟨u, hends, hmeter, hmode, -⟩ := s.setMeterState_ends m
  have hmarked (d : ViewDest) : s.viewMarked u.beginCheckpoint.markViews d := by
    refine State.viewMarked_congr ?_ (State.markViews_viewMarked _ d)
    cases d <;> simp [State.viewState, hmeter]
  obtain ⟨a, c, o, hbegun⟩ := u.beginCheckpoint_begins
  rw [hends]
  refine ⟨?state, ?ack, ?mode, ⟨u.saveRecord, a, c, o, ?record, ?begun⟩, hmarked .console,
    hmarked .paxDisplay⟩
  case state => simp [hmeter]
  case ack => simp [hmeter]
  case mode => simp [hmode, modeOf_eq]
  case record => simp [State.saveRecord, hmeter]
  case begun => simpa using hbegun

/-- The parts that a change of the meter state and its answer can touch are those named here. -/
theorem State.setMeterState_consoleRespond_sameBut (s : State) (m : MeterState) (rq : Req)
    (n : ConsoleName) (r : ConsoleResult) (d : ConsoleData) :
    s.sameBut [.link, .meter, .sign, .intercom, .acct, .power, .writes]
      ((s.setMeterState m).consoleRespond rq n r d) := by
  intro p hp
  cases p <;> simp [Part.same] at hp ⊢

/-! #### Answers to a console request (R94) -/

/-- The holder of a role depends on the role table alone. -/
theorem State.holder_congr {s t : State} (h : t.tables = s.tables) (r : Role) :
    t.holder r = s.holder r := by
  simp only [State.holder, h]

/-- An answer to the console leaves what `movedTo` speaks of. -/
theorem State.movedTo_consoleRespond {s t : State} {m : MeterState} (h : s.movedTo t m) (rq : Req)
    (n : ConsoleName) (r : ConsoleResult) (d : ConsoleData) :
    s.movedTo (t.consoleRespond rq n r d) m := by
  simpa [State.movedTo, State.viewMarked, State.viewState] using h

/-- A console request finds the front port running. -/
theorem State.front_running_of_fromConsole {s : State} {rq : Req} (h : s.fromConsole rq) :
    s.link.front.running = true :=
  State.running_of_receives h.1

/-- A refusal changes nothing but the front transmit queue, which takes the answer. -/
theorem State.refusal_consoleRespond {s : State} {rq : Req} (h : s.fromConsole rq) (n : ConsoleName)
    (r : ConsoleResult) :
    s.sameBut [.link] (s.consoleRespond rq n r)
      ∧ s.frontTook (s.consoleRespond rq n r) (consoleAnswer rq n r) := by
  constructor
  · intro p hp
    cases p <;> simp [Part.same] at hp ⊢
  · unfold State.frontTook
    rw [State.consoleRespond_front n r .none h.2 (State.front_running_of_fromConsole h)]

/-- An accepted change of the meter state: the change itself, its frame, and the answer (R93, R94). -/
theorem State.moved_consoleRespond {s : State} {rq : Req} (h : s.fromConsole rq) (m : MeterState)
    (n : ConsoleName) :
    s.movedTo ((s.setMeterState m).consoleRespond rq n .accepted) m
      ∧ s.sameBut [.link, .meter, .sign, .intercom, .acct, .power, .writes]
        ((s.setMeterState m).consoleRespond rq n .accepted)
      ∧ offeredTo ((s.setMeterState m).consoleRespond rq n .accepted).link.front.queue
        (consoleAnswer rq n .accepted) := by
  refine ⟨State.movedTo_consoleRespond (s.setMeterState_movedTo m) ..,
    s.setMeterState_consoleRespond_sameBut m rq n .accepted .none, ?_⟩
  have hholder : (s.setMeterState m).holder .console = some rq.src := by
    rw [State.holder_congr (s.setMeterState_keeps m).2.1, h.2]
  have hrunning : (s.setMeterState m).link.front.running = true := by
    rw [State.setMeterState_front_running, State.front_running_of_fromConsole h]
  rw [State.consoleRespond_front n .accepted .none hholder hrunning]
  exact offeredTo_joined ..

/-! #### ON_DUTY and OFF_DUTY (R96, R97) -/

/-- The refusals of an ON_DUTY in the order of R96. -/
theorem State.onDutyRefusal_eq (s : State) :
    s.onDutyRefusal =
      if s.meter.state ≠ .offDuty then some .refusedState
      else if s.acct.shift.record = none then some .noShift
      else if s.acct.shift.limitSet = true then some .shiftLimit
      else if s.pins.metrologyOpen = true then some .metrologyOpen else none := by
  simp only [State.onDutyRefusal, Option.isNone_iff_eq_none]

/-- An ON_DUTY of the console reaches its decision. -/
theorem exec_onDuty_of_fromConsole {s : State} {rq : Req} (h : s.fromConsole rq) :
    exec (.onDuty rq) s = .next (s.decideOnDuty rq) :=
  congrArg Host.Outcome.next (State.whenConsole_of _ h)

/-- An OFF_DUTY of the console reaches its decision. -/
theorem exec_offDuty_of_fromConsole {s : State} {rq : Req} (h : s.fromConsole rq) :
    exec (.offDuty rq) s = .next (s.decideOffDuty rq) :=
  congrArg Host.Outcome.next (State.whenConsole_of _ h)

/-- In RUN a refused ON_DUTY is answered with its refusal (R96). -/
theorem State.decideOnDuty_refused {s : State} (rq : Req) {r : ConsoleResult}
    (hrun : s.power.state = .run) (hr : s.onDutyRefusal = some r) :
    s.decideOnDuty rq = s.consoleRespond rq .onDuty r := by
  rw [State.decideOnDuty, State.whenRun_of _ hrun, hr]

/-- In RUN an ON_DUTY that nothing refuses makes the meter VACANT (R96). -/
theorem State.decideOnDuty_accepted {s : State} (rq : Req)
    (hrun : s.power.state = .run) (hr : s.onDutyRefusal = none) :
    s.decideOnDuty rq = (s.setMeterState .vacant).consoleRespond rq .onDuty .accepted := by
  rw [State.decideOnDuty, State.whenRun_of _ hrun, hr]

/-- In RUN an OFF_DUTY outside VACANT is refused (R97). -/
theorem State.decideOffDuty_refused {s : State} (rq : Req)
    (hrun : s.power.state = .run) (hstate : s.meter.state ≠ .vacant) :
    s.decideOffDuty rq = s.consoleRespond rq .offDuty .refusedState := by
  rw [State.decideOffDuty, State.whenRun_of _ hrun, if_neg hstate]

/-- In RUN an OFF_DUTY in VACANT moves the meter to OFF_DUTY (R97). -/
theorem State.decideOffDuty_accepted {s : State} (rq : Req)
    (hrun : s.power.state = .run) (hstate : s.meter.state = .vacant) :
    s.decideOffDuty rq = (s.setMeterState .offDuty).consoleRespond rq .offDuty .accepted := by
  rw [State.decideOffDuty, State.whenRun_of _ hrun, if_pos hstate]

/-- Settles O35: each of the four outcomes is a refusal, which adds its answer alone, or a change of the
meter state with the answer behind it. -/
theorem dutyRequestsDecided : Obligations.DutyRequestsDecided := by
  intro rq s hfrom hrun refusal
  have hrefusal : s.onDutyRefusal = refusal := s.onDutyRefusal_eq
  rw [exec_onDuty_of_fromConsole hfrom, exec_offDuty_of_fromConsole hfrom]
  refine ⟨?onRefused, ?onAccepted, ?offRefused, ?offAccepted⟩
  case onRefused =>
    intro r hr
    rw [State.decideOnDuty_refused rq hrun (hrefusal.trans hr)]
    exact ⟨_, rfl, State.refusal_consoleRespond hfrom .onDuty r⟩
  case onAccepted =>
    intro hr
    rw [State.decideOnDuty_accepted rq hrun (hrefusal.trans hr)]
    exact ⟨_, rfl, State.moved_consoleRespond hfrom .vacant .onDuty⟩
  case offRefused =>
    intro hstate
    rw [State.decideOffDuty_refused rq hrun hstate]
    exact ⟨_, rfl, State.refusal_consoleRespond hfrom .offDuty .refusedState⟩
  case offAccepted =>
    intro hstate
    rw [State.decideOffDuty_accepted rq hrun hstate]
    exact ⟨_, rfl, State.moved_consoleRespond hfrom .offDuty .offDuty⟩

end Sys2Proof.Machine

/-! ### Cash (R162) and the report of the remaining due (R163) -/

namespace Sys2Proof.Machine

open Sys2Proof

/-! #### What a try at the views leaves of the meter controller (R112, R113) -/

/-- A try at a view leaves the closing mark and the snapshot. -/
theorem State.tryView_closing_snapshot (s : State) (d : ViewDest) :
    (s.tryView d).meter.closing = s.meter.closing
      ∧ (s.tryView d).meter.snapshot = s.meter.snapshot := by
  rcases s.tryView_cases d with h | h
  · rw [h]; exact ⟨rfl, rfl⟩
  · cases d <;> simp [h, State.modView]

@[simp] theorem State.markViews_closing (s : State) :
    s.markViews.meter.closing = s.meter.closing := by
  simp [State.markViews, State.tryView_closing_snapshot]

@[simp] theorem State.markViews_snapshot (s : State) :
    s.markViews.meter.snapshot = s.meter.snapshot := by
  simp [State.markViews, State.tryView_closing_snapshot]

/-! #### The remaining due (R103) -/

/-- The remaining due depends on the meter state, the snapshot and the tenders alone. -/
theorem State.remainingDue_congr {s t : State} (hstate : t.meter.state = s.meter.state)
    (hsnapshot : t.meter.snapshot = s.meter.snapshot) (htenders : t.pay.tenders = s.pay.tenders) :
    t.remainingDue = s.remainingDue := by
  simp only [State.remainingDue, hstate, hsnapshot, htenders]

/-- A counted tender at the end of the list adds its amount to the sum (R157). -/
theorem countedSum_append_of_counted (l : List Tender) {x : Tender} (h : x.status.counted = true) :
    countedSum (l ++ [x]) = countedSum l + x.amount := by
  simp [countedSum, h]

/-- A counted tender that joins lowers the remaining due by its amount. -/
theorem State.remainingDue_of_joins {s t : State} {x : Tender} (hmeter : t.meter = s.meter)
    (htenders : t.pay.tenders = s.pay.tenders ++ [x]) (h : x.status.counted = true) :
    t.remainingDue = s.remainingDue - x.amount := by
  simp only [State.remainingDue, hmeter, htenders, countedSum_append_of_counted _ h]
  split
  · exact Nat.sub_add_eq ..
  · exact (Nat.zero_sub _).symm

@[simp] theorem State.markViews_remainingDue (s : State) :
    s.markViews.remainingDue = s.remainingDue := by
  apply State.remainingDue_congr <;> simp

/-! #### The start of a close (R108, R109) -/

/-- With a trip open a close sets the closing mark and completes the record; the meter state and the snapshot
stay. -/
theorem State.beginClose_meter {s : State} {r : TripRecord} (u : Nat) (h : s.meter.trip = some r) :
    (s.beginClose u).meter.closing = true
      ∧ (s.beginClose u).meter.trip
        = some { r with stop := s.now, tenders := s.pay.tenders, unpaid := u }
      ∧ (s.beginClose u).meter.state = s.meter.state
      ∧ (s.beginClose u).meter.snapshot = s.meter.snapshot := by
  simp [State.beginClose, h]

/-- The sign, the views and the close update of a close leave every frame in its queue. -/
theorem State.closeSteps_grows (s : State) (r : TripRecord) :
    s.grows (s.recompose.markViews.beginCloseUpdate r) :=
  State.grows_trans (State.grows_after (by simp) s.recompose.markViews_grows)
    (State.grows_of_link (by simp))

/-- The transmit queues only grow at the start of a close. -/
theorem State.beginClose_grows (s : State) (u : Nat) : s.grows (s.beginClose u) := by
  unfold State.beginClose
  split
  · exact s.grows_refl
  · refine State.grows_after ?_ (State.closeSteps_grows _ _)
    rfl

/-! #### The report of the remaining due (R163) -/

/-- A remaining due above 0 brings the marking of the views alone. -/
theorem State.reportDue_of_pos {s : State} (h : 0 < s.remainingDue) : s.reportDue = s.markViews := by
  have hne : s.markViews.remainingDue ≠ 0 := by rw [State.markViews_remainingDue]; omega
  rw [State.reportDue, if_neg fun hclose => hne hclose.1]

/-- A remaining due of 0, the session IDLE and no close in progress, begins the close with nothing unpaid. -/
theorem State.reportDue_of_zero {s : State} {r : TripRecord} (hdue : s.remainingDue = 0)
    (hidle : s.pay.session.state = .idle) (hclosing : s.meter.closing = false)
    (htrip : s.meter.trip = some r) :
    s.reportDue.meter.closing = true
      ∧ s.reportDue.meter.trip
        = some { r with stop := s.now, tenders := s.pay.tenders, unpaid := 0 } := by
  have hcloses : s.reportDue = s.markViews.beginClose 0 := by
    rw [State.reportDue, if_pos]
    simp [hdue, hidle, hclosing]
  have hopen : s.markViews.meter.trip = some r := by rw [s.markViews_trip.1, htrip]
  obtain ⟨hmark, hrecord, -, -⟩ := State.beginClose_meter 0 hopen
  rw [hcloses]
  refine ⟨hmark, ?_⟩
  rw [hrecord]
  simp [State.now]

/-- The transmit queues only grow at the report. -/
theorem State.reportDue_grows (s : State) : s.grows s.reportDue := by
  unfold State.reportDue
  simp only
  split
  · exact State.grows_trans s.markViews_grows (State.beginClose_grows _ 0)
  · exact s.markViews_grows

/-- The report leaves the remaining due as it is. -/
theorem State.reportDue_remainingDue {s : State} {r : TripRecord} (h : s.meter.trip = some r) :
    s.reportDue.remainingDue = s.remainingDue := by
  have htrip : s.markViews.meter.trip = some r := by rw [s.markViews_trip.1, h]
  obtain ⟨-, -, hstate, hsnapshot⟩ := State.beginClose_meter 0 htrip
  unfold State.reportDue
  simp only
  split
  · rw [State.remainingDue_congr hstate hsnapshot (by simp), State.markViews_remainingDue]
  · exact s.markViews_remainingDue

/-! #### The decision of a CASH (R94, R162) -/

/-- The tender of a CASH of `a`, behind the tenders of the list (R162). -/
def State.cashTender (s : State) (a : Nat) : Tender :=
  ⟨s.pay.tenders.length + 1, a, 0, none, .cash, none, .none⟩

/-- The state with the tender of a CASH in its list and the tender's checkpoint begun (R162, R207). -/
def State.takeCash (s : State) (a : Nat) : State := (s.addTender (s.cashTender a)).beginCheckpoint

/-- The state whose remaining due an accepted CASH reports: the tender entered and the answer given. -/
def State.answerCash (s : State) (rq : Req) (a : Nat) : State :=
  (s.takeCash a).consoleRespond rq .cash .accepted (.cash a (s.takeCash a).remainingDue)

/-- A CASH of the console reaches its decision. -/
theorem exec_cash_of_fromConsole {s : State} {rq : Req} (amount : Nat) (h : s.fromConsole rq) :
    exec (.cash rq amount) s = .next (s.decideCash rq amount) :=
  congrArg Host.Outcome.next (State.whenConsole_of _ h)

/-- With no close in progress a refused CASH is answered with its refusal. -/
theorem State.decideCash_refused {s : State} (rq : Req) {amount : Nat} {x : ConsoleResult}
    (hclosing : s.meter.closing = false) (hx : s.cashRefusal amount = some x) :
    s.decideCash rq amount = s.consoleRespond rq .cash x := by
  simp [State.decideCash, State.whenNotClosing, hclosing, hx]

/-- With no close in progress a CASH that nothing refuses enters its tender, is answered, and reports the
remaining due. -/
theorem State.decideCash_accepted {s : State} (rq : Req) {amount : Nat}
    (hclosing : s.meter.closing = false) (hx : s.cashRefusal amount = none) :
    s.decideCash rq amount = (s.answerCash rq (min amount s.remainingDue)).reportDue := by
  simp [State.decideCash, State.whenNotClosing, hclosing, hx, State.answerCash, State.takeCash,
    State.cashTender]

/-- A CASH that nothing refuses finds the session IDLE and room in the tender list. -/
theorem State.idle_and_room_of_cashRefusal {s : State} {amount : Nat}
    (h : s.cashRefusal amount = none) :
    s.pay.session.state = .idle ∧ s.pay.tenders.length < 6 := by
  unfold State.cashRefusal at h
  split_ifs at h with hstate hsession hzero hdue hfull
  exact ⟨not_not.mp hsession, Nat.lt_of_not_le hfull⟩

/-! #### The tender in the list and its answer (R162) -/

/-- With room in the list a CASH changes nothing of the payment controller but the list. -/
theorem State.takeCash_pay {s : State} (a : Nat) (hroom : s.pay.tenders.length < 6) :
    (s.takeCash a).pay = { s.pay with tenders := s.pay.tenders ++ [s.cashTender a] } := by
  simp [State.takeCash, State.addTender, hroom]

/-- The tender and its checkpoint leave the link, the tables, the clock and the meter controller. -/
@[simp] theorem State.takeCash_keeps (s : State) (a : Nat) :
    (s.takeCash a).link = s.link ∧ (s.takeCash a).tables = s.tables
      ∧ (s.takeCash a).time = s.time ∧ (s.takeCash a).meter = s.meter := by
  simp [State.takeCash]

/-- The cash tender counts toward the fare, so it lowers the remaining due by its amount. -/
theorem State.takeCash_remainingDue {s : State} (a : Nat) (hroom : s.pay.tenders.length < 6) :
    (s.takeCash a).remainingDue = s.remainingDue - a :=
  State.remainingDue_of_joins (x := s.cashTender a) (by simp) (by rw [State.takeCash_pay a hroom]) rfl

/-- The answer leaves the meter controller. -/
@[simp] theorem State.answerCash_meter (s : State) (rq : Req) (a : Nat) :
    (s.answerCash rq a).meter = s.meter := by
  simp [State.answerCash]

/-- The answer leaves the clock. -/
@[simp] theorem State.answerCash_now (s : State) (rq : Req) (a : Nat) :
    (s.answerCash rq a).now = s.now := by
  simp [State.answerCash, State.now]

/-- The answer leaves the payment controller as the tender made it. -/
theorem State.answerCash_pay {s : State} (rq : Req) (a : Nat) (hroom : s.pay.tenders.length < 6) :
    (s.answerCash rq a).pay = { s.pay with tenders := s.pay.tenders ++ [s.cashTender a] } := by
  simp [State.answerCash, State.takeCash_pay a hroom]

/-- The answer leaves the remaining due that it carries. -/
theorem State.answerCash_remainingDue {s : State} (rq : Req) (a : Nat)
    (hroom : s.pay.tenders.length < 6) :
    (s.answerCash rq a).remainingDue = s.remainingDue - a := by
  rw [← State.takeCash_remainingDue a hroom]
  apply State.remainingDue_congr <;> simp [State.answerCash]

/-- The answer carries the amount and what is left, and the report after it leaves it in the queue. -/
theorem State.answerCash_reportDue_offered {s : State} {rq : Req} (hfrom : s.fromConsole rq) (a : Nat)
    (hroom : s.pay.tenders.length < 6) :
    offeredTo (s.answerCash rq a).reportDue.link.front.queue
      (consoleAnswer rq .cash .accepted (.cash a (s.remainingDue - a))) := by
  obtain ⟨hlink, htables, -, -⟩ := s.takeCash_keeps a
  have hholder : (s.takeCash a).holder .console = some rq.src := by
    rw [State.holder_congr htables, hfrom.2]
  have hrunning : (s.takeCash a).link.front.running = true := by
    rw [hlink, State.front_running_of_fromConsole hfrom]
  refine offeredTo_of_grows (State.reportDue_grows _) ?_
  rw [State.answerCash, State.consoleRespond_front .cash .accepted _ hholder hrunning,
    State.takeCash_remainingDue a hroom]
  exact offeredTo_joined ..

/-- Settles O51: a refusal adds its answer alone. An accepted CASH is its tender, its answer
(`answerCash`) and the report, whose two cases are those of the remaining due it finds. -/
theorem cashJoinsTenders : Obligations.CashJoinsTenders := by
  intro rq amount s hfrom hclosing refusal a
  have hrefusal : s.cashRefusal amount = refusal := rfl
  have ha : min amount s.remainingDue = a := Nat.min_def
  rw [exec_cash_of_fromConsole amount hfrom]
  refine ⟨?refused, ?accepted⟩
  case refused =>
    intro x hx
    rw [State.decideCash_refused rq hclosing (hrefusal.trans hx)]
    exact ⟨_, rfl, State.refusal_consoleRespond hfrom .cash x⟩
  case accepted =>
    intro r hx htrip
    obtain ⟨hidle, hroom⟩ := State.idle_and_room_of_cashRefusal (hrefusal.trans hx)
    have hpay := State.answerCash_pay rq a hroom
    have hdue := State.answerCash_remainingDue rq a hroom
    have hopen : (s.answerCash rq a).meter.trip = some r := by rw [State.answerCash_meter, htrip]
    rw [State.decideCash_accepted rq hclosing (hrefusal.trans hx), ha]
    refine ⟨_, rfl, ?tenders, ?due, ?session, State.answerCash_reportDue_offered hfrom a hroom,
      ?stays, ?closes⟩
    case tenders => simp [hpay, State.cashTender]
    case due => rw [State.reportDue_remainingDue hopen, hdue]
    case session => simp [hpay]
    case stays =>
      intro hless
      rw [State.reportDue_of_pos (by omega)]
      simp [hclosing]
    case closes =>
      intro hcovers
      simpa [hpay] using
        State.reportDue_of_zero (by omega) (by simp [hpay, hidle]) (by simp [hclosing]) hopen

end Sys2Proof.Machine

/-! ### Every step keeps the limits of the collections (R10, R11, 2.5, R147, R157, R170, R172, R190) -/

namespace Sys2Proof.Machine

open Sys2Proof

/-! #### The limits, part by part -/

/-- The link's share of `State.bounded`. -/
def Link.bounded (l : Link) : Prop :=
  l.front.queue.length ≤ 24 ∧ l.rear.queue.length ≤ 24 ∧ l.monitor.length ≤ 4

/-- The payment controller's share of `State.bounded`. -/
def Payment.bounded (p : Payment) : Prop :=
  p.late.length ≤ 16 ∧ p.advice.length ≤ 32 ∧ p.tenders.length ≤ 6

/-- The store's share of `State.bounded`. -/
def Store.bounded (st : Store) : Prop :=
  st.log.length ≤ 64 ∧ st.advice.length ≤ 32 ∧ st.save.tenders.length ≤ 6
    ∧ st.checkpoint.tenders.length ≤ 6

/-- The share of `State.bounded` of the waiting writes. -/
def boundedWrites (l : List StoreWrite) : Prop := ∀ w ∈ l, w.tenders.length ≤ 6

/-- All of the state that `State.bounded` reads. -/
def State.collections (s : State) : Link × NoticeQueue × List Nat × List LateEntry
    × List AdviceRecord × List Tender × Store × List StoreWrite :=
  (s.link, s.notices, s.intercom.queue, s.pay.late, s.pay.advice, s.pay.tenders, s.store, s.writes)

theorem State.bounded_iff {s : State} :
    s.bounded ↔ s.link.bounded ∧ s.notices.entries.length ≤ 16 ∧ s.intercom.queue.length ≤ 8
      ∧ s.pay.bounded ∧ s.store.bounded ∧ boundedWrites s.writes := by
  constructor
  · rintro ⟨hfront, hrear, hmonitor, hnotices, hprompts, hlate, hlog, hadvice, hstored, htenders,
      hsave, hcheckpoint, hwrites⟩
    exact ⟨⟨hfront, hrear, hmonitor⟩, hnotices, hprompts, ⟨hlate, hadvice, htenders⟩,
      ⟨hlog, hstored, hsave, hcheckpoint⟩, hwrites⟩
  · rintro ⟨⟨hfront, hrear, hmonitor⟩, hnotices, hprompts, ⟨hlate, hadvice, htenders⟩,
      ⟨hlog, hstored, hsave, hcheckpoint⟩, hwrites⟩
    exact ⟨hfront, hrear, hmonitor, hnotices, hprompts, hlate, hlog, hadvice, hstored, htenders,
      hsave, hcheckpoint, hwrites⟩

section

variable {s : State}

theorem State.bounded.link (h : s.bounded) : s.link.bounded := (State.bounded_iff.mp h).1

theorem State.bounded.notices (h : s.bounded) : s.notices.entries.length ≤ 16 :=
  (State.bounded_iff.mp h).2.1

theorem State.bounded.prompts (h : s.bounded) : s.intercom.queue.length ≤ 8 :=
  (State.bounded_iff.mp h).2.2.1

theorem State.bounded.pay (h : s.bounded) : s.pay.bounded := (State.bounded_iff.mp h).2.2.2.1

theorem State.bounded.store (h : s.bounded) : s.store.bounded := (State.bounded_iff.mp h).2.2.2.2.1

theorem State.bounded.writes (h : s.bounded) : boundedWrites s.writes :=
  (State.bounded_iff.mp h).2.2.2.2.2

theorem bounded_withLink (h : s.bounded) {l : Link} (hl : l.bounded) :
    State.bounded { s with link := l } :=
  State.bounded_iff.mpr ⟨hl, h.notices, h.prompts, h.pay, h.store, h.writes⟩

theorem bounded_withNotices (h : s.bounded) {q : NoticeQueue} (hq : q.entries.length ≤ 16) :
    State.bounded { s with notices := q } :=
  State.bounded_iff.mpr ⟨h.link, hq, h.prompts, h.pay, h.store, h.writes⟩

theorem bounded_withPrompts (h : s.bounded) {i : Intercom} (hi : i.queue.length ≤ 8) :
    State.bounded { s with intercom := i } :=
  State.bounded_iff.mpr ⟨h.link, h.notices, hi, h.pay, h.store, h.writes⟩

theorem bounded_withPay (h : s.bounded) {p : Payment} (hp : p.bounded) :
    State.bounded { s with pay := p } :=
  State.bounded_iff.mpr ⟨h.link, h.notices, h.prompts, hp, h.store, h.writes⟩

theorem bounded_withStore (h : s.bounded) {st : Store} (hs : st.bounded) :
    State.bounded { s with store := st } :=
  State.bounded_iff.mpr ⟨h.link, h.notices, h.prompts, h.pay, hs, h.writes⟩

theorem bounded_withWrites (h : s.bounded) {l : List StoreWrite} (hl : boundedWrites l) :
    State.bounded { s with writes := l } :=
  State.bounded_iff.mpr ⟨h.link, h.notices, h.prompts, h.pay, h.store, hl⟩

/-- Two states with the same collections are within their limits together: an update of anything else is
equal here by `rfl`. -/
theorem bounded_same {t : State} (h : s.bounded) (heq : t.collections = s.collections) :
    t.bounded := by
  unfold State.collections at heq
  simp only [Prod.mk.injEq] at heq
  obtain ⟨hlink, hnotices, hprompts, hlate, hadvice, htenders, hstore, hwrites⟩ := heq
  unfold State.bounded at h ⊢
  rwa [hlink, hnotices, hprompts, hlate, hadvice, htenders, hstore, hwrites]

/-- A condition that chooses between two states within their limits. -/
theorem bounded_ite {p : Prop} [Decidable p] {t : State} (hs : s.bounded) (ht : t.bounded) :
    (if p then s else t).bounded := by
  split
  · exact hs
  · exact ht

/-! #### Queues of the link -/

/-- A port changed with its transmit queue within its limit. -/
theorem bounded_modPort (h : s.bounded) {seg : Seg} {f : PortState → PortState}
    (hf : (f (s.port seg)).queue.length ≤ 24) : (s.modPort seg f).bounded := by
  obtain ⟨hfront, hrear, hmonitor⟩ := h.link
  cases seg
  · exact bounded_withLink h ⟨hf, hrear, hmonitor⟩
  · exact bounded_withLink h ⟨hfront, hf, hmonitor⟩

theorem State.bounded.port (h : s.bounded) (seg : Seg) : (s.port seg).queue.length ≤ 24 := by
  obtain ⟨hfront, hrear, -⟩ := h.link
  cases seg
  · exact hfront
  · exact hrear

/-- A port changed with no more frames in its transmit queue than before. -/
theorem bounded_modPort_of_le (h : s.bounded) {seg : Seg} {f : PortState → PortState}
    (hf : (f (s.port seg)).queue.length ≤ (s.port seg).queue.length) : (s.modPort seg f).bounded :=
  bounded_modPort h (hf.trans (h.port seg))

/-- A port changed with its transmit queue as it was. -/
theorem bounded_modPort_same (h : s.bounded) {seg : Seg} {f : PortState → PortState}
    (hf : ∀ p, (f p).queue = p.queue) : (s.modPort seg f).bounded :=
  bounded_modPort_of_le h (by rw [hf])

theorem bounded_modNode (h : s.bounded) (a : NodeAddr) (f : NodeEntry → NodeEntry) :
    (s.modNode a f).bounded := by
  unfold State.modNode
  exact bounded_ite h (bounded_modPort_same h fun _ => rfl)

theorem bounded_offerFrame (h : s.bounded) (seg : Seg) (f : Frame) :
    (s.offerFrame seg f).1.bounded := by
  unfold State.offerFrame State.accepts
  split
  · next hroom =>
    obtain ⟨-, hroom⟩ : _ ∧ (s.port seg).queue.length < 24 := by simpa using hroom
    refine bounded_modPort h ?_
    simpa using hroom
  · exact h

theorem bounded_offerRole (h : s.bounded) (r : Role) (c : Content) :
    (s.offerRole r c).1.bounded := by
  unfold State.offerRole
  split
  · exact bounded_offerFrame h _ _
  · exact h

/-- The state that a tested offer leaves. -/
theorem bounded_offerRole_of {t : State} {r : Role} {c : Content} {b : Bool}
    (h : s.bounded) (hoffer : s.offerRole r c = (t, b)) : t.bounded := by
  have := bounded_offerRole h r c
  rwa [hoffer] at this

theorem bounded_mgmtRespond (h : s.bounded) (rq : Req) (op : OpName) (t : Target) (r : MgmtResult)
    (d : RespData) : (s.mgmtRespond rq op t r d).bounded :=
  bounded_offerFrame h _ _

theorem bounded_consoleRespond (h : s.bounded) (rq : Req) (n : ConsoleName) (r : ConsoleResult)
    (d : ConsoleData) : (s.consoleRespond rq n r d).bounded :=
  bounded_offerRole h _ _

/-! #### The notice queue -/

theorem NoticeQueue.enqueue_length {q : NoticeQueue} (e : NoticeEntry) (h : q.entries.length ≤ 16) :
    (q.enqueue e).1.entries.length ≤ 16 := by
  unfold NoticeQueue.enqueue
  simp only
  split
  · simpa
  · split
    · next i hi =>
      have := (List.findIdx?_eq_some_iff_getElem.mp hi).1
      simp [List.length_eraseIdx]
      split <;> omega
    · exact h

theorem bounded_drainRoute (h : s.bounded) (r : Role) (e : NoticeEntry) (m : RouteMark) :
    (s.drainRoute r e m).1.bounded := by
  unfold State.drainRoute
  split
  · split <;> exact bounded_offerRole_of h ‹_›
  all_goals exact h

theorem bounded_drainHead (h : s.bounded) (e : NoticeEntry) : (s.drainHead e).1.bounded := by
  have hconsole := bounded_drainRoute h .console e e.console
  unfold State.drainHead
  split
  · next heq => rwa [heq] at hconsole
  · next heq =>
    rw [heq] at hconsole
    exact bounded_drainRoute hconsole .modem e e.modem

theorem bounded_drainLoop (h : s.bounded) (n : Nat) : (s.drainLoop n).bounded := by
  induction n generalizing s with
  | zero => exact h
  | succ n ih =>
    simp only [State.drainLoop]
    split
    · exact h
    · next e _ =>
      have hhead := bounded_drainHead h e
      split
      · exact bounded_withNotices hhead (by simpa using hhead.notices)
      · refine ih (bounded_withNotices hhead ?_)
        exact (List.length_eraseIdx_le ..).trans hhead.notices

theorem bounded_drain (h : s.bounded) : s.drain.bounded := by
  unfold State.drain
  exact bounded_ite (bounded_drainLoop h _) h

theorem bounded_offerNotice (h : s.bounded) (n : Notice) : (s.offerNotice n).bounded := by
  have hq := NoticeQueue.enqueue_length (s.noticeEntry n) h.notices
  rw [State.offerNotice_eq]
  exact bounded_ite (bounded_drain (bounded_withNotices h hq)) (bounded_withNotices h hq)

/-! #### Views -/

theorem bounded_modView (h : s.bounded) (d : ViewDest) (f : ViewState → ViewState) :
    (s.modView d f).bounded := by
  cases d <;> exact h

theorem bounded_tryView (h : s.bounded) (d : ViewDest) : (s.tryView d).bounded := by
  rcases s.tryView_cases d with heq | heq <;> rw [heq]
  · exact h
  · exact bounded_modView (bounded_offerRole h _ _) _ _

theorem bounded_setMarks (h : s.bounded) : s.setMarks.bounded := h

theorem bounded_markViews (h : s.bounded) : s.markViews.bounded :=
  bounded_tryView (bounded_tryView (bounded_setMarks h) _) _

/-! #### Waiting writes and their completion -/

theorem bounded_begin (h : s.bounded) {w : StoreWrite} (hw : w.tenders.length ≤ 6) :
    (s.begin w).bounded := by
  refine bounded_withWrites h ?_
  simp only [boundedWrites, List.mem_append, List.mem_singleton]
  rintro x (hx | rfl)
  · exact h.writes x hx
  · exact hw

/-- A write that carries no tenders, begun. -/
theorem bounded_begin_plain (h : s.bounded) {w : StoreWrite} (hw : w.tenders = []) :
    (s.begin w).bounded :=
  bounded_begin h (by simp [hw])

theorem bounded_beginCarrying (h : s.bounded) {w : StoreWrite} (hw : w.tenders.length ≤ 6) :
    (s.beginCarrying w).bounded :=
  bounded_begin h hw

theorem bounded_beginCarrying_plain (h : s.bounded) {w : StoreWrite}
    (hw : w.tenders = []) : (s.beginCarrying w).bounded :=
  bounded_begin_plain h hw

/-- A save and a checkpoint take over no more tenders than the list holds. -/
theorem State.saveRecord_tenders_length (h : s.bounded) : s.saveRecord.tenders.length ≤ 6 := by
  obtain ⟨-, -, htenders⟩ := h.pay
  unfold SaveRecord.tenders State.saveRecord State.savedTrip
  split
  · cases s.meter.trip <;> simp [htenders]
  · simp

theorem bounded_restartCheckpointTimer (h : s.bounded) : s.restartCheckpointTimer.bounded := by
  unfold State.restartCheckpointTimer
  exact bounded_ite h h

theorem bounded_beginCheckpoint (h : s.bounded) (r : Option Ref) : (s.beginCheckpoint r).bounded :=
  bounded_restartCheckpointTimer (bounded_beginCarrying h (State.saveRecord_tenders_length h))

theorem bounded_beginSave (h : s.bounded) (m : SaveMark) : (s.beginSave m).bounded :=
  bounded_beginCarrying h (State.saveRecord_tenders_length h)

theorem placeRecord_length {log : List TripRecord} (r : TripRecord) (h : log.length ≤ 64) :
    (placeRecord log r).length ≤ 64 := by
  unfold placeRecord
  split <;> simp <;> omega

theorem setAdvice_length {l : List AdviceRecord} (r : AdviceRecord) (h : l.length ≤ 32) :
    (setAdvice l r).length ≤ 32 := by
  unfold setAdvice
  split
  · simpa
  · split
    · simpa
    · exact h

/-- A completed write leaves the store within its limits. -/
theorem Store.bounded_apply {st : Store} (h : st.bounded) {w : StoreWrite}
    (hw : w.tenders.length ≤ 6) : (st.apply w).bounded := by
  obtain ⟨hlog, hadvice, hsave, hcheckpoint⟩ := h
  cases w with
  | closeUpdate r => exact ⟨placeRecord_length r hlog, hadvice, hsave, hcheckpoint⟩
  | save => exact ⟨hlog, hadvice, hw, hcheckpoint⟩
  | checkpoint => exact ⟨hlog, hadvice, hsave, hw⟩
  | adviceSet => exact ⟨hlog, setAdvice_length _ hadvice, hsave, hcheckpoint⟩
  | adviceRemove => exact ⟨hlog, (List.length_filter_le ..).trans hadvice, hsave, hcheckpoint⟩
  | _ => exact ⟨hlog, hadvice, hsave, hcheckpoint⟩

theorem Store.bounded_foldl_apply {st : Store} (h : st.bounded) {l : List StoreWrite}
    (hl : boundedWrites l) : (l.foldl Store.apply st).bounded := by
  induction l generalizing st with
  | nil => exact h
  | cons w l ih =>
    obtain ⟨hw, hl⟩ := List.forall_mem_cons.mp hl
    exact ih (Store.bounded_apply h hw) hl

theorem bounded_reportTo (h : s.bounded) (r : Role) (x : ShiftRecord) (m : ReportMark) :
    (s.reportTo r x m).1.bounded := by
  unfold State.reportTo
  split
  · exact bounded_offerRole (bounded_offerRole h _ _) _ _
  · exact h

theorem bounded_reportShift (h : s.bounded) (l : LastShift) : (s.reportShift l).bounded := by
  unfold State.reportShift
  extract_lets last
  have hconsole := bounded_reportTo h .console last.record last.console
  split
  next t c heq =>
    rw [heq] at hconsole
    have hmodem := bounded_reportTo hconsole .modem last.record last.modem
    split
    next u m heq =>
      rw [heq] at hmodem
      exact bounded_same hmodem (by rfl)

theorem bounded_completeWrite (h : s.bounded) {w : StoreWrite} (hw : w.tenders.length ≤ 6) :
    (s.completeWrite w).bounded := by
  have hstore := bounded_withStore h (Store.bounded_apply h.store hw)
  unfold State.completeWrite
  simp only
  split
  · exact bounded_reportShift hstore _
  · exact hstore

theorem bounded_foldl_completeWrite (h : s.bounded) {l : List StoreWrite} (hl : boundedWrites l) :
    (l.foldl State.completeWrite s).bounded := by
  induction l generalizing s with
  | nil => exact h
  | cons w l ih =>
    obtain ⟨hw, hl⟩ := List.forall_mem_cons.mp hl
    exact ih (bounded_completeWrite h hw) hl

/-- The writes taken up to one that a row completes, and the ones behind it, are the waiting writes. -/
theorem State.takeWrite_eq_some {kind : StoreWrite → Bool} {w : StoreWrite} {t : State}
    (h : s.takeWrite kind = some (w, t)) :
    ∃ before rest, s.writes = before ++ w :: rest ∧ kind w = true ∧ s.silent w = false
      ∧ (∀ x ∈ before, s.silent x = true)
      ∧ t = (before ++ [w]).foldl State.completeWrite { s with writes := rest } := by
  unfold State.takeWrite at h
  simp only at h
  split at h
  · cases h
  · next x rest hdrop =>
    split at h
    · next hkind =>
      cases h
      have hsplit := s.writes.takeWhile_append_dropWhile (p := s.silent)
      rw [hdrop] at hsplit
      refine ⟨s.writes.takeWhile s.silent, rest, hsplit.symm, hkind, ?_,
        fun x hx => List.mem_takeWhile_imp hx, rfl⟩
      have := List.head?_dropWhile_not s.silent s.writes
      simpa [hdrop] using this
    · cases h

theorem bounded_takeWrite {kind : StoreWrite → Bool} {w : StoreWrite} {t : State} (h : s.bounded)
    (htake : s.takeWrite kind = some (w, t)) : t.bounded := by
  obtain ⟨before, rest, hwrites, -, -, -, rfl⟩ := State.takeWrite_eq_some htake
  have hall : boundedWrites (before ++ w :: rest) := hwrites ▸ h.writes
  refine bounded_foldl_completeWrite (bounded_withWrites h fun x hx => hall x ?_)
    fun x hx => hall x ?_
  · simp [hx]
  · grind

theorem bounded_flushWrites (h : s.bounded) : s.flushWrites.bounded :=
  State.bounded_iff.mpr ⟨h.link, h.notices, h.prompts, h.pay,
    Store.bounded_foldl_apply h.store h.writes, by simp [State.flushWrites, boundedWrites]⟩

theorem bounded_cutWrites (h : s.bounded) : s.cutWrites.1.bounded :=
  State.bounded_iff.mpr ⟨h.link, h.notices, h.prompts, h.pay,
    Store.bounded_foldl_apply h.store fun w hw => h.writes w (List.mem_of_mem_take hw),
    by simp [State.cutWrites, boundedWrites]⟩

end

end Sys2Proof.Machine

namespace Sys2Proof.Machine

open Sys2Proof

section

variable {s : State}

/-! #### Intercom, sign and meter -/

theorem bounded_withIntercom (h : s.bounded) {i : Intercom} (hi : i.queue.length ≤ 8) :
    (s.withIntercom i).bounded :=
  bounded_withPrompts h hi

/-- The intercom changed with its prompt queue as it was. -/
theorem bounded_withIntercom_same (h : s.bounded) {i : Intercom}
    (hq : i.queue = s.intercom.queue) : (s.withIntercom i).bounded :=
  bounded_withIntercom h (by rw [hq]; exact h.prompts)

theorem bounded_recompose (h : s.bounded) : s.recompose.bounded := h

theorem bounded_modTrip (h : s.bounded) (f : TripRecord → TripRecord) : (s.modTrip f).bounded := h

theorem bounded_modShift (h : s.bounded) (f : ShiftRecord → ShiftRecord) : (s.modShift f).bounded :=
  h

theorem bounded_followMeter (h : s.bounded) : s.followMeter.bounded := by
  unfold State.followMeter
  exact bounded_ite h (bounded_withIntercom_same h (by rfl))

theorem bounded_requestPrompt (h : s.bounded) (i : Nat) : (s.requestPrompt i).1.bounded := by
  unfold State.requestPrompt
  split
  · exact h
  · split
    · exact bounded_withPrompts h (by simpa)
    · exact h

theorem bounded_trigger (h : s.bounded) (t : Trigger) : (s.trigger t).bounded := by
  unfold State.trigger
  refine bounded_ite ?_ h
  split
  · exact bounded_ite (bounded_requestPrompt h _) h
  · exact h

theorem bounded_endPrompt (h : s.bounded) : s.endPrompt.bounded := by
  unfold State.endPrompt
  split
  · exact bounded_ite (bounded_withIntercom_same h (by rfl)) h
  · exact h

/-- The prompts behind the one that starts are no more than those that waited. -/
theorem State.nextPrompt_length {l rest : List Nat} {x : Nat × PromptEntry}
    (h : s.nextPrompt l = some (x, rest)) : rest.length ≤ l.length := by
  induction l with
  | nil => cases h
  | cons i l ih =>
    unfold State.nextPrompt at h
    split at h
    · cases h
      exact Nat.le_succ _
    · exact (ih h).trans (Nat.le_succ _)

theorem bounded_startPrompt (h : s.bounded) : s.startPrompt.bounded := by
  unfold State.startPrompt
  split
  · split
    · next hnext => exact bounded_withIntercom h ((State.nextPrompt_length hnext).trans h.prompts)
    · exact bounded_withPrompts h (Nat.zero_le _)
  · exact h

theorem bounded_makeTones (h : s.bounded) : s.makeTones.1.bounded := by
  unfold State.makeTones
  split
  · exact bounded_ite (bounded_withIntercom_same h (by rfl)) h
  · split
    · simp only
      split
      · exact bounded_ite (bounded_withIntercom_same h (by rfl)) h
      · exact h
    · exact h

theorem bounded_decideMic (h : s.bounded) (side : Side) : (s.decideMic side).bounded := by
  cases side <;>
    exact bounded_ite (bounded_offerNotice (bounded_same h (by rfl)) _) (bounded_same h (by rfl))

theorem bounded_evaluateArbiter (h : s.bounded) : s.evaluateArbiter.bounded := by
  unfold State.evaluateArbiter
  exact bounded_ite (bounded_withIntercom_same h (by rfl)) h

theorem bounded_startTone (h : s.bounded) : s.startTone.bounded := by
  unfold State.startTone
  split
  · exact bounded_ite h (bounded_withIntercom_same h (by rfl))
  · exact h

theorem bounded_blockBoundary (h : s.bounded) : s.blockBoundary.bounded := by
  unfold State.blockBoundary
  exact bounded_ite h (bounded_startTone (bounded_evaluateArbiter
    (bounded_decideMic (bounded_decideMic (bounded_same h (by rfl)) _) _)))

theorem bounded_runFrame (h : s.bounded) (d p : Int) : (s.runFrame d p).bounded := by
  have htones : s.blockBoundary.endPrompt.startPrompt.makeTones.1.bounded :=
    bounded_makeTones (bounded_startPrompt (bounded_endPrompt (bounded_blockBoundary h)))
  exact bounded_same htones (by rfl)

theorem bounded_exchangeFrame (h : s.bounded) (d p : Int) : (s.exchangeFrame d p).bounded := by
  unfold State.exchangeFrame
  split
  · exact bounded_runFrame h _ _
  · exact bounded_same h (by rfl)
  · exact h

theorem bounded_monitorPause (h : s.bounded) : s.monitorPause.bounded := by
  unfold State.monitorPause
  exact bounded_ite h (bounded_same h (by rfl))

theorem bounded_monitorResume (h : s.bounded) : s.monitorResume.bounded := by
  unfold State.monitorResume
  exact bounded_ite h (bounded_same h (by rfl))

/-- A full monitor queue loses its oldest frame (R11). -/
theorem Link.bounded_audio {l : Link} (h : l.bounded) (f : Frame) : (l.audio f).bounded := by
  obtain ⟨hfront, hrear, hmonitor⟩ := h
  unfold Link.audio
  split
  · exact ⟨hfront, hrear, by simpa⟩
  · exact ⟨hfront, hrear, by simp; omega⟩

theorem bounded_completeMonitorFrame (h : s.bounded) : s.completeMonitorFrame.bounded := by
  unfold State.completeMonitorFrame
  refine bounded_ite ?_ h
  split
  · exact bounded_same (bounded_withLink h (Link.bounded_audio h.link _)) (by rfl)
  · exact h

theorem bounded_endSpeakerTest (h : s.bounded) (o : TestOutcome) (a t : Nat) :
    (s.endSpeakerTest o a t).bounded := by
  unfold State.endSpeakerTest
  split
  · exact bounded_mgmtRespond (bounded_withIntercom_same h (by rfl)) _ _ _ _ _
  · exact h

theorem bounded_abortSpeakerTest (h : s.bounded) : s.abortSpeakerTest.bounded :=
  bounded_endSpeakerTest h _ _ _

theorem bounded_measureTest (h : s.bounded) : s.measureTest.bounded := by
  unfold State.measureTest
  split
  · exact bounded_endSpeakerTest h _ _ _
  · exact h

theorem bounded_stopIntercom (h : s.bounded) (r : RunState) : (s.stopIntercom r).bounded := by
  have habort := bounded_abortSpeakerTest h
  unfold State.stopIntercom
  cases r <;> exact bounded_withIntercom habort (Nat.zero_le _)

theorem bounded_startIntercom (h : s.bounded) (d : Nat) : (s.startIntercom d).bounded := by
  have hstart : (s.withIntercom
      { Intercom.start with mode := modeOf s.meter.state, drops := d }).bounded :=
    bounded_withIntercom h (Nat.zero_le _)
  unfold State.startIntercom
  exact bounded_ite (bounded_same hstart (by rfl)) hstart

theorem bounded_endTest (h : s.bounded) : s.endTest.bounded := by
  unfold State.endTest
  split <;> exact h

theorem bounded_countTest (h : s.bounded) : s.countTest.bounded := by
  unfold State.countTest
  split
  · exact bounded_ite (bounded_endTest h) (bounded_same h (by rfl))
  · exact h

theorem bounded_checkLamp (h : s.bounded) (i current : Nat) : (s.checkLamp i current).bounded := by
  unfold State.checkLamp
  split
  · exact h
  · exact bounded_ite
      (bounded_ite (bounded_recompose (bounded_offerNotice (bounded_same h (by rfl)) _))
        (bounded_ite
          (bounded_ite (bounded_ite (bounded_offerNotice (bounded_same h (by rfl)) _) (bounded_same h (by rfl)))
            (bounded_same h (by rfl)))
          (bounded_same h (by rfl))))
      h

theorem bounded_setMeterState (h : s.bounded) (m : MeterState) : (s.setMeterState m).bounded := by
  have hfollow : State.bounded (State.followMeter (State.recompose
      { s with meter := { s.meter with state := m, lastAck := none } })) :=
    bounded_followMeter (bounded_recompose (bounded_same h (by rfl)))
  exact bounded_markViews (bounded_beginCheckpoint (bounded_ite hfollow (bounded_same hfollow (by rfl))) none)

theorem bounded_limitTold (h : s.bounded) : s.limitTold.bounded := by
  unfold State.limitTold
  exact bounded_ite (bounded_setMeterState h _) h

/-! #### Fare engine, band and time -/

theorem bounded_completeStep (h : s.bounded) : s.completeStep.bounded := by
  unfold State.completeStep
  split
  · exact h
  · exact bounded_ite (bounded_same h (by rfl)) (bounded_markViews (bounded_same h (by rfl)))

theorem bounded_completeSteps (h : s.bounded) (n : Nat) : (s.completeSteps n).bounded := by
  induction n generalizing s with
  | zero => exact h
  | succ n ih => exact ih (bounded_completeStep h)

theorem bounded_takeInterval (h : s.bounded) (p : Nat) : (s.takeInterval p).bounded := by
  unfold State.takeInterval
  split
  · exact bounded_completeSteps (bounded_same h (by rfl)) _
  · exact h

theorem bounded_followBand (h : s.bounded) (b : Option Nat) : (s.followBand b).1.bounded := by
  unfold State.followBand
  repeat' split
  all_goals exact h

theorem bounded_bandChange (h : s.bounded) (b : Option Nat) : (s.bandChange b).bounded := by
  unfold State.bandChange
  exact bounded_ite (bounded_followBand h b) h

theorem bounded_evaluateBand (h : s.bounded) : s.evaluateBand.bounded := by
  unfold State.evaluateBand
  exact bounded_ite (bounded_same h (by rfl)) (bounded_markViews (bounded_bandChange (bounded_same h (by rfl)) _))

theorem bounded_takeExtra (h : s.bounded) (r : TripRecord) (code : Nat) :
    (s.takeExtra r code).bounded := by
  unfold State.takeExtra
  exact bounded_ite (bounded_same h (by rfl)) (bounded_markViews (bounded_same h (by rfl)))

theorem bounded_modBackup (h : s.bounded) (f : Backup → Backup) : (s.modBackup f).bounded := by
  unfold State.modBackup
  exact bounded_ite (bounded_same h (by rfl)) h

theorem bounded_takeTrim (h : s.bounded) : s.takeTrim.bounded :=
  bounded_same (bounded_modBackup h _) (by rfl)

theorem bounded_noticeOverrate (h : s.bounded) (raw : Nat) : (s.noticeOverrate raw).bounded := by
  unfold State.noticeOverrate
  exact bounded_ite (bounded_offerNotice (bounded_same h (by rfl)) _) h

theorem bounded_credit (h : s.bounded) (m : Nat) : (s.credit m).bounded := by
  unfold State.credit
  exact bounded_ite (bounded_same h (by rfl)) (bounded_same h (by rfl))

theorem bounded_distanceInterval (h : s.bounded) : s.distanceInterval.bounded := by
  have hclosed : State.bounded { s with distance := s.distance.closeInterval } := bounded_same h (by rfl)
  have htaken := bounded_takeInterval
    (bounded_credit (bounded_noticeOverrate hclosed s.distance.count) s.distance.metres)
    (min s.distance.count s.distance.pMax)
  unfold State.distanceInterval
  exact bounded_ite (bounded_same (bounded_ite (p := s.distance.k = 0) hclosed htaken) (by rfl)) h

theorem bounded_closeWindow (h : s.bounded) (seg : Seg) : (s.closeWindow seg).bounded := by
  have hport : (s.modPort seg PortState.closeWindow).bounded := by
    refine bounded_modPort_same h fun p => ?_
    unfold PortState.closeWindow
    simp only
    repeat' split
    all_goals rfl
  unfold State.closeWindow
  exact bounded_ite (bounded_offerNotice hport _) hport

theorem bounded_tickTimers (h : s.bounded) : s.tickTimers.bounded :=
  State.bounded_iff.mpr ⟨h.link, h.notices, h.prompts, h.pay, h.store, h.writes⟩

theorem bounded_advanceCounter (h : s.bounded) : s.advanceCounter.bounded := by
  unfold State.advanceCounter
  split
  · exact bounded_modBackup h _
  · exact bounded_ite (bounded_mgmtRespond (bounded_same (bounded_modBackup h _) (by rfl)) _ _ _ _ _)
      (bounded_mgmtRespond (bounded_evaluateBand (bounded_same (bounded_modBackup h _) (by rfl))) _ _ _ _ _)

theorem bounded_secondEvent (h : s.bounded) : s.secondEvent.bounded :=
  bounded_recompose (bounded_modShift (bounded_tickTimers
    (bounded_closeWindow (bounded_closeWindow (bounded_advanceCounter h) _) _)) _)

/-! #### Payment -/

theorem bounded_modCounters (h : s.bounded) (f : PayCounters → PayCounters) :
    (s.modCounters f).bounded := h

theorem bounded_setSession (h : s.bounded) (x : Session) : (s.setSession x).bounded := by
  unfold State.setSession
  exact bounded_ite (bounded_same h (by rfl)) (bounded_markViews (bounded_same h (by rfl)))

theorem bounded_modTender (h : s.bounded) (i : Nat) (f : Tender → Tender) :
    (s.modTender i f).bounded := by
  obtain ⟨hlate, hadvice, htenders⟩ := h.pay
  exact bounded_withPay h ⟨hlate, hadvice, by simpa⟩

theorem bounded_addTender (h : s.bounded) (t : Tender) : (s.addTender t).bounded := by
  obtain ⟨hlate, hadvice, -⟩ := h.pay
  unfold State.addTender
  split
  · exact bounded_withPay h ⟨hlate, hadvice, by simpa⟩
  · exact h

theorem bounded_replyReader (h : s.bounded) (i : Nat) (r : ReaderResult) (t : Option ReplyTender) :
    (s.replyReader i r t).bounded := by
  unfold State.replyReader
  split
  · exact bounded_offerRole_of h ‹_›
  · exact bounded_modCounters (bounded_offerRole_of h ‹_›) _

theorem bounded_tryAdvice (h : s.bounded) : s.tryAdvice.bounded := by
  unfold State.tryAdvice
  split
  · exact h
  · next r rest hadvice =>
    refine bounded_ite ?_ h
    split
    · next s' hoffer =>
      have hsent := bounded_offerRole_of h hoffer
      obtain ⟨hlate, -, htenders⟩ := hsent.pay
      obtain ⟨-, hlength, -⟩ := h.pay
      exact bounded_withPay hsent ⟨hlate, by simpa [hadvice] using hlength, htenders⟩
    · exact bounded_offerRole_of h ‹_›

theorem bounded_joinAdvice (h : s.bounded) (r : AdviceRecord) : (s.joinAdvice r).bounded := by
  obtain ⟨hlate, -, htenders⟩ := h.pay
  unfold State.joinAdvice
  split
  · next hjoin =>
    have hroom : s.pay.advice.length < 32 := by
      unfold State.canJoin at hjoin
      simp only [Bool.and_eq_true, decide_eq_true_eq] at hjoin
      exact hjoin.1
    have hjoined : (State.begin { s with pay := { s.pay with advice := s.pay.advice ++ [r] } }
        (.adviceSet r)).bounded := by
      refine bounded_begin_plain (bounded_withPay h ?_) (by rfl)
      exact ⟨hlate, by simpa using hroom, htenders⟩
    exact bounded_tryAdvice (bounded_ite (bounded_offerNotice hjoined _) hjoined)
  · exact bounded_ite h (bounded_offerNotice h _)

theorem bounded_removeAdvice (h : s.bounded) (r : AdviceRecord) : (s.removeAdvice r).bounded := by
  obtain ⟨hlate, hadvice, htenders⟩ := h.pay
  refine bounded_tryAdvice (bounded_begin_plain (bounded_withPay h ?_) (by rfl))
  exact ⟨hlate, (List.length_filter_le ..).trans hadvice, htenders⟩

theorem bounded_disputeAdvice (h : s.bounded) (r : AdviceRecord) : (s.disputeAdvice r).bounded := by
  obtain ⟨hlate, hadvice, htenders⟩ := h.pay
  refine bounded_begin_plain (bounded_withPay h ?_) (by rfl)
  exact ⟨hlate, setAdvice_length _ hadvice, htenders⟩

theorem bounded_endSession (h : s.bounded) : s.endSession.bounded := by
  have hidle : (State.setSession { s with
      pay := { s.pay with held := none, auth := .stopped, authExpired := false } } .idle).bounded :=
    bounded_setSession (bounded_same h (by rfl)) _
  unfold State.endSession
  exact bounded_ite (bounded_tryAdvice hidle) hidle

theorem bounded_beginCloseUpdate (h : s.bounded) (r : TripRecord) : (s.beginCloseUpdate r).bounded :=
  bounded_beginCarrying_plain (bounded_same h (by rfl)) (by rfl)

theorem bounded_beginClose (h : s.bounded) (u : Nat) : (s.beginClose u).bounded := by
  unfold State.beginClose
  split
  · exact h
  · exact bounded_beginCloseUpdate (bounded_markViews (bounded_recompose (bounded_same h (by rfl)))) _

theorem bounded_reportDue (h : s.bounded) : s.reportDue.bounded := by
  have hmarked := bounded_markViews h
  unfold State.reportDue
  exact bounded_ite (bounded_beginClose hmarked _) hmarked

theorem bounded_finishCard (h : s.bounded) (t : Tender) (f : CardFields) (r : ReaderResult)
    (tr : Trigger) : (s.finishCard t f r tr).bounded := by
  have hended := bounded_endSession (bounded_trigger (bounded_replyReader h f.requestId r
    (some ⟨f.ref, t.amount, t.tip, f.authCode⟩)) tr)
  unfold State.finishCard
  exact bounded_ite (bounded_reportDue hended) hended

theorem addLate_length {l : List LateEntry} (e : LateEntry) (h : l.length ≤ 16) :
    (addLate l e).length ≤ 16 := by
  unfold addLate
  split <;> simp <;> omega

/-- An entry joins the late match list. -/
theorem bounded_addLate (h : s.bounded) (e : LateEntry) :
    State.bounded { s with pay := { s.pay with late := addLate s.pay.late e } } := by
  obtain ⟨hlate, hadvice, htenders⟩ := h.pay
  exact bounded_withPay h ⟨addLate_length e hlate, hadvice, htenders⟩

theorem bounded_decideOffline (h : s.bounded) : s.decideOffline.bounded := by
  unfold State.decideOffline
  split
  · exact h
  · next t _ =>
    split
    · exact h
    · have hlate (x : Tender) (e : LateEntry) :=
        bounded_addLate (bounded_beginCheckpoint (bounded_modTender h t.index fun _ => x) none) e
      simp only
      split
      · exact bounded_finishCard (bounded_joinAdvice (hlate _ _) _) _ _ _ _
      · exact bounded_finishCard (hlate _ _) _ _ _ _

theorem bounded_testInterlock (h : s.bounded) : s.testInterlock.bounded := by
  unfold State.testInterlock
  exact bounded_ite (bounded_trigger (bounded_setSession h _) _) h

theorem bounded_takeOfferAck (h : s.bounded) (trip index : Nat) :
    (s.takeOfferAck trip index).bounded := by
  unfold State.takeOfferAck
  exact bounded_ite (bounded_testInterlock (bounded_setSession h _)) (bounded_modCounters h _)

theorem bounded_takeViewAck (h : s.bounded) (seq fare : Nat) : (s.takeViewAck seq fare).bounded := by
  unfold State.takeViewAck
  exact bounded_ite (bounded_testInterlock (bounded_ite (bounded_setSession (bounded_same h (by rfl)) _) (bounded_same h (by rfl))))
    (bounded_same h (by rfl))

theorem bounded_foreign (h : s.bounded) : s.foreign.bounded := h

theorem bounded_stamp (h : s.bounded) (d : PayReq) : (s.stamp d).bounded := by
  have hadd (t : Tender) := bounded_addTender (bounded_ite (p := d.claimed = s.pay.session.offer) h
    (bounded_modCounters h fun c => { c with amountMismatch := satInc max16 c.amountMismatch })) t
  unfold State.stamp
  exact bounded_ite
    (bounded_setSession (bounded_beginCheckpoint (bounded_same (hadd _) (by rfl)) _) _)
    (bounded_decideOffline (bounded_beginCheckpoint (hadd _) _))

theorem bounded_takePayReq (h : s.bounded) (src : NodeAddr) (d : PayReq) :
    (s.takePayReq src d).bounded := by
  unfold State.takePayReq
  refine bounded_ite (bounded_foreign h) ?_
  split
  case h_3 => exact bounded_stamp h d
  all_goals exact bounded_replyReader h _ _ _

theorem bounded_releaseHeld (h : s.bounded) (ref : Ref) : (s.releaseHeld ref).bounded := by
  unfold State.releaseHeld
  split
  · exact h
  · refine bounded_ite ?_ h
    split
    · next hoffer => exact bounded_same (bounded_offerRole_of h hoffer) (by rfl)
    · next hoffer => exact bounded_decideOffline (bounded_offerRole_of h hoffer)

theorem bounded_decideCurrent (h : s.bounded) (t : Tender) (f : CardFields) (approved : Bool)
    (code : List Byte) : (s.decideCurrent t f approved code).bounded := by
  have hdecided (x : Tender) := bounded_beginCheckpoint (bounded_modTender h t.index fun _ => x) none
  unfold State.decideCurrent
  exact bounded_ite (bounded_finishCard (bounded_same (hdecided _) (by rfl)) _ _ _ _)
    (bounded_finishCard (bounded_same (hdecided _) (by rfl)) _ _ _ _)

theorem bounded_lateDispute (h : s.bounded) (amount : Nat) : (s.lateDispute amount).bounded := by
  unfold State.lateDispute
  refine bounded_ite (bounded_modShift h _) ?_
  split
  · exact bounded_begin_plain (bounded_same h (by rfl)) (by rfl)
  · exact h

theorem bounded_amendTender (h : s.bounded) (t : Option Tender) (f : Tender → Tender) :
    (s.amendTender t f).bounded := by
  unfold State.amendTender
  split
  · exact bounded_beginCheckpoint (bounded_modTender h _ f) none
  · exact h

theorem bounded_decideLate (h : s.bounded) (e : LateEntry) (approved : Bool) (code : List Byte) :
    (s.decideLate e approved code).bounded := by
  have htaken : State.bounded
      { s with pay := { s.pay with late := s.pay.late.filter (·.ref != e.ref) } } := by
    obtain ⟨hlate, hadvice, htenders⟩ := h.pay
    exact bounded_withPay h ⟨(List.length_filter_le ..).trans hlate, hadvice, htenders⟩
  have hamend (t : Option Tender) (f : Tender → Tender) := bounded_amendTender htaken t f
  unfold State.decideLate
  simp only
  split
  · split
    · exact bounded_removeAdvice (hamend _ _) _
    · exact hamend _ _
  · refine bounded_ite ?_ (bounded_lateDispute ?_ _)
    all_goals
      split
      · exact bounded_disputeAdvice (hamend _ _) _
      · exact bounded_joinAdvice (hamend _ _) _
  · exact bounded_joinAdvice (hamend _ _) _
  · exact htaken

theorem bounded_takePayResp (h : s.bounded) (src : NodeAddr) (d : PayResp) :
    (s.takePayResp src d).bounded := by
  unfold State.takePayResp
  refine bounded_ite (bounded_foreign h) (bounded_ite (bounded_modCounters h _) ?_)
  simp only
  split
  · exact bounded_decideCurrent h _ _ _ _
  · split
    · exact bounded_decideLate h _ _ _
    · exact bounded_modCounters h _

theorem bounded_takeAdviceAck (h : s.bounded) (ref : Ref) (k : Option AdviceKind) :
    (s.takeAdviceAck ref k).bounded := by
  unfold State.takeAdviceAck
  split
  · exact bounded_removeAdvice (bounded_amendTender h _ _) _
  · exact bounded_modCounters h _

theorem bounded_readerLost (h : s.bounded) : s.readerLost.bounded := by
  unfold State.readerLost
  split
  · exact bounded_endSession h
  · exact bounded_endSession h
  · exact h

theorem bounded_modemLost (h : s.bounded) : s.modemLost.bounded := by
  unfold State.modemLost
  exact bounded_ite (bounded_decideOffline h) h

theorem bounded_authExpires (h : s.bounded) : s.authExpires.bounded := by
  unfold State.authExpires
  split
  · exact bounded_ite (bounded_same h (by rfl)) (bounded_decideOffline h)
  · exact h

end

end Sys2Proof.Machine

namespace Sys2Proof.Machine

open Sys2Proof

section

variable {s : State}

/-! #### Presence, ports and parking -/

theorem bounded_watchHolder (h : s.bounded) (old : State) : (old.watchHolder s).bounded := by
  unfold State.watchHolder
  split
  · exact bounded_ite (bounded_same h (by rfl)) h
  · exact h

theorem bounded_viewAvailable (h : s.bounded) (old : State) (d : ViewDest) :
    (old.viewAvailable s d).bounded := by
  unfold State.viewAvailable
  exact bounded_ite (bounded_tryView (bounded_modView h _ _) _) h

theorem bounded_followPresence (h : s.bounded) (old : State) : (old.followPresence s).bounded := by
  have hwatch := bounded_watchHolder h old
  have hdrain := bounded_ite
    (p := old.rolePresence .console ≠ s.rolePresence .console
      ∨ old.rolePresence .modem ≠ s.rolePresence .modem) (bounded_drain hwatch) hwatch
  have hviews := bounded_viewAvailable (bounded_viewAvailable hdrain old .console) old .paxDisplay
  have hlock := bounded_ite (p := old.available .paxDisplay ≠ s.available .paxDisplay)
    (bounded_testInterlock hviews) hviews
  have hmonitor := bounded_ite
    (p := (s.available .modem && !old.available .modem) = true)
    (bounded_tryAdvice (bounded_monitorResume hlock))
    (bounded_ite (p := (old.available .modem && !s.available .modem) = true)
      (bounded_monitorPause hlock) hlock)
  have hmodem := bounded_ite (p := newlyLost old s .modem = true) (bounded_modemLost hmonitor) hmonitor
  exact bounded_ite (bounded_readerLost hmodem) hmodem

theorem bounded_stopPorts (h : s.bounded) (cut : Bool) : (s.stopPorts cut).bounded :=
  bounded_withLink h ⟨Nat.zero_le _, Nat.zero_le _, Nat.zero_le _⟩

theorem bounded_portsStarted (h : s.bounded) : s.portsStarted.bounded :=
  bounded_tryAdvice (bounded_tryView (bounded_tryView (bounded_drain h) _) _)

theorem bounded_restartPorts (h : s.bounded) : s.restartPorts.bounded :=
  bounded_portsStarted (bounded_followPresence (bounded_withLink h (by exact h.link)) s)

theorem bounded_startPark (h : s.bounded) : s.startPark.bounded := bounded_same h (by rfl)

theorem bounded_resetViews (h : s.bounded) : s.resetViews.bounded := bounded_same h (by rfl)

theorem bounded_renewViews (h : s.bounded) : s.renewViews.bounded :=
  bounded_setMarks (bounded_resetViews h)

theorem bounded_restartDistance (h : s.bounded) : s.restartDistance.bounded := bounded_same h (by rfl)

theorem bounded_enterParked (h : s.bounded) : s.enterParked.bounded :=
  bounded_resetViews (bounded_recompose (bounded_endTest (bounded_stopIntercom (bounded_stopPorts
    (bounded_beginCheckpoint (bounded_same h (by rfl)) none) false) .stopped)))

theorem bounded_parkCheck (h : s.bounded) : s.parkCheck.bounded := by
  unfold State.parkCheck
  exact bounded_ite (bounded_enterParked h) h

theorem bounded_takeTestEnd (h : s.bounded) : s.takeTestEnd.bounded := by
  unfold State.takeTestEnd
  exact bounded_ite (bounded_parkCheck (bounded_measureTest h)) h

theorem bounded_enterHoldup (h : s.bounded) : s.enterHoldup.bounded := by
  unfold State.enterHoldup
  extract_lets _ low stopped noticed saved _ input
  have hlow : low.bounded := bounded_same h (by rfl)
  have hstopped : stopped.bounded := bounded_modShift (bounded_stopPorts hlow true) _
  have hnoticed : noticed.bounded := bounded_offerNotice hstopped _
  have hsaved : saved.bounded := bounded_beginSave hnoticed _
  have hinput : input.bounded := bounded_same hsaved (by rfl)
  exact bounded_stopIntercom (bounded_recompose (bounded_same hinput (by rfl))) _

/-! #### Applications and the end of a close -/

theorem bounded_beginApplication (h : s.bounded) (st : Staged) (o : AppOrigin) :
    (s.beginApplication st o).bounded :=
  bounded_begin_plain (bounded_same h (by rfl)) (by rfl)

theorem bounded_releaseClose (h : s.bounded) : s.releaseClose.bounded := by
  refine bounded_parkCheck (bounded_trigger (bounded_setMeterState ?_ _) _)
  obtain ⟨hlate, hadvice, -⟩ := h.pay
  exact State.bounded_iff.mpr
    ⟨h.link, h.notices, h.prompts, ⟨hlate, hadvice, Nat.zero_le _⟩, h.store, h.writes⟩

theorem bounded_goOnClose (h : s.bounded) : s.goOnClose.bounded := by
  unfold State.goOnClose
  split
  · exact bounded_beginApplication (bounded_same h (by rfl)) _ _
  · exact bounded_releaseClose h

theorem bounded_continueClose (h : s.bounded) : s.continueClose.bounded := by
  unfold State.continueClose
  exact bounded_ite (bounded_same h (by rfl)) (bounded_goOnClose h)

theorem bounded_logNotices (h : s.bounded) : s.logNotices.bounded := by
  unfold State.logNotices
  exact bounded_ite (bounded_offerNotice h _) (bounded_ite (bounded_offerNotice h _) h)

theorem bounded_closeStored (h : s.bounded) : s.closeStored.bounded :=
  bounded_continueClose (bounded_logNotices (bounded_same h (by rfl)))

theorem bounded_putInForce (h : s.bounded) (st : Staged) (app : AppRecord) (o : AppOrigin) :
    (s.putInForce st app o).bounded := by
  cases st <;> exact bounded_offerNotice (bounded_same h (by rfl)) _

theorem bounded_handTrim (h : s.bounded) (st : Staged) : (s.handTrim st).bounded := by
  cases st
  · exact h
  · exact bounded_same h (by rfl)

theorem bounded_applicationStored (h : s.bounded) (st : Staged) (app : AppRecord) (o : AppOrigin) :
    (s.applicationStored st app o).bounded := by
  have hforce (t : State) (ht : t.bounded) := bounded_putInForce ht st app o
  unfold State.applicationStored
  cases o with
  | commit rq t =>
    have := hforce _ (bounded_mgmtRespond h rq .commit t .ok .none)
    cases st
    · exact bounded_evaluateBand this
    · exact bounded_handTrim (bounded_same this (by rfl)) _
  | close =>
    cases st
    · exact bounded_continueClose (bounded_evaluateBand (hforce _ h))
    · exact bounded_continueClose (bounded_handTrim (bounded_same (hforce _ h) (by rfl)) _)

/-! #### Warm return, wake and start-up -/

theorem bounded_holdClose (h : s.bounded) : s.holdClose.bounded := by
  unfold State.holdClose
  split
  · exact bounded_same h (by rfl)
  · exact h

theorem bounded_takeSwitch (h : s.bounded) : s.takeSwitch.bounded := by
  unfold State.takeSwitch
  exact bounded_ite (bounded_holdClose h) h

theorem bounded_warmReturn (h : s.bounded) : s.warmReturn.bounded := by
  unfold State.warmReturn
  extract_lets _ run marked dipped begun _ decided renewed ready
  have hrun : run.bounded := bounded_same h (by rfl)
  have hmarked : marked.bounded := bounded_begin_plain hrun (by rfl)
  have hdipped : dipped.bounded := bounded_ite (bounded_modTrip hmarked _) hmarked
  have hbegun : begun.bounded := bounded_startPark (bounded_beginCheckpoint hdipped none)
  have hdecided : decided.bounded := bounded_ite (bounded_decideOffline (bounded_same hbegun (by rfl))) hbegun
  have hrenewed : renewed.bounded :=
    bounded_restartDistance (bounded_restartPorts (bounded_renewViews hdecided))
  have hready : ready.bounded :=
    bounded_takeSwitch (bounded_recompose (bounded_startIntercom hrenewed _))
  exact bounded_ite (bounded_goOnClose hready) hready

theorem bounded_wakeBy (h : s.bounded) (src : WakeSource) : (s.wakeBy src).bounded := by
  unfold State.wakeBy
  refine bounded_ite ?_ h
  simp only
  refine bounded_ite (bounded_enterHoldup (bounded_same h (by rfl))) ?_
  exact bounded_startPark (bounded_recompose (bounded_startIntercom
    (bounded_restartPorts (bounded_offerNotice (bounded_beginCheckpoint (bounded_same h (by rfl)) none) _)) _))

theorem bounded_startNotices (h : s.bounded) (cause : Cause) : (s.startNotices cause).bounded := by
  have hfirst := bounded_offerNotice h (.restarted cause s.pay.epoch)
  have hsecond := bounded_ite
    (p := (s.offerNotice (.restarted cause s.pay.epoch)).time.backup.timeInvalid = true)
    (bounded_offerNotice hfirst .timeInvalid) hfirst
  exact bounded_ite (bounded_offerNotice hsecond _) hsecond

theorem bounded_startBase (h : s.bounded) (cause : Cause) (lostClose : Bool) :
    (s.startBase cause lostClose).bounded := by
  obtain ⟨hlog, hadvice, hsave, hcheckpoint⟩ := h.store
  unfold State.startBase
  refine bounded_startNotices ?_ cause
  refine State.bounded_iff.mpr ⟨⟨?_, ?_, ?_⟩, ?_, ?_, ⟨?_, ?_, ?_⟩, ⟨?_, ?_, ?_, ?_⟩, h.writes⟩
  case refine_7 => exact hadvice
  case refine_9 => exact hlog
  case refine_10 => exact hadvice
  case refine_11 => exact hsave
  case refine_12 => exact hcheckpoint
  all_goals exact Nat.zero_le _

theorem bounded_countInterrupt (h : s.bounded) (cause : Cause) : (s.countInterrupt cause).bounded := by
  unfold State.countInterrupt
  exact bounded_ite (bounded_beginCarrying_plain (bounded_same h (by rfl)) (by rfl)) h

theorem bounded_applyPending (h : s.bounded) : s.applyPending.bounded := by
  unfold State.applyPending
  split
  · exact h
  · exact bounded_putInForce
      (bounded_handTrim (bounded_flushWrites (bounded_beginApplication h _ _)) _) _ _ _

theorem bounded_restoreTrip (h : s.bounded) (rec : SaveRecord) : (s.restoreTrip rec).bounded := by
  unfold State.restoreTrip
  simp only
  split
  · exact bounded_same h (by rfl)
  · exact bounded_applyPending (bounded_applyPending (bounded_same h (by rfl)))

theorem bounded_doubtTender (h : s.bounded) (t : Tender) : (s.doubtTender t).bounded := by
  unfold State.doubtTender
  split
  · exact bounded_joinAdvice (bounded_beginCheckpoint (bounded_modTender h _ _) none) _
  · exact h

theorem bounded_foldl_doubtTender (h : s.bounded) (l : List Tender) :
    (l.foldl State.doubtTender s).bounded := by
  induction l generalizing s with
  | nil => exact h
  | cons t l ih => exact ih (bounded_doubtTender h t)

/-- The tenders of a saved trip that is restored are those of the record. -/
theorem Store.restorable_tenders {st : Store} {rec : SaveRecord} {t : SavedTrip}
    (h : st.restorable rec = some t) : t.record.tenders = rec.tenders := by
  unfold Store.restorable at h
  obtain ⟨x, hx, hpick⟩ := Option.bind_eq_some_iff.mp h
  split_ifs at hpick
  cases hpick
  simp [SaveRecord.tenders, hx]

theorem bounded_restoreTenders (h : s.bounded) {rec : SaveRecord} (hrec : rec.tenders.length ≤ 6) :
    (s.restoreTenders rec).bounded := by
  obtain ⟨hlate, hadvice, -⟩ := h.pay
  unfold State.restoreTenders
  split
  · next t hrestored =>
    rw [← Store.restorable_tenders hrestored] at hrec
    refine bounded_foldl_doubtTender (bounded_withPay h ?_) _
    exact ⟨hlate, hadvice, hrec⟩
  · exact h

theorem bounded_setLimit (h : s.bounded) : s.setLimit.bounded := by
  unfold State.setLimit
  split
  · exact bounded_trigger (bounded_limitTold (bounded_offerNotice (bounded_same h (by rfl)) _)) _
  · exact h

theorem bounded_restoreShift (h : s.bounded) (cause : Cause) : (s.restoreShift cause).bounded := by
  have hlimit := bounded_ite (p := s.limitReached = true) (bounded_setLimit h) h
  exact bounded_ite (bounded_modShift hlimit _) hlimit

theorem bounded_startWrites (h : s.bounded) (c : CauseRecord) : (s.startWrites c).bounded :=
  bounded_beginCheckpoint (bounded_begin_plain (bounded_ite h (bounded_begin_plain h (by rfl))) (by rfl)) none

theorem bounded_startBlocks (h : s.bounded) (ambient : Nat) : (s.startBlocks ambient).bounded := by
  obtain ⟨hfront, hrear, hmonitor⟩ := h.link
  unfold State.startBlocks
  extract_lets _ _ _ _ _ _ _ _ _ _ started
  have hstarted : started.bounded :=
    State.bounded_iff.mpr
      ⟨⟨hfront, hrear, hmonitor⟩, h.notices, h.prompts, h.pay, h.store, h.writes⟩
  exact bounded_portsStarted (bounded_startPark (bounded_takeSwitch (bounded_recompose
    (bounded_startIntercom hstarted 0))))

theorem Store.source_tenders_length {st : Store} (h : st.bounded) (cause : Cause) :
    (st.source cause).tenders.length ≤ 6 := by
  obtain ⟨-, -, hsave, hcheckpoint⟩ := h
  unfold Store.source
  split
  · exact hsave
  · exact hcheckpoint

theorem bounded_startUp (h : s.bounded) (cause : Cause) (lostClose : Bool) (ambient : Nat) :
    (s.startUp cause lostClose ambient).bounded :=
  bounded_startBlocks (bounded_startWrites (bounded_restoreShift (bounded_restoreTenders
    (bounded_evaluateBand (bounded_restoreTrip (bounded_countInterrupt
      (bounded_startBase h cause lostClose) cause) _))
    (Store.source_tenders_length h.store cause)) cause) _) ambient

theorem bounded_tryWarmReturn (h : s.bounded) : s.tryWarmReturn.bounded := by
  unfold State.tryWarmReturn
  exact bounded_ite (bounded_warmReturn h) h

theorem bounded_takeSample (h : s.bounded) (x : Nat) : (s.takeSample x).bounded := by
  unfold State.takeSample
  exact bounded_ite (bounded_tryWarmReturn (bounded_same h (by rfl)))
    (bounded_ite (bounded_ite (bounded_enterHoldup (bounded_same h (by rfl))) (bounded_same h (by rfl)))
      (bounded_same h (by rfl)))

theorem bounded_loseSupply (h : s.bounded) : s.loseSupply.bounded :=
  bounded_recompose (State.bounded_iff.mpr
    ⟨(bounded_stopPorts (bounded_cutWrites h) true).link, h.notices, Nat.zero_le _, h.pay,
      (bounded_cutWrites h).store, (bounded_cutWrites h).writes⟩)

end

end Sys2Proof.Machine

namespace Sys2Proof.Machine

open Sys2Proof

section

variable {s : State}

/-! #### The checks in front of a decision -/

theorem bounded_whenPowered (h : s.bounded) {k : State → State} (hk : (k s).bounded) :
    (s.whenPowered k).bounded :=
  bounded_ite hk h

theorem bounded_localReject (h : s.bounded) : s.localReject.bounded := bounded_withLink h h.link

theorem bounded_checkMgmtSender (h : s.bounded) (src : NodeAddr) {k : State → State}
    (hk : (k s).bounded) : (s.checkMgmtSender src k).bounded :=
  bounded_ite h (bounded_ite hk (bounded_localReject h))

theorem bounded_checkConsoleSender (h : s.bounded) (src : NodeAddr) {k : State → State}
    (hk : (k s).bounded) : (s.checkConsoleSender src k).bounded :=
  bounded_ite h (bounded_ite hk (bounded_localReject h))

theorem bounded_checkSender (h : s.bounded) (r : Role) (src : NodeAddr) {k : State → State}
    (hk : (k s).bounded) : (s.checkSender r src k).bounded :=
  bounded_ite hk (bounded_localReject h)

theorem bounded_whenMgmt (h : s.bounded) (rq : Req) {k : State → State} (hk : (k s).bounded) :
    (s.whenMgmt rq k).bounded :=
  bounded_ite (bounded_checkMgmtSender h _ hk) h

theorem bounded_whenConsole (h : s.bounded) (rq : Req) {k : State → State} (hk : (k s).bounded) :
    (s.whenConsole rq k).bounded :=
  bounded_ite (bounded_checkConsoleSender h _ hk) h

theorem bounded_whenFrom (h : s.bounded) (r : Role) (src : NodeAddr) {k : State → State}
    (hk : (k s).bounded) : (s.whenFrom r src k).bounded :=
  bounded_ite (bounded_checkSender h r src hk) h

theorem bounded_whenAllowed (h : s.bounded) (rq : Req) (op : OpName) (t : Target) (object : Bool)
    {k : State → State} (hk : (k s).bounded) : (s.whenAllowed rq op t object k).bounded :=
  bounded_ite (bounded_mgmtRespond h _ _ _ _ _) (bounded_ite (bounded_mgmtRespond h _ _ _ _ _) hk)

theorem bounded_whenRun (h : s.bounded) (rq : Req) (n : ConsoleName) {k : State → State}
    (hk : (k s).bounded) : (s.whenRun rq n k).bounded :=
  bounded_ite hk (bounded_consoleRespond h _ _ _ _)

theorem bounded_whenNotClosing (h : s.bounded) (rq : Req) (n : ConsoleName) {k : State → State}
    (hk : (k s).bounded) : (s.whenNotClosing rq n k).bounded :=
  bounded_ite (bounded_consoleRespond h _ _ _ _) hk

/-! #### Decisions of the management requests -/

theorem bounded_replaceEntry (h : s.bounded) (rq : Req) (t : Target) (e : TableEntry) :
    (s.replaceEntry rq t e).bounded :=
  bounded_begin_plain (bounded_same h (by rfl)) (by rfl)

theorem bounded_decideForwardingWrite (h : s.bounded) (rq : Req) (i : Nat) (d : Option FwdData) :
    (s.decideForwardingWrite rq i d).bounded := by
  refine bounded_whenAllowed h _ _ _ _ ?_
  split
  · exact bounded_mgmtRespond h _ _ _ _ _
  · exact bounded_replaceEntry (bounded_withLink h (by exact h.link)) _ _ _

theorem bounded_decideRolesWrite (h : s.bounded) (rq : Req) (a : NodeAddr) (d : Option RoleEntry) :
    (s.decideRolesWrite rq a d).bounded := by
  refine bounded_whenAllowed h _ _ _ _ (bounded_ite (bounded_mgmtRespond h _ _ _ _ _) ?_)
  split
  · exact bounded_mgmtRespond h _ _ _ _ _
  · exact bounded_ite (bounded_mgmtRespond h _ _ _ _ _)
      (bounded_drain (bounded_followPresence (bounded_modNode (bounded_replaceEntry h _ _ _) _ _) s))

theorem bounded_decideNoticeClassWrite (h : s.bounded) (rq : Req) (i : NoticeIndex)
    (d : Option ClassRoute) : (s.decideNoticeClassWrite rq i d).bounded := by
  unfold State.decideNoticeClassWrite
  simp only
  split
  · refine bounded_whenAllowed h _ _ _ _ ?_
    split
    · exact bounded_ite (bounded_replaceEntry h _ _ _) (bounded_mgmtRespond h _ _ _ _ _)
    · exact bounded_mgmtRespond h _ _ _ _ _
  · exact bounded_whenAllowed h _ _ _ _ h

theorem bounded_decideSignChannelWrite (h : s.bounded) (rq : Req) (i : Nat) (d : Option ChannelEntry) :
    (s.decideSignChannelWrite rq i d).bounded := by
  refine bounded_whenAllowed h _ _ _ _ ?_
  split
  · exact bounded_mgmtRespond h _ _ _ _ _
  · split
    · exact bounded_mgmtRespond h _ _ _ _ _
    · exact bounded_recompose (bounded_replaceEntry h _ _ _)

theorem bounded_decideSignPatternWrite (h : s.bounded) (rq : Req) (n : PatternName)
    (d : Option Pattern) : (s.decideSignPatternWrite rq n d).bounded := by
  refine bounded_whenAllowed h _ _ _ _ ?_
  split
  · exact bounded_mgmtRespond h _ _ _ _ _
  · exact bounded_ite (bounded_recompose (bounded_replaceEntry h _ _ _))
      (bounded_mgmtRespond h _ _ _ _ _)

theorem bounded_decideBrightnessWrite (h : s.bounded) (rq : Req) (d : Option Brightness) :
    (s.decideBrightnessWrite rq d).bounded := by
  refine bounded_whenAllowed h _ _ _ _ ?_
  split
  · exact bounded_mgmtRespond h _ _ _ _ _
  · exact bounded_ite (bounded_recompose (bounded_replaceEntry (bounded_same h (by rfl)) _ _ _))
      (bounded_mgmtRespond h _ _ _ _ _)

theorem bounded_decidePromptsWrite (h : s.bounded) (rq : Req) (i : Nat) (d : Option PromptData) :
    (s.decidePromptsWrite rq i d).bounded := by
  refine bounded_whenAllowed h _ _ _ _ ?_
  split
  · exact bounded_mgmtRespond h _ _ _ _ _
  · exact bounded_replaceEntry h _ _ _

theorem bounded_decidePromptMapWrite (h : s.bounded) (rq : Req) (i : Nat) (d : Option MapData) :
    (s.decidePromptMapWrite rq i d).bounded := by
  refine bounded_whenAllowed h _ _ _ _ ?_
  split
  · exact bounded_mgmtRespond h _ _ _ _ _
  · exact bounded_ite (bounded_replaceEntry h _ _ _) (bounded_mgmtRespond h _ _ _ _ _)

theorem bounded_decideIntercomSetWrite (h : s.bounded) (rq : Req) (i : Nat)
    (d : Option IntercomSettings) : (s.decideIntercomSetWrite rq i d).bounded := by
  refine bounded_whenAllowed h _ _ _ _ ?_
  split
  · exact bounded_mgmtRespond h _ _ _ _ _
  · exact bounded_ite (bounded_withIntercom_same (bounded_replaceEntry h _ _ _) (by rfl))
      (bounded_mgmtRespond h _ _ _ _ _)

theorem bounded_decidePayLimitsWrite (h : s.bounded) (rq : Req) (i : Nat) (d : Option PayLimits) :
    (s.decidePayLimitsWrite rq i d).bounded := by
  refine bounded_whenAllowed h _ _ _ _ ?_
  split
  · exact bounded_mgmtRespond h _ _ _ _ _
  · exact bounded_ite (bounded_replaceEntry h _ _ _) (bounded_mgmtRespond h _ _ _ _ _)

theorem bounded_decidePowerSetWrite (h : s.bounded) (rq : Req) (i : Nat) (d : Option PowerSettings) :
    (s.decidePowerSetWrite rq i d).bounded := by
  refine bounded_whenAllowed h _ _ _ _ ?_
  split
  · exact bounded_mgmtRespond h _ _ _ _ _
  · exact bounded_ite (bounded_replaceEntry h _ _ _) (bounded_mgmtRespond h _ _ _ _ _)

theorem bounded_decideWrite (h : s.bounded) (rq : Req) (t : Target) : (s.decideWrite rq t).bounded := by
  unfold State.decideWrite
  split
  · exact bounded_decideForwardingWrite h _ _ _
  · exact bounded_decideRolesWrite h _ _ _
  · exact bounded_ite (bounded_decideBrightnessWrite h _ _)
      (bounded_ite (bounded_decideSignPatternWrite h _ _ _) (bounded_decideSignChannelWrite h _ _ _))
  · exact bounded_decidePromptsWrite h _ _ _
  · exact bounded_decidePromptMapWrite h _ _ _
  · exact bounded_decideIntercomSetWrite h _ _ _
  · exact bounded_decidePayLimitsWrite h _ _ _
  · exact bounded_decideNoticeClassWrite h _ _ _
  · exact bounded_decidePowerSetWrite h _ _ _
  · exact bounded_whenAllowed h _ _ _ _ h

theorem bounded_decideRead (h : s.bounded) (rq : Req) (t : Target) (sel : ReadSel) :
    (s.decideRead rq t sel).bounded := by
  refine bounded_whenAllowed h _ _ _ _ ?_
  split <;> exact bounded_mgmtRespond h _ _ _ _ _

theorem bounded_closeLoad (h : s.bounded) : s.closeLoad.bounded := bounded_same h (by rfl)

theorem bounded_decideOpenLoad (h : s.bounded) (rq : Req) (t : Target) :
    (s.decideOpenLoad rq t).bounded :=
  bounded_whenAllowed h _ _ _ _ (bounded_ite (bounded_mgmtRespond h _ _ _ _ _)
    (bounded_ite (bounded_mgmtRespond h _ _ _ _ _) (bounded_ite (bounded_mgmtRespond h _ _ _ _ _)
      (bounded_mgmtRespond (bounded_same h (by rfl)) _ _ _ _ _))))

theorem bounded_decideWritePart (h : s.bounded) (rq : Req) (t : Target) (d : PartData) :
    (s.decideWritePart rq t d).bounded := by
  refine bounded_whenAllowed h _ _ _ _ ?_
  simp only
  split
  · exact bounded_mgmtRespond h _ _ _ _ _
  · refine bounded_ite (bounded_mgmtRespond h _ _ _ _ _)
      (bounded_ite (bounded_mgmtRespond (bounded_closeLoad h) _ _ _ _ _) ?_)
    split
    · exact bounded_mgmtRespond h _ _ _ _ _
    · exact bounded_mgmtRespond (bounded_same h (by rfl)) _ _ _ _ _

theorem bounded_takeCommit (h : s.bounded) (rq : Req) (t : Target) (st : Staged) :
    (s.takeCommit rq t st).bounded :=
  bounded_ite (bounded_begin_plain (bounded_same h (by rfl)) (by rfl)) (bounded_beginApplication h _ _)

theorem bounded_decideCommit (h : s.bounded) (rq : Req) (t : Target) :
    (s.decideCommit rq t).bounded := by
  refine bounded_whenAllowed h _ _ _ _ ?_
  split
  · exact bounded_mgmtRespond h _ _ _ _ _
  · refine bounded_ite (bounded_mgmtRespond h _ _ _ _ _)
      (bounded_ite (bounded_mgmtRespond (bounded_closeLoad h) _ _ _ _ _) ?_)
    split
    · exact bounded_mgmtRespond h _ _ _ _ _
    · exact bounded_takeCommit (bounded_closeLoad h) _ _ _

theorem bounded_decideAbortLoad (h : s.bounded) (rq : Req) (t : Target) :
    (s.decideAbortLoad rq t).bounded := by
  refine bounded_whenAllowed h _ _ _ _ ?_
  exact bounded_ite (bounded_mgmtRespond (bounded_closeLoad h) _ _ _ _ _)
    (bounded_ite
      (bounded_ite (bounded_mgmtRespond (bounded_begin_plain (bounded_same h (by rfl)) (by rfl)) _ _ _ _ _)
        (bounded_mgmtRespond h _ _ _ _ _))
      (bounded_ite (bounded_mgmtRespond h _ _ _ _ _) (bounded_mgmtRespond h _ _ _ _ _)))

theorem bounded_decideSetTime (h : s.bounded) (rq : Req) (t : Nat) : (s.decideSetTime rq t).bounded :=
  bounded_whenAllowed h _ _ _ _ (bounded_ite (bounded_mgmtRespond h _ _ _ _ _)
    (bounded_ite (bounded_mgmtRespond h _ _ _ _ _)
      (bounded_ite (bounded_mgmtRespond h _ _ _ _ _) (bounded_same h (by rfl)))))

theorem bounded_decideAckTrips (h : s.bounded) (rq : Req) (n : Nat) :
    (s.decideAckTrips rq n).bounded :=
  bounded_whenAllowed h _ _ _ _ (bounded_ite (bounded_begin_plain (bounded_same h (by rfl)) (by rfl))
    (bounded_mgmtRespond h _ _ _ _ _))

theorem bounded_activateEmergency (h : s.bounded) : s.activateEmergency.bounded := by
  unfold State.activateEmergency
  extract_lets _ active noticed flagged counted
  have hactive : active.bounded := bounded_recompose (bounded_same h (by rfl))
  have hcounted : counted.bounded := bounded_modShift (bounded_modTrip (bounded_offerNotice hactive _) _) _
  exact bounded_beginCheckpoint (bounded_same hcounted (by rfl)) none

theorem bounded_clearEmergency (h : s.bounded) (c : ClearCause) : (s.clearEmergency c).bounded := by
  unfold State.clearEmergency
  extract_lets _ cleared
  have hcleared : cleared.bounded := bounded_recompose (bounded_same h (by rfl))
  exact bounded_beginCheckpoint (bounded_same (bounded_offerNotice hcleared (.emergencyOff s.now c)) (by rfl)) none

theorem bounded_holdExpires (h : s.bounded) : s.holdExpires.bounded := by
  unfold State.holdExpires
  split
  · exact bounded_ite (bounded_activateEmergency (bounded_same h (by rfl)))
      (bounded_ite (bounded_clearEmergency (bounded_same h (by rfl)) _) (bounded_same h (by rfl)))
  · exact h

theorem bounded_decideEmergencyClear (h : s.bounded) (rq : Req) : (s.decideEmergencyClear rq).bounded :=
  bounded_whenAllowed h _ _ _ _ (bounded_ite
    (bounded_mgmtRespond (bounded_clearEmergency h _) _ _ _ _ _) (bounded_mgmtRespond h _ _ _ _ _))

theorem bounded_decideClearLamp (h : s.bounded) (rq : Req) (c : Nat) :
    (s.decideClearLamp rq c).bounded := by
  have hclear : (s.clearLamps c).bounded := bounded_recompose (bounded_same h (by rfl))
  exact bounded_whenAllowed h _ _ _ _
    (bounded_ite (bounded_mgmtRespond h _ _ _ _ _) (bounded_mgmtRespond hclear _ _ _ _ _))

theorem bounded_decideSignTest (h : s.bounded) (rq : Req) (d : Nat) (v : Option Pattern) :
    (s.decideSignTest rq d v).bounded := by
  refine bounded_whenAllowed h _ _ _ _ ?_
  split
  · exact bounded_mgmtRespond h _ _ _ _ _
  · exact bounded_ite (bounded_mgmtRespond h _ _ _ _ _)
      (bounded_ite (bounded_mgmtRespond h _ _ _ _ _)
        (bounded_ite (bounded_mgmtRespond (bounded_endTest h) _ _ _ _ _)
          (bounded_mgmtRespond (bounded_recompose (bounded_same h (by rfl))) _ _ _ _ _)))

theorem bounded_decideSpeakerTest (h : s.bounded) (rq : Req) (side : Option Side) :
    (s.decideSpeakerTest rq side).bounded := by
  refine bounded_whenAllowed h _ _ _ _ ?_
  split
  · exact bounded_mgmtRespond h _ _ _ _ _
  · exact bounded_ite (bounded_mgmtRespond h _ _ _ _ _)
      (bounded_ite (bounded_mgmtRespond h _ _ _ _ _) (bounded_same h (by rfl)))

theorem PortState.enterLoopback_queue (p : PortState) : p.enterLoopback.queue = p.queue := by
  unfold PortState.enterLoopback
  split <;> rfl

theorem PortState.leaveLoopback_queue (p : PortState) : p.leaveLoopback.queue = p.queue := by
  unfold PortState.leaveLoopback
  split <;> rfl

theorem PortState.offLoopback_queue (p : PortState) : p.offLoopback.queue = p.queue := by
  unfold PortState.offLoopback
  split
  · rfl
  · split
    · rfl
    · exact p.leaveLoopback_queue

theorem bounded_decideLoopback (h : s.bounded) (rq : Req) (d : Option (Seg × Bool)) :
    (s.decideLoopback rq d).bounded := by
  refine bounded_whenAllowed h _ _ _ _ ?_
  split
  · exact bounded_mgmtRespond h _ _ _ _ _
  · exact bounded_ite (bounded_mgmtRespond h _ _ _ _ _)
      (bounded_mgmtRespond (bounded_modPort_same h PortState.enterLoopback_queue) _ _ _ _ _)
  · exact bounded_mgmtRespond (bounded_modPort_same h PortState.offLoopback_queue) _ _ _ _ _

theorem bounded_decideRestart (h : s.bounded) (rq : Req) : (s.decideRestart rq).bounded :=
  bounded_whenAllowed h _ _ _ _ (bounded_ite (bounded_mgmtRespond h _ _ _ _ _)
    (bounded_ite (bounded_mgmtRespond h _ _ _ _ _)
      (bounded_beginSave (bounded_mgmtRespond (bounded_same h (by rfl)) _ _ _ _ _) _)))

theorem bounded_decideMgmt (h : s.bounded) (rq : Req) (op : Config.MgmtOp) :
    (s.decideMgmt rq op).bounded := by
  cases op with
  | read t sel => exact bounded_decideRead h rq t sel
  | write t => exact bounded_decideWrite h rq t
  | forwardingWrite i d => exact bounded_decideForwardingWrite h rq i d
  | rolesWrite a d => exact bounded_decideRolesWrite h rq a d
  | noticeClassWrite i d => exact bounded_decideNoticeClassWrite h rq i d
  | signChannelWrite i d => exact bounded_decideSignChannelWrite h rq i d
  | signPatternWrite n d => exact bounded_decideSignPatternWrite h rq n d
  | brightnessWrite d => exact bounded_decideBrightnessWrite h rq d
  | promptsWrite i d => exact bounded_decidePromptsWrite h rq i d
  | promptMapWrite i d => exact bounded_decidePromptMapWrite h rq i d
  | intercomSetWrite i d => exact bounded_decideIntercomSetWrite h rq i d
  | payLimitsWrite i d => exact bounded_decidePayLimitsWrite h rq i d
  | powerSetWrite i d => exact bounded_decidePowerSetWrite h rq i d
  | openLoad t => exact bounded_decideOpenLoad h rq t
  | writePart t d => exact bounded_decideWritePart h rq t d
  | commit t => exact bounded_decideCommit h rq t
  | abortLoad t => exact bounded_decideAbortLoad h rq t
  | setTime t => exact bounded_decideSetTime h rq t
  | ackTrips n => exact bounded_decideAckTrips h rq n
  | emergencyClear => exact bounded_decideEmergencyClear h rq
  | clearLamp c => exact bounded_decideClearLamp h rq c
  | signTest d v => exact bounded_decideSignTest h rq d v
  | speakerTest side => exact bounded_decideSpeakerTest h rq side
  | loopback d => exact bounded_decideLoopback h rq d
  | restart => exact bounded_decideRestart h rq
  | unknown t => exact bounded_mgmtRespond h rq .unknown t .badValue .none

/-! #### Decisions of the console requests -/

theorem bounded_decideOnDuty (h : s.bounded) (rq : Req) : (s.decideOnDuty rq).bounded := by
  refine bounded_whenRun h _ _ ?_
  split
  · exact bounded_consoleRespond h _ _ _ _
  · exact bounded_consoleRespond (bounded_setMeterState h _) _ _ _ _

theorem bounded_decideOffDuty (h : s.bounded) (rq : Req) : (s.decideOffDuty rq).bounded :=
  bounded_whenRun h _ _ (bounded_ite (bounded_consoleRespond (bounded_setMeterState h _) _ _ _ _)
    (bounded_consoleRespond h _ _ _ _))

theorem bounded_takeHire (h : s.bounded) (n : Nat) (t : Tariff) : (s.takeHire n t).bounded := by
  unfold State.takeHire
  extract_lets number aborted _ opened
  have haborted : aborted.bounded := bounded_abortSpeakerTest (bounded_endTest h)
  have hopened : opened.bounded := bounded_same haborted (by rfl)
  exact bounded_setMeterState (bounded_same hopened (by rfl)) _

theorem bounded_decideHire (h : s.bounded) (rq : Req) (t : HireTariff) : (s.decideHire rq t).bounded := by
  unfold State.decideHire
  refine bounded_ite (bounded_consoleRespond h _ _ _ _) (bounded_whenRun h _ _ ?_)
  split
  · exact bounded_consoleRespond h _ _ _ _
  · split
    · exact bounded_consoleRespond h _ _ _ _
    · simp only
      split
      · exact bounded_consoleRespond h _ _ _ _
      · exact bounded_trigger (bounded_consoleRespond (bounded_takeHire h _ _) _ _ _ _) _

theorem bounded_takePay (h : s.bounded) : s.takePay.bounded :=
  bounded_setMeterState (bounded_same h (by rfl)) _

theorem bounded_decidePay (h : s.bounded) (rq : Req) : (s.decidePay rq).bounded := by
  have hpaid (a : Nat) := bounded_trigger
    (bounded_consoleRespond (bounded_takePay h) rq .pay .accepted (.amount a)) .pay
  exact bounded_whenRun h _ _ (bounded_ite (bounded_ite (bounded_beginClose (hpaid _) _) (hpaid _))
    (bounded_consoleRespond h _ _ _ _))

theorem bounded_takeResume (h : s.bounded) : s.takeResume.bounded := by
  unfold State.takeResume
  extract_lets resumed _ _ running
  have hresumed : resumed.bounded := bounded_modTrip h _
  have hrunning : running.bounded := bounded_same hresumed (by rfl)
  exact bounded_setMeterState (bounded_followBand hrunning _) _

theorem bounded_decideResume (h : s.bounded) (rq : Req) : (s.decideResume rq).bounded := by
  refine bounded_whenRun h _ _ ?_
  split
  · exact bounded_consoleRespond h _ _ _ _
  · exact bounded_consoleRespond (bounded_takeResume h) _ _ _ _

theorem bounded_decideExtra (h : s.bounded) (rq : Req) (code : Nat) :
    (s.decideExtra rq code).bounded := by
  have htaken (r : TripRecord) : State.bounded (match s.extraRefusal r code with
      | some e => s.consoleRespond rq .extra e
      | none => (s.takeExtra r code).consoleRespond rq .extra .accepted
          (.amount (s.takeExtra r code).fare)) := by
    split
    · exact bounded_consoleRespond h _ _ _ _
    · exact bounded_consoleRespond (bounded_takeExtra h _ _) _ _ _ _
  refine bounded_whenRun h _ _ ?_
  split
  · exact bounded_ite (bounded_consoleRespond h _ _ _ _) (htaken _)
  · exact bounded_ite (bounded_consoleRespond h _ _ _ _) (htaken _)
  · exact bounded_consoleRespond h _ _ _ _

theorem bounded_decideEndUnpaid (h : s.bounded) (rq : Req) : (s.decideEndUnpaid rq).bounded :=
  bounded_whenRun h _ _ (bounded_ite (bounded_consoleRespond h _ _ _ _)
    (bounded_ite (bounded_consoleRespond h _ _ _ _)
      (bounded_beginClose (bounded_consoleRespond (bounded_modTrip h _) _ _ _ _) _)))

theorem bounded_decidePayCard (h : s.bounded) (rq : Req) (a : Option Nat) :
    (s.decidePayCard rq a).bounded := by
  refine bounded_whenNotClosing h _ _ ?_
  split
  · exact bounded_consoleRespond h _ _ _ _
  · simp only
    split
    · next hoffer =>
      exact bounded_consoleRespond (bounded_setSession (bounded_offerRole_of h hoffer) _) _ _ _ _
    · next hoffer => exact bounded_consoleRespond (bounded_offerRole_of h hoffer) _ _ _ _

theorem bounded_decidePayCancel (h : s.bounded) (rq : Req) : (s.decidePayCancel rq).bounded := by
  have hcancel (t : State) (ht : t.bounded) :=
    bounded_consoleRespond (bounded_endSession ht) rq .payCancel .accepted .none
  refine bounded_whenNotClosing h _ _ ?_
  split
  case h_3 => exact bounded_consoleRespond h _ _ _ _
  case h_4 => exact bounded_consoleRespond h _ _ _ _
  all_goals
    simp only
    split
    · next hoffer => exact hcancel _ (bounded_offerRole_of h hoffer)
    · next hoffer => exact hcancel _ (bounded_modCounters (bounded_offerRole_of h hoffer) _)

theorem bounded_decideCash (h : s.bounded) (rq : Req) (a : Nat) : (s.decideCash rq a).bounded := by
  refine bounded_whenNotClosing h _ _ ?_
  split
  · exact bounded_consoleRespond h _ _ _ _
  · exact bounded_reportDue (bounded_consoleRespond
      (bounded_beginCheckpoint (bounded_addTender h _) none) _ _ _ _)

theorem bounded_decideShiftOpen (h : s.bounded) (rq : Req) (d : Nat) :
    (s.decideShiftOpen rq d).bounded := by
  refine bounded_whenRun h _ _ ?_
  split
  · exact bounded_consoleRespond h _ _ _ _
  · exact bounded_beginCarrying_plain (bounded_same h (by rfl)) (by rfl)

theorem bounded_closeShift (h : s.bounded) (rq : Req) : (s.closeShift rq).bounded := by
  have hoff := bounded_ite (p := s.meter.state = .vacant) (bounded_setMeterState h .offDuty) h
  unfold State.closeShift
  simp only
  split
  · exact hoff
  · exact bounded_beginCarrying_plain (bounded_same hoff (by rfl)) (by rfl)

theorem bounded_decideShiftClose (h : s.bounded) (rq : Req) : (s.decideShiftClose rq).bounded :=
  bounded_whenRun h _ _ (bounded_ite (bounded_consoleRespond h _ _ _ _)
    (bounded_ite (bounded_consoleRespond h _ _ _ _) (bounded_closeShift h rq)))

theorem bounded_decideAuxLamp (h : s.bounded) (rq : Req) (c : Nat) (v : Option LampValue) :
    (s.decideAuxLamp rq c v).bounded := by
  unfold State.decideAuxLamp
  split
  · exact bounded_ite (bounded_consoleRespond (bounded_recompose (bounded_same h (by rfl))) _ _ _ _)
      (bounded_consoleRespond h _ _ _ _)
  · exact bounded_consoleRespond h _ _ _ _

theorem bounded_decidePrompt (h : s.bounded) (rq : Req) (i : Nat) : (s.decidePrompt rq i).bounded := by
  have hrequest := bounded_requestPrompt h i
  unfold State.decidePrompt
  refine bounded_ite ?_ (bounded_consoleRespond h _ _ _ _)
  split
  all_goals
    next heq =>
      rw [heq] at hrequest
      exact bounded_consoleRespond hrequest _ _ _ _

theorem bounded_decideConsole (h : s.bounded) (rq : Req) (op : Config.ConsoleOp) :
    (s.decideConsole rq op).bounded := by
  cases op with
  | onDuty => exact bounded_decideOnDuty h rq
  | offDuty => exact bounded_decideOffDuty h rq
  | hire t => exact bounded_decideHire h rq t
  | pay => exact bounded_decidePay h rq
  | resume => exact bounded_decideResume h rq
  | extra c => exact bounded_decideExtra h rq c
  | endUnpaid => exact bounded_decideEndUnpaid h rq
  | payCard a => exact bounded_decidePayCard h rq a
  | payCancel => exact bounded_decidePayCancel h rq
  | cash a => exact bounded_decideCash h rq a
  | shiftOpen d => exact bounded_decideShiftOpen h rq d
  | shiftClose => exact bounded_decideShiftClose h rq
  | auxLamp c v => exact bounded_decideAuxLamp h rq c v
  | prompt i => exact bounded_decidePrompt h rq i
  | malformed n => exact bounded_consoleRespond h rq n .badValue .none

/-! #### Reception and transmission -/

theorem bounded_opportunity (h : s.bounded) (seg : Seg) : (s.opportunity seg).bounded := by
  unfold State.opportunity
  refine bounded_ite ?_ h
  split
  · exact bounded_modPort_same h fun _ => rfl
  · exact h

theorem bounded_endExchange (h : s.bounded) (seg : Seg) (answered : Bool) :
    (s.endExchange seg answered).bounded := by
  unfold State.endExchange
  split
  · exact h
  · next x _ =>
    have hrow := bounded_modNode
      (bounded_modPort_same h (seg := seg) (f := fun p => { p with exchange := none }) fun _ => rfl)
      ⟨seg, x.node⟩ fun n => if answered then n.answered else n.missedPoll
    exact bounded_followPresence (bounded_ite (bounded_offerNotice hrow _)
      (bounded_ite (bounded_offerNotice hrow _) hrow)) s

theorem bounded_afterExchange (h : s.bounded) (seg : Seg) : (s.afterExchange seg).bounded :=
  bounded_ite (bounded_modPort_same h fun _ => rfl) (bounded_opportunity h seg)

theorem bounded_missExchange (h : s.bounded) (seg : Seg) : (s.missExchange seg).bounded :=
  bounded_ite (bounded_afterExchange (bounded_endExchange h seg false) seg) h

theorem bounded_formatError (h : s.bounded) (seg : Seg) : (s.formatError seg).bounded :=
  bounded_modPort_same h fun _ => rfl

theorem bounded_crcError (h : s.bounded) (seg : Seg) : (s.crcError seg).bounded :=
  bounded_modPort_same h fun _ => rfl

theorem bounded_countViolation (h : s.bounded) (seg : Seg) : (s.countViolation seg).bounded := by
  unfold State.countViolation
  extract_lets p window counted
  have hcounted : counted.bounded := bounded_modPort_same h fun _ => rfl
  have hdegraded : (counted.modPort seg fun p => { p with health := .degraded, quiet := 0 }).bounded :=
    bounded_modPort_same hcounted fun _ => rfl
  exact bounded_ite (bounded_offerNotice hdegraded _) hcounted

theorem bounded_overlength (h : s.bounded) (seg : Seg) : (s.overlength seg).bounded := by
  have hignoring : (s.modPort seg fun p => { p with rx := .ignoring }).bounded :=
    bounded_modPort_same h fun _ => rfl
  exact bounded_missExchange (bounded_formatError hignoring seg) seg

theorem bounded_pass (h : s.bounded) (src : Seg) (body : List Byte) : (s.pass src body).bounded := by
  have hoffer := bounded_offerFrame h (otherSeg src) (.relay body)
  unfold State.pass
  split
  · next heq => rwa [heq] at hoffer
  · next heq =>
    rw [heq] at hoffer
    exact bounded_modPort_same hoffer fun _ => rfl

theorem bounded_lookup (h : s.bounded) (hd : Header) (body : List Byte) {pay : State → State}
    (hpay : ∀ t : State, t.bounded → (pay t).bounded) : (s.lookup hd body pay).bounded := by
  unfold State.lookup
  split
  · exact bounded_withLink h (by exact h.link)
  · next i e _ =>
    have hhit : State.bounded
        { s with link := { s.link with hits := s.link.hits.modify i (satInc max16) } } :=
      bounded_withLink h (by exact h.link)
    simp only
    split
    · exact bounded_pass hhit _ _
    · exact hhit
    · exact bounded_ite (hpay _ hhit) (bounded_withLink hhit (by exact hhit.link))

theorem bounded_classify (h : s.bounded) (hd : Header) (body : List Byte) {deliver pay : State → State}
    (hdeliver : (deliver s).bounded) (hpay : ∀ t : State, t.bounded → (pay t).bounded) :
    (s.classify hd body deliver pay).bounded :=
  bounded_ite h (bounded_ite hdeliver (bounded_ite h (bounded_lookup h hd body hpay)))

theorem bounded_deliver (h : s.bounded) (hd : Header) (payload : List Byte) :
    (s.deliver hd payload).bounded := by
  unfold State.deliver
  split
  · exact bounded_checkMgmtSender h _ (bounded_decideMgmt h _ _)
  · exact bounded_checkConsoleSender h _ (bounded_decideConsole h _ _)
  · exact bounded_checkSender h _ _ (bounded_takeViewAck h _ _)
  · exact bounded_checkSender h _ _ (bounded_takeOfferAck h _ _)
  · exact bounded_checkSender h _ _ (bounded_takeAdviceAck h _ _)
  · exact bounded_localReject h

theorem bounded_takePayment (h : s.bounded) (hd : Header) (payload : List Byte) :
    (s.takePayment hd payload).bounded := by
  unfold State.takePayment
  split
  · exact bounded_takePayReq h _ _
  · exact bounded_takePayResp h _ _

theorem bounded_takeReply (h : s.bounded) (seg : Seg) (hd : Header) (payload body : List Byte) :
    (s.takeReply seg hd payload body).bounded := by
  unfold State.takeReply
  split
  · exact bounded_formatError h seg
  · have hended := bounded_endExchange h seg true
    exact bounded_ite
      (bounded_afterExchange (bounded_ite hended
        (bounded_classify hended hd body (bounded_deliver hended hd payload)
          fun t ht => bounded_takePayment ht hd payload)) seg)
      (bounded_missExchange (bounded_formatError h seg) seg)

theorem PortState.takeEcho_queue (p : PortState) (body : List Byte) :
    (p.takeEcho body).queue = p.queue := by
  unfold PortState.takeEcho
  repeat' split
  all_goals rfl

theorem bounded_receiveFrame (h : s.bounded) (seg : Seg) (body : List Byte) :
    (s.receiveFrame seg body).bounded := by
  have hwait : (s.modPort seg fun p => { p with rx := .waiting }).bounded :=
    bounded_modPort_same h fun _ => rfl
  unfold State.receiveFrame
  refine bounded_ite (bounded_ite (bounded_overlength h seg) ?_) h
  simp only
  split
  · exact bounded_missExchange (bounded_formatError hwait seg) seg
  · exact bounded_missExchange (bounded_crcError hwait seg) seg
  · split
    · exact bounded_modPort_same hwait fun p => p.takeEcho_queue body
    · exact bounded_takeReply hwait _ _ _ _

theorem bounded_pollNext (h : s.bounded) (seg : Seg) : (s.pollNext seg).bounded := by
  unfold State.pollNext
  split
  · exact bounded_modPort_same h fun _ => rfl
  · exact bounded_opportunity h seg

theorem bounded_attempt (h : s.bounded) (a : Attempt) : (s.attempt a).bounded := by
  cases a
  · exact bounded_drain h
  · exact bounded_tryView h _
  · exact bounded_tryAdvice h

theorem bounded_foldl_attempt (h : s.bounded) (l : List Attempt) :
    (l.foldl State.attempt s).bounded := by
  induction l generalizing s with
  | nil => exact h
  | cons a l ih => exact ih (bounded_attempt h a)

theorem bounded_departed (h : s.bounded) (seg : Seg) : (s.departed seg).bounded := by
  cases seg
  · exact bounded_foldl_attempt (bounded_same h (by rfl)) _
  · exact bounded_tryView h _

theorem bounded_removeSent (h : s.bounded) (seg : Seg) (x : Sending) : (s.removeSent seg x).bounded := by
  have hsent : (s.modPort seg fun p => { p with sending := none }).bounded :=
    bounded_modPort_same h fun _ => rfl
  unfold State.removeSent
  simp only
  split
  · exact bounded_modPort_of_le hsent (by simp)
  · obtain ⟨hfront, hrear, hmonitor⟩ := hsent.link
    exact bounded_withLink hsent ⟨hfront, hrear, by simp; omega⟩
  · exact hsent

theorem bounded_turnAfter (h : s.bounded) (seg : Seg) (x : Sending) : (s.turnAfter seg x).bounded := by
  unfold State.turnAfter
  split
  · exact bounded_withLink h (by exact h.link)
  · exact bounded_withLink h (by exact h.link)
  · exact h

theorem PortState.nextEcho_queue (p : PortState) : p.nextEcho.queue = p.queue := by
  unfold PortState.nextEcho
  split
  · rfl
  · rfl
  · split <;> rfl

theorem bounded_frameSent (h : s.bounded) (seg : Seg) : (s.frameSent seg).bounded := by
  unfold State.frameSent
  split
  · exact h
  · next x _ =>
    have hgone := bounded_modPort_same (seg := seg)
      (bounded_turnAfter (bounded_removeSent h seg x) seg x) PortState.nextEcho_queue
    exact bounded_ite (bounded_departed hgone seg) hgone

theorem bounded_classifyPayment (h : s.bounded) (src dst : NodeAddr) (k : FrameKind)
    (payload : List Byte) {pay : State → State} (hpay : ∀ t : State, t.bounded → (pay t).bounded) :
    (s.classifyPayment src dst k payload pay).bounded :=
  bounded_ite (bounded_ite (bounded_formatError h _)
    (bounded_classify h _ _ (bounded_localReject h) hpay)) h

end

end Sys2Proof.Machine

namespace Sys2Proof.Machine

open Sys2Proof

/-! #### Every command, and the step -/

/-- Every command answers with a state within its limits. -/
theorem exec_bounded (c : Instr) {s : State} (h : s.bounded) : ∃ t, exec c s = .next t ∧ t.bounded := by
  cases c with
  | frameReceived seg body => exact ⟨_, rfl, bounded_receiveFrame h seg body⟩
  | pollReplyEmpty seg =>
    have hwait : (s.modPort seg fun p => { p with rx := .waiting }).bounded :=
      bounded_modPort_same h fun _ => rfl
    exact ⟨_, rfl, bounded_ite (bounded_afterExchange (bounded_endExchange hwait seg true) seg) h⟩
  | dataFrame seg src dst payload => exact ⟨_, rfl, bounded_receiveFrame h seg _⟩
  | pollStart seg => exact ⟨_, rfl, bounded_ite (bounded_pollNext h seg) h⟩
  | pollReplyTimeout seg =>
    refine ⟨_, rfl, ?_⟩
    split
    · exact bounded_missExchange h seg
    · exact h
  | repollDue a => exact ⟨_, rfl, bounded_modNode h a _⟩
  | frameSent seg => exact ⟨_, rfl, bounded_frameSent h seg⟩
  | lineWakeBurst seg => exact ⟨_, rfl, bounded_wakeBy h _⟩
  | loopback rq d => exact ⟨_, rfl, bounded_whenMgmt h rq (bounded_decideLoopback h rq d)⟩
  | loopbackTimerExpiry seg =>
    refine ⟨_, rfl, bounded_modPort_same h fun p => ?_⟩
    split
    · exact p.leaveLoopback_queue
    · rfl
  | read rq t sel => exact ⟨_, rfl, bounded_whenMgmt h rq (bounded_decideRead h rq t sel)⟩
  | write rq t => exact ⟨_, rfl, bounded_whenMgmt h rq (bounded_decideWrite h rq t)⟩
  | forwardingWrite rq i d =>
    exact ⟨_, rfl, bounded_whenMgmt h rq (bounded_decideForwardingWrite h rq i d)⟩
  | rolesWrite rq a d => exact ⟨_, rfl, bounded_whenMgmt h rq (bounded_decideRolesWrite h rq a d)⟩
  | noticeClassWrite rq i d =>
    exact ⟨_, rfl, bounded_whenMgmt h rq (bounded_decideNoticeClassWrite h rq i d)⟩
  | signChannelWrite rq i d =>
    exact ⟨_, rfl, bounded_whenMgmt h rq (bounded_decideSignChannelWrite h rq i d)⟩
  | signPatternWrite rq n d =>
    exact ⟨_, rfl, bounded_whenMgmt h rq (bounded_decideSignPatternWrite h rq n d)⟩
  | brightnessWrite rq d =>
    exact ⟨_, rfl, bounded_whenMgmt h rq (bounded_decideBrightnessWrite h rq d)⟩
  | promptsWrite rq i d => exact ⟨_, rfl, bounded_whenMgmt h rq (bounded_decidePromptsWrite h rq i d)⟩
  | promptMapWrite rq i d =>
    exact ⟨_, rfl, bounded_whenMgmt h rq (bounded_decidePromptMapWrite h rq i d)⟩
  | intercomSetWrite rq i d =>
    exact ⟨_, rfl, bounded_whenMgmt h rq (bounded_decideIntercomSetWrite h rq i d)⟩
  | payLimitsWrite rq i d =>
    exact ⟨_, rfl, bounded_whenMgmt h rq (bounded_decidePayLimitsWrite h rq i d)⟩
  | powerSetWrite rq i d =>
    exact ⟨_, rfl, bounded_whenMgmt h rq (bounded_decidePowerSetWrite h rq i d)⟩
  | tableWriteComplete =>
    refine ⟨_, rfl, bounded_whenPowered h ?_⟩
    split
    · next htake => exact bounded_mgmtRespond (bounded_takeWrite h htake) _ _ _ _ _
    · exact h
  | openLoad rq t => exact ⟨_, rfl, bounded_whenMgmt h rq (bounded_decideOpenLoad h rq t)⟩
  | writePart rq t d => exact ⟨_, rfl, bounded_whenMgmt h rq (bounded_decideWritePart h rq t d)⟩
  | commit rq t => exact ⟨_, rfl, bounded_whenMgmt h rq (bounded_decideCommit h rq t)⟩
  | abortLoad rq t => exact ⟨_, rfl, bounded_whenMgmt h rq (bounded_decideAbortLoad h rq t)⟩
  | loadWindowExpiry => exact ⟨_, rfl, bounded_whenPowered h (bounded_closeLoad h)⟩
  | pendingCommitStored =>
    refine ⟨_, rfl, bounded_whenPowered h ?_⟩
    split
    · next htake => exact bounded_mgmtRespond (bounded_takeWrite h htake) _ _ _ _ _
    · exact h
  | applicationComplete =>
    refine ⟨_, rfl, bounded_whenPowered h ?_⟩
    split
    · next htake => exact bounded_applicationStored (bounded_takeWrite h htake) _ _ _
    · exact h
  | metrologySwitchOpen =>
    exact ⟨_, rfl, bounded_ite (bounded_offerNotice (bounded_same h (by rfl)) _) (bounded_same h (by rfl))⟩
  | metrologySwitchClose => exact ⟨_, rfl, bounded_same h (by rfl)⟩
  | meterInterval =>
    have htrim := bounded_takeTrim h
    have hinterval := bounded_distanceInterval htrim
    exact ⟨_, rfl, bounded_ite
      (bounded_recompose (bounded_countTest (bounded_same hinterval (by rfl)))) htrim⟩
  | trimCountExpiry => exact ⟨_, rfl, bounded_modBackup h _⟩
  | secondEvent => exact ⟨_, rfl, bounded_ite (bounded_secondEvent h) (bounded_modBackup h _)⟩
  | minuteEvent => exact ⟨_, rfl, bounded_whenPowered h (bounded_evaluateBand (bounded_same h (by rfl)))⟩
  | setTime rq t => exact ⟨_, rfl, bounded_whenMgmt h rq (bounded_decideSetTime h rq t)⟩
  | backupLoss => exact ⟨_, rfl, bounded_ite h (bounded_same h (by rfl))⟩
  | odometerEdge capture => exact ⟨_, rfl, bounded_ite (bounded_same h (by rfl)) h⟩
  | holdoffExpiry => exact ⟨_, rfl, bounded_ite (bounded_same h (by rfl)) h⟩
  | onDuty rq => exact ⟨_, rfl, bounded_whenConsole h rq (bounded_decideOnDuty h rq)⟩
  | offDuty rq => exact ⟨_, rfl, bounded_whenConsole h rq (bounded_decideOffDuty h rq)⟩
  | hire rq t => exact ⟨_, rfl, bounded_whenConsole h rq (bounded_decideHire h rq t)⟩
  | pay rq => exact ⟨_, rfl, bounded_whenConsole h rq (bounded_decidePay h rq)⟩
  | resume rq => exact ⟨_, rfl, bounded_whenConsole h rq (bounded_decideResume h rq)⟩
  | extra rq c => exact ⟨_, rfl, bounded_whenConsole h rq (bounded_decideExtra h rq c)⟩
  | endUnpaid rq => exact ⟨_, rfl, bounded_whenConsole h rq (bounded_decideEndUnpaid h rq)⟩
  | closeUpdateComplete =>
    refine ⟨_, rfl, bounded_whenPowered h ?_⟩
    split
    · next htake => exact bounded_closeStored (bounded_takeWrite h htake)
    · exact h
  | correctionWindowExpiry => exact ⟨_, rfl, bounded_whenPowered h (bounded_same h (by rfl))⟩
  | viewHoldoffExpiry d => exact ⟨_, rfl, bounded_whenPowered h (bounded_tryView (bounded_modView h d _) d)⟩
  | viewAck src seq fare => exact ⟨_, rfl, bounded_whenFrom h _ src (bounded_takeViewAck h seq fare)⟩
  | auxLamp rq c v => exact ⟨_, rfl, bounded_whenConsole h rq (bounded_decideAuxLamp h rq c v)⟩
  | signTest rq d v => exact ⟨_, rfl, bounded_whenMgmt h rq (bounded_decideSignTest h rq d v)⟩
  | signTestExpiry => exact ⟨_, rfl, bounded_whenPowered h (bounded_endTest h)⟩
  | ambientSample x => exact ⟨_, rfl, bounded_ite h (bounded_recompose (bounded_same h (by rfl)))⟩
  | lampCheck c x => exact ⟨_, rfl, bounded_ite (bounded_checkLamp h _ x) h⟩
  | clearLamp rq c => exact ⟨_, rfl, bounded_whenMgmt h rq (bounded_decideClearLamp h rq c)⟩
  | emergencySwitchClose =>
    exact ⟨_, rfl, bounded_ite (bounded_wakeBy (bounded_holdClose (bounded_same h (by rfl))) _) (bounded_same h (by rfl))⟩
  | emergencySwitchOpen => exact ⟨_, rfl, bounded_ite (bounded_same h (by rfl)) (bounded_same h (by rfl))⟩
  | emergencyHoldExpiry => exact ⟨_, rfl, bounded_ite (bounded_holdExpires h) h⟩
  | emergencyClear rq => exact ⟨_, rfl, bounded_whenMgmt h rq (bounded_decideEmergencyClear h rq)⟩
  | codecFrame d p =>
    exact ⟨_, rfl, bounded_exchangeFrame (bounded_ite (bounded_takeTestEnd h) h) _ _⟩
  | promptEnd => exact ⟨_, rfl, bounded_whenPowered h (bounded_endPrompt h)⟩
  | monitorFrameComplete => exact ⟨_, rfl, bounded_whenPowered h (bounded_completeMonitorFrame h)⟩
  | blockBoundary => exact ⟨_, rfl, bounded_ite (bounded_blockBoundary h) h⟩
  | prompt rq i => exact ⟨_, rfl, bounded_whenConsole h rq (bounded_decidePrompt h rq i)⟩
  | speakerTest rq side => exact ⟨_, rfl, bounded_whenMgmt h rq (bounded_decideSpeakerTest h rq side)⟩
  | speakerTestEnd => exact ⟨_, rfl, bounded_whenPowered h (bounded_takeTestEnd h)⟩
  | payCard rq a => exact ⟨_, rfl, bounded_whenConsole h rq (bounded_decidePayCard h rq a)⟩
  | offerAck src trip index => exact ⟨_, rfl, bounded_whenFrom h _ src (bounded_takeOfferAck h trip index)⟩
  | payCancel rq => exact ⟨_, rfl, bounded_whenConsole h rq (bounded_decidePayCancel h rq)⟩
  | cash rq a => exact ⟨_, rfl, bounded_whenConsole h rq (bounded_decideCash h rq a)⟩
  | payReq src dst d =>
    exact ⟨_, rfl, bounded_classifyPayment h src dst _ _ fun t ht => bounded_takePayReq ht src d⟩
  | payResp src dst d =>
    exact ⟨_, rfl, bounded_classifyPayment h src dst _ _ fun t ht => bounded_takePayResp ht src d⟩
  | authTimerExpiry => exact ⟨_, rfl, bounded_whenPowered h (bounded_authExpires h)⟩
  | adviceAckTimeout =>
    obtain ⟨hlate, hadvice, htenders⟩ := h.pay
    refine ⟨_, rfl, bounded_whenPowered h ?_⟩
    split
    · refine bounded_tryAdvice (bounded_withPay h ?_)
      exact ⟨hlate, by simpa using hadvice, htenders⟩
    · exact h
  | adviceAck src ref k => exact ⟨_, rfl, bounded_whenFrom h _ src (bounded_takeAdviceAck h ref k)⟩
  | shiftOpen rq d => exact ⟨_, rfl, bounded_whenConsole h rq (bounded_decideShiftOpen h rq d)⟩
  | shiftOpenUpdateComplete =>
    refine ⟨_, rfl, bounded_whenPowered h ?_⟩
    split
    · next htake => exact bounded_consoleRespond (bounded_takeWrite h htake) _ _ _ _
    · exact h
  | shiftClose rq => exact ⟨_, rfl, bounded_whenConsole h rq (bounded_decideShiftClose h rq)⟩
  | shiftCloseUpdateComplete =>
    refine ⟨_, rfl, bounded_whenPowered h ?_⟩
    split
    · next htake =>
      have hanswer := bounded_consoleRespond (bounded_takeWrite h htake)
      simp only
      split
      · exact bounded_reportShift (hanswer _ _ _ _) _
      · exact hanswer _ _ _ _
    · exact h
  | shiftLimitReached =>
    exact ⟨_, rfl, bounded_whenPowered h
      (bounded_ite (bounded_parkCheck (bounded_wakeBy (bounded_setLimit h) _)) h)⟩
  | ackTrips rq n => exact ⟨_, rfl, bounded_whenMgmt h rq (bounded_decideAckTrips h rq n)⟩
  | ackTripsWriteComplete =>
    refine ⟨_, rfl, bounded_whenPowered h ?_⟩
    split
    · next htake => exact bounded_mgmtRespond (bounded_takeWrite h htake) _ _ _ _ _
    · exact h
  | supplySample x => exact ⟨_, rfl, bounded_whenPowered h (bounded_takeSample h x)⟩
  | holdupSaveComplete =>
    refine ⟨_, rfl, bounded_whenPowered h ?_⟩
    split
    · next htake => exact bounded_tryWarmReturn (bounded_same (bounded_takeWrite h htake) (by rfl))
    · exact h
  | supplyGone => exact ⟨_, rfl, bounded_whenPowered h (bounded_loseSupply h)⟩
  | ignitionOff => exact ⟨_, rfl, bounded_ite (bounded_startPark (bounded_same h (by rfl))) (bounded_same h (by rfl))⟩
  | ignitionOn =>
    exact ⟨_, rfl, bounded_ite (bounded_same h (by rfl))
      (bounded_ite (bounded_same h (by rfl)) (bounded_wakeBy (bounded_same h (by rfl)) _))⟩
  | parkDelayExpiry =>
    refine ⟨_, rfl, bounded_whenPowered h ?_⟩
    split
    · exact bounded_ite (bounded_enterParked h) (bounded_same h (by rfl))
    · exact h
  | checkpointTimerExpiry =>
    refine ⟨_, rfl, bounded_whenPowered h ?_⟩
    split
    · exact bounded_ite (bounded_beginCheckpoint h none) h
    · exact h
  | checkpointComplete =>
    refine ⟨_, rfl, bounded_whenPowered h ?_⟩
    split
    · next htake => exact bounded_releaseHeld (bounded_takeWrite h htake) _
    · next htake => exact bounded_takeWrite h htake
    · exact h
  | restart rq => exact ⟨_, rfl, bounded_whenMgmt h rq (bounded_decideRestart h rq)⟩
  | restartSaveComplete ambient =>
    refine ⟨_, rfl, bounded_whenPowered h (bounded_ite ?_ h)⟩
    split
    · next htake => exact bounded_startUp (bounded_flushWrites (bounded_takeWrite h htake)) _ _ _
    · exact h
  | coldStart sample ambient => exact ⟨_, rfl, bounded_ite (bounded_startUp (bounded_same h (by rfl)) _ _ _) h⟩
  | pinReset ambient => exact ⟨_, rfl, bounded_whenPowered h (bounded_startUp (bounded_cutWrites h) _ _ _)⟩
  | startDelimiterSeen seg =>
    exact ⟨_, rfl, bounded_ite (bounded_modPort_same h fun _ => rfl) h⟩
  | receivedCodeViolation seg =>
    have hignoring : (s.modPort seg fun p => { p with rx := .ignoring }).bounded :=
      bounded_modPort_same h fun _ => rfl
    exact ⟨_, rfl, bounded_ite (bounded_missExchange (bounded_countViolation hignoring seg) seg) h⟩
  | overlengthAbort seg => exact ⟨_, rfl, bounded_ite (bounded_overlength h seg) h⟩
  | lineIdleResume seg => exact ⟨_, rfl, bounded_ite (bounded_modPort_same h fun _ => rfl) h⟩

/-- Settles O3: an idle step changes nothing, and every command keeps the limits. -/
theorem stepKeepsQueueLimits : Obligations.StepKeepsQueueLimits := by
  intro s t h hstep
  unfold step at hstep
  split at hstep
  · cases hstep
    exact h
  · next c rest _ =>
    obtain ⟨u, hexec, hu⟩ := exec_bounded c (s := { s with pending := rest }) (bounded_same h (by rfl))
    rw [hexec] at hstep
    cases hstep
    exact hu

end Sys2Proof.Machine

section
/-! ### What most operations leave: the queue, the counter, and what the meter agrees on

Four numbers decide whether the engine, the trip and the snapshot agree with the meter state; only the
operations that change the meter state change them. -/

namespace Sys2Proof.Machine

open Sys2Proof

/-- Two meters agree in the state and in which of the trip and the snapshot they hold. -/
abbrev Meter.alike (m n : Meter) : Prop :=
  n.state = m.state ∧ n.trip.isSome = m.trip.isSome ∧ n.snapshot.isSome = m.snapshot.isSome

/-- Two states agree in the queue of waiting commands, the seconds counter, and everything that
`State.meterAgrees` reads. -/
abbrev State.alike (s t : State) : Prop :=
  t.pending = s.pending ∧ t.time.backup.counter = s.time.backup.counter ∧
    t.engine.mode = s.engine.mode ∧ s.meter.alike t.meter

/-! #### Fare views, trip and tenders -/

@[simp] theorem State.modView_alike (s : State) (d : ViewDest) (f : ViewState → ViewState) :
    s.meter.alike (s.modView d f).meter := by
  cases d <;> simp [State.modView, Meter.alike]

@[simp] theorem State.modTrip_alike (s : State) (f : TripRecord → TripRecord) :
    s.meter.alike (s.modTrip f).meter := by
  simp [State.modTrip, Meter.alike]

@[simp] theorem State.setMarks_alike (s : State) : s.meter.alike s.setMarks.meter := by
  simp [Meter.alike]

@[simp] theorem State.resetViews_alike (s : State) : s.meter.alike s.resetViews.meter := by
  simp [State.resetViews, Meter.alike]

@[simp] theorem State.renewViews_alike (s : State) : s.meter.alike s.renewViews.meter := by
  simp only [Meter.alike, State.renewViews, State.setMarks_alike, State.resetViews_alike, and_self]

@[simp] theorem State.tryView_alike (s : State) (d : ViewDest) : s.meter.alike (s.tryView d).meter := by
  have hoffer := State.offerRole_keeps s (viewRole d) (.fareView (s.buildView (s.viewState d)))
  unfold State.tryView
  simp only
  split
  · split <;> simp_all [Meter.alike]
  · simp [Meter.alike]

@[simp] theorem State.markViews_alike (s : State) : s.meter.alike s.markViews.meter := by
  simp only [Meter.alike, State.markViews, State.tryView_alike, State.setMarks_alike, and_self]

@[simp] theorem State.setSession_alike (s : State) (x : Session) :
    s.meter.alike (s.setSession x).meter := by
  unfold State.setSession
  simp only
  split <;> simp [Meter.alike]

@[simp] theorem State.endSession_alike (s : State) : s.meter.alike s.endSession.meter := by
  unfold State.endSession
  simp only
  split <;> simp [Meter.alike]

@[simp] theorem State.testInterlock_alike (s : State) : s.meter.alike s.testInterlock.meter := by
  unfold State.testInterlock
  simp only
  split <;> simp [Meter.alike]

@[simp] theorem State.beginClose_alike (s : State) (u : Nat) :
    s.meter.alike (s.beginClose u).meter := by
  unfold State.beginClose
  split <;> simp_all [Meter.alike, State.beginCloseUpdate]

@[simp] theorem State.reportDue_alike (s : State) : s.meter.alike s.reportDue.meter := by
  unfold State.reportDue
  simp only
  split <;> simp [Meter.alike]

@[simp] theorem State.finishCard_alike (s : State) (t : Tender) (f : CardFields) (r : ReaderResult)
    (tr : Trigger) : s.meter.alike (s.finishCard t f r tr).meter := by
  unfold State.finishCard
  simp only
  split <;> simp [Meter.alike]

@[simp] theorem State.decideOffline_alike (s : State) : s.meter.alike s.decideOffline.meter := by
  unfold State.decideOffline
  split
  · simp [Meter.alike]
  · split
    · simp [Meter.alike]
    · simp only
      split <;> simp [Meter.alike]

@[simp] theorem State.readerLost_alike (s : State) : s.meter.alike s.readerLost.meter := by
  unfold State.readerLost
  split <;> simp [Meter.alike]

@[simp] theorem State.modemLost_alike (s : State) : s.meter.alike s.modemLost.meter := by
  unfold State.modemLost
  split <;> simp [Meter.alike]

/-! #### Presence and poll exchanges -/

@[simp] theorem State.viewAvailable_alike (old s : State) (d : ViewDest) :
    s.meter.alike (old.viewAvailable s d).meter := by
  unfold State.viewAvailable
  split <;> simp [Meter.alike]

@[simp] theorem State.followPresence_alike (old s : State) :
    s.meter.alike (old.followPresence s).meter := by
  unfold State.followPresence
  simp only
  (repeat' split) <;> simp [Meter.alike]

@[simp] theorem State.portsStarted_alike (s : State) : s.meter.alike s.portsStarted.meter := by
  simp [State.portsStarted, Meter.alike]

@[simp] theorem State.endExchange_alike (s : State) (seg : Seg) (a : Bool) :
    s.meter.alike (s.endExchange seg a).meter := by
  unfold State.endExchange
  split
  · simp [Meter.alike]
  · simp only
    (repeat' split) <;> simp [Meter.alike]

@[simp] theorem State.missExchange_alike (s : State) (seg : Seg) :
    s.meter.alike (s.missExchange seg).meter := by
  unfold State.missExchange
  split <;> simp [Meter.alike]

/-! #### The fare engine and the calendar -/

@[simp] theorem State.completeStep_alike (s : State) : s.alike s.completeStep := by
  unfold State.completeStep
  split
  · simp [State.alike, Meter.alike]
  · simp only
    split <;> simp_all [State.alike, Meter.alike]

@[simp] theorem State.completeSteps_alike (s : State) (n : Nat) : s.alike (s.completeSteps n) := by
  induction n generalizing s with
  | zero => simp [State.completeSteps, State.alike, Meter.alike]
  | succ n ih => simpa [State.completeSteps, State.alike, Meter.alike] using ih s.completeStep

@[simp] theorem State.takeInterval_alike (s : State) (p : Nat) : s.alike (s.takeInterval p) := by
  unfold State.takeInterval
  split <;> simp_all [State.alike, Meter.alike]

@[simp] theorem State.openSegment_alike (s : State) (n : Nat) (t : Tariff) :
    s.alike (s.openSegment n t) := by
  simp [State.openSegment, Engine.withConstants, State.alike, Meter.alike]

@[simp] theorem State.followBand_alike (s : State) (b : Option Nat) :
    s.alike (s.followBand b).1 := by
  unfold State.followBand
  (repeat' split) <;> simp [State.alike, Meter.alike]

@[simp] theorem State.bandChange_alike (s : State) (b : Option Nat) : s.alike (s.bandChange b) := by
  unfold State.bandChange
  split <;> simp [State.alike, Meter.alike]

@[simp] theorem State.evaluateBand_alike (s : State) : s.alike s.evaluateBand := by
  unfold State.evaluateBand
  simp only
  split <;> simp [State.alike, Meter.alike]

/-! #### Store writes -/

@[simp] theorem State.completeWrites_alike (s : State) (l : List StoreWrite) :
    s.alike (l.foldl State.completeWrite s) := by
  induction l generalizing s with
  | nil => simp [State.alike, Meter.alike]
  | cons w l ih =>
    have htail := ih (s.completeWrite w)
    simp_all [State.alike, Meter.alike]

theorem State.takeWrite_alike {s : State} {kind : StoreWrite → Bool} {w : StoreWrite} {t : State}
    (h : s.takeWrite kind = some (w, t)) : s.alike t := by
  unfold State.takeWrite at h
  simp only at h
  split at h
  · simp at h
  · split at h
    · simp only [Option.some.injEq, Prod.mk.injEq] at h
      obtain ⟨-, rfl⟩ := h
      exact State.completeWrites_alike { s with writes := _ } _
    · simp at h

/-! #### The intercom -/

@[simp] theorem State.startPrompt_alike (s : State) : s.alike s.startPrompt := by
  unfold State.startPrompt
  split
  · split <;> simp [State.alike, Meter.alike]
  · simp [State.alike, Meter.alike]

@[simp] theorem State.makeTones_alike (s : State) : s.alike s.makeTones.1 := by
  unfold State.makeTones
  (repeat' split) <;> simp [State.alike, Meter.alike]

@[simp] theorem State.runFrame_alike (s : State) (d p : Int) : s.alike (s.runFrame d p) := by
  simp [State.runFrame, State.alike, Meter.alike]

@[simp] theorem State.exchangeFrame_alike (s : State) (d p : Int) : s.alike (s.exchangeFrame d p) := by
  unfold State.exchangeFrame
  split <;> simp [State.alike, Meter.alike]

@[simp] theorem State.completeMonitorFrame_alike (s : State) : s.alike s.completeMonitorFrame := by
  unfold State.completeMonitorFrame
  simp only
  (repeat' split) <;> simp [State.alike, Meter.alike]

/-! #### Payment -/

@[simp] theorem State.stamp_alike (s : State) (d : PayReq) : s.alike (s.stamp d) := by
  unfold State.stamp
  simp only
  (repeat' split) <;> simp [State.alike, Meter.alike]

@[simp] theorem State.takePayReq_alike (s : State) (src : NodeAddr) (d : PayReq) :
    s.alike (s.takePayReq src d) := by
  unfold State.takePayReq
  split
  · simp [State.alike, Meter.alike]
  · split <;> simp [State.alike, Meter.alike]

@[simp] theorem State.takeOfferAck_alike (s : State) (trip index : Nat) :
    s.alike (s.takeOfferAck trip index) := by
  unfold State.takeOfferAck
  simp only
  split <;> simp [State.alike, Meter.alike]

@[simp] theorem State.takeViewAck_alike (s : State) (seq fare : Nat) :
    s.alike (s.takeViewAck seq fare) := by
  unfold State.takeViewAck
  simp only
  (repeat' split) <;> simp [State.alike, Meter.alike]

@[simp] theorem State.releaseHeld_alike (s : State) (ref : Ref) : s.alike (s.releaseHeld ref) := by
  unfold State.releaseHeld
  split
  · simp [State.alike, Meter.alike]
  · rename_i request hheld
    have hoffer := State.offerRole_keeps s .modem (.payReq request)
    split
    · split <;> simp_all [State.alike, Meter.alike]
    · simp [State.alike, Meter.alike]

@[simp] theorem State.decideCurrent_alike (s : State) (t : Tender) (f : CardFields) (a : Bool)
    (code : List Byte) : s.alike (s.decideCurrent t f a code) := by
  unfold State.decideCurrent
  simp only
  split <;> simp [State.alike, Meter.alike]

@[simp] theorem State.lateDispute_alike (s : State) (n : Nat) : s.alike (s.lateDispute n) := by
  unfold State.lateDispute
  simp only
  (repeat' split) <;> simp [State.alike, Meter.alike]

@[simp] theorem State.amendTender_alike (s : State) (t : Option Tender) (f : Tender → Tender) :
    s.alike (s.amendTender t f) := by
  unfold State.amendTender
  split <;> simp [State.alike, Meter.alike]

@[simp] theorem State.decideLate_alike (s : State) (e : LateEntry) (a : Bool) (code : List Byte) :
    s.alike (s.decideLate e a code) := by
  unfold State.decideLate
  simp only
  split <;> (repeat' split) <;> simp [State.alike, Meter.alike]

@[simp] theorem State.takePayResp_alike (s : State) (src : NodeAddr) (d : PayResp) :
    s.alike (s.takePayResp src d) := by
  unfold State.takePayResp
  simp only
  split
  · simp [State.alike, Meter.alike]
  · split
    · simp [State.alike, Meter.alike]
    · split
      · simp [State.alike, Meter.alike]
      · split <;> simp [State.alike, Meter.alike]

@[simp] theorem State.takeAdviceAck_alike (s : State) (ref : Ref) (k : Option AdviceKind) :
    s.alike (s.takeAdviceAck ref k) := by
  unfold State.takeAdviceAck
  split <;> simp [State.alike, Meter.alike]

@[simp] theorem State.authExpires_alike (s : State) : s.alike s.authExpires := by
  unfold State.authExpires
  (repeat' split) <;> simp [State.alike, Meter.alike]

/-! #### Sign, emergency and power -/

@[simp] theorem State.checkLamp_alike (s : State) (i current : Nat) :
    s.alike (s.checkLamp i current) := by
  unfold State.checkLamp
  simp only
  (repeat' split) <;> simp [State.alike, Meter.alike]

@[simp] theorem State.clearLamps_alike (s : State) (c : Nat) : s.alike (s.clearLamps c) := by
  simp [State.clearLamps, State.alike, Meter.alike]

@[simp] theorem State.activateEmergency_alike (s : State) : s.alike s.activateEmergency := by
  simp [State.activateEmergency, State.alike, Meter.alike]

@[simp] theorem State.clearEmergency_alike (s : State) (c : ClearCause) :
    s.alike (s.clearEmergency c) := by
  simp [State.clearEmergency, State.alike, Meter.alike]

@[simp] theorem State.holdExpires_alike (s : State) : s.alike s.holdExpires := by
  unfold State.holdExpires
  simp only
  (repeat' split) <;> simp [State.alike, Meter.alike]

@[simp] theorem State.takeSwitch_alike (s : State) : s.alike s.takeSwitch := by
  unfold State.takeSwitch
  split <;> simp [State.alike, Meter.alike]

@[simp] theorem State.restartPorts_alike (s : State) : s.alike s.restartPorts := by
  simp [State.restartPorts, State.alike, Meter.alike]

@[simp] theorem State.enterParked_alike (s : State) : s.alike s.enterParked := by
  simp [State.enterParked, State.alike, Meter.alike]

@[simp] theorem State.parkCheck_alike (s : State) : s.alike s.parkCheck := by
  unfold State.parkCheck
  split <;> simp [State.alike, Meter.alike]

@[simp] theorem State.takeTestEnd_alike (s : State) : s.alike s.takeTestEnd := by
  unfold State.takeTestEnd
  split <;> simp [State.alike, Meter.alike]

@[simp] theorem State.enterHoldup_alike (s : State) : s.alike s.enterHoldup := by
  simp [State.enterHoldup, State.alike, Meter.alike]

@[simp] theorem State.wakeBy_alike (s : State) (src : WakeSource) : s.alike (s.wakeBy src) := by
  unfold State.wakeBy
  simp only
  split
  · split <;> simp [State.alike, Meter.alike]
  · simp [State.alike, Meter.alike]

@[simp] theorem State.loseSupply_alike (s : State) : s.alike s.loseSupply := by
  simp [State.loseSupply, State.cutWrites, State.alike, Meter.alike]

/-! #### Metrology applications -/

@[simp] theorem State.logNotices_alike (s : State) : s.alike s.logNotices := by
  unfold State.logNotices
  simp only
  (repeat' split) <;> simp [State.alike, Meter.alike]

@[simp] theorem State.putInForce_alike (s : State) (st : Staged) (app : AppRecord) (o : AppOrigin) :
    s.alike (s.putInForce st app o) := by
  unfold State.putInForce
  simp only
  split <;> simp [State.alike, Meter.alike]

@[simp] theorem State.handTrim_alike (s : State) (st : Staged) : s.alike (s.handTrim st) := by
  unfold State.handTrim
  split <;> simp [State.alike, Meter.alike]

@[simp] theorem State.applyPending_alike (s : State) : s.alike s.applyPending := by
  unfold State.applyPending
  simp only
  split <;> simp [State.alike, Meter.alike]

/-! #### Time and distance -/

@[simp] theorem State.noticeOverrate_alike (s : State) (raw : Nat) : s.alike (s.noticeOverrate raw) := by
  unfold State.noticeOverrate
  simp only
  split <;> simp [State.alike, Meter.alike]

@[simp] theorem State.credit_alike (s : State) (m : Nat) : s.alike (s.credit m) := by
  unfold State.credit
  simp only
  split <;> simp [State.alike, Meter.alike]

@[simp] theorem State.distanceInterval_alike (s : State) : s.alike s.distanceInterval := by
  unfold State.distanceInterval
  simp only
  (repeat' split) <;> simp [State.alike, Meter.alike]

@[simp] theorem Backup.interval_counter (b : Backup) (new : Option Trim) :
    (b.interval new).counter = b.counter := by
  unfold Backup.interval
  simp only
  (repeat' split) <;> rfl

@[simp] theorem State.takeTrim_alike (s : State) : s.alike s.takeTrim := by
  unfold State.takeTrim State.modBackup
  simp only
  split <;> simp [State.alike, Meter.alike]

@[simp] theorem State.closeWindow_alike (s : State) (seg : Seg) : s.alike (s.closeWindow seg) := by
  unfold State.closeWindow
  simp only
  split <;> simp [State.alike, Meter.alike]

@[simp] theorem State.tickTimers_alike (s : State) : s.alike s.tickTimers := by
  simp [State.tickTimers, State.alike, Meter.alike]

/-! #### The link -/

@[simp] theorem State.countViolation_alike (s : State) (seg : Seg) : s.alike (s.countViolation seg) := by
  unfold State.countViolation
  simp only
  split <;> simp [State.alike, Meter.alike]

@[simp] theorem State.overlength_alike (s : State) (seg : Seg) : s.alike (s.overlength seg) := by
  simp [State.overlength, State.alike, Meter.alike]

@[simp] theorem State.pollNext_alike (s : State) (seg : Seg) : s.alike (s.pollNext seg) := by
  unfold State.pollNext
  split <;> simp [State.alike, Meter.alike]

@[simp] theorem State.attempt_alike (s : State) (a : Attempt) : s.alike (s.attempt a) := by
  cases a <;> simp [State.attempt, State.alike, Meter.alike]

@[simp] theorem State.attempts_alike (s : State) (l : List Attempt) :
    s.alike (l.foldl State.attempt s) := by
  induction l generalizing s with
  | nil => simp [State.alike, Meter.alike]
  | cons a l ih =>
    have htail := ih (s.attempt a)
    simp_all [State.alike, Meter.alike]

@[simp] theorem State.departed_alike (s : State) (seg : Seg) : s.alike (s.departed seg) := by
  cases seg <;> simp [State.departed, State.alike, Meter.alike]

@[simp] theorem State.removeSent_alike (s : State) (seg : Seg) (x : Sending) :
    s.alike (s.removeSent seg x) := by
  unfold State.removeSent
  simp only
  split <;> simp [State.alike, Meter.alike]

@[simp] theorem State.turnAfter_alike (s : State) (seg : Seg) (x : Sending) :
    s.alike (s.turnAfter seg x) := by
  unfold State.turnAfter
  split <;> simp [State.alike, Meter.alike]

@[simp] theorem State.frameSent_alike (s : State) (seg : Seg) : s.alike (s.frameSent seg) := by
  unfold State.frameSent
  split
  · simp [State.alike, Meter.alike]
  · simp only
    split <;> simp [State.alike, Meter.alike]

@[simp] theorem State.pass_alike (s : State) (seg : Seg) (body : List Byte) :
    s.alike (s.pass seg body) := by
  have hoffer := State.offerFrame_keeps s (otherSeg seg) (.relay body)
  unfold State.pass
  split <;> simp_all [State.alike, Meter.alike]

end Sys2Proof.Machine
end

section
/-! ### Every command keeps the queue, the counter and the meter's agreement -/

namespace Sys2Proof.Machine

open Sys2Proof

/-- The queue and the counter stand, and the meter agrees afterwards where it did before. -/
def State.follows (s t : State) : Prop :=
  t.pending = s.pending ∧ t.now = s.now ∧ (s.meterAgrees → t.meterAgrees)

theorem State.meterAgrees_of_alike {s t : State} (hmode : t.engine.mode = s.engine.mode)
    (hmeter : s.meter.alike t.meter) (h : s.meterAgrees) : t.meterAgrees := by
  obtain ⟨hstate, htrip, hsnapshot⟩ := hmeter
  unfold State.meterAgrees State.tripOpen at h ⊢
  rwa [hstate, hmode, htrip, hsnapshot]

theorem State.follows_of_alike {s t : State} (h : s.alike t) : s.follows t :=
  ⟨h.1, h.2.1, State.meterAgrees_of_alike h.2.2.1 h.2.2.2⟩

theorem State.follows_refl (s : State) : s.follows s := ⟨rfl, rfl, id⟩

theorem State.follows.trans {r s t : State} (h : r.follows s) (h' : s.follows t) : r.follows t :=
  ⟨h'.1.trans h.1, h'.2.1.trans h.2.1, h'.2.2 ∘ h.2.2⟩

theorem State.follows.alike {r s t : State} (h : r.follows s) (h' : s.alike t) : r.follows t :=
  h.trans (State.follows_of_alike h')

theorem State.alike.follows {r s t : State} (h : r.alike s) (h' : s.follows t) : r.follows t :=
  (State.follows_of_alike h).trans h'

theorem State.follows_ite {s a b : State} {c : Prop} [Decidable c] (ha : c → s.follows a)
    (hb : ¬ c → s.follows b) : s.follows (if c then a else b) := by
  split
  · exact ha ‹_›
  · exact hb ‹_›

/-! #### How requests reach their decision -/

section
variable {s : State} {k : State → State}

theorem State.follows_whenPowered (hk : s.follows (k s)) : s.follows (s.whenPowered k) :=
  State.follows_ite (fun _ => hk) fun _ => s.follows_refl

theorem State.follows_checkMgmtSender (src : NodeAddr) (hk : s.follows (k s)) :
    s.follows (s.checkMgmtSender src k) :=
  State.follows_ite (fun _ => s.follows_refl) fun _ =>
    State.follows_ite (fun _ => hk) fun _ => State.follows_of_alike (by simp [State.alike, Meter.alike])

theorem State.follows_checkConsoleSender (src : NodeAddr) (hk : s.follows (k s)) :
    s.follows (s.checkConsoleSender src k) :=
  State.follows_ite (fun _ => s.follows_refl) fun _ =>
    State.follows_ite (fun _ => hk) fun _ => State.follows_of_alike (by simp [State.alike, Meter.alike])

theorem State.follows_checkSender (r : Role) (src : NodeAddr) (hk : s.follows (k s)) :
    s.follows (s.checkSender r src k) :=
  State.follows_ite (fun _ => hk) fun _ => State.follows_of_alike (by simp [State.alike, Meter.alike])

theorem State.follows_whenMgmt (rq : Req) (hk : s.follows (k s)) : s.follows (s.whenMgmt rq k) :=
  State.follows_ite (fun _ => State.follows_checkMgmtSender _ hk) fun _ => s.follows_refl

theorem State.follows_whenConsole (rq : Req) (hk : s.follows (k s)) :
    s.follows (s.whenConsole rq k) :=
  State.follows_ite (fun _ => State.follows_checkConsoleSender _ hk) fun _ => s.follows_refl

theorem State.follows_whenFrom (r : Role) (src : NodeAddr) (hk : s.follows (k s)) :
    s.follows (s.whenFrom r src k) :=
  State.follows_ite (fun _ => State.follows_checkSender _ _ hk) fun _ => s.follows_refl

theorem State.mgmtRespond_follows (s : State) (rq : Req) (op : OpName) (t : Target) (r : MgmtResult)
    (d : RespData) : s.follows (s.mgmtRespond rq op t r d) :=
  State.follows_of_alike (by simp [State.alike, Meter.alike])

theorem State.consoleRespond_follows (s : State) (rq : Req) (n : ConsoleName) (r : ConsoleResult)
    (d : ConsoleData) : s.follows (s.consoleRespond rq n r d) :=
  State.follows_of_alike (by simp [State.alike, Meter.alike])

theorem State.follows_whenAllowed (rq : Req) (op : OpName) (t : Target) (o : Bool)
    (hk : s.follows (k s)) : s.follows (s.whenAllowed rq op t o k) :=
  State.follows_ite (fun _ => s.mgmtRespond_follows ..) fun _ =>
    State.follows_ite (fun _ => s.mgmtRespond_follows ..) fun _ => hk

theorem State.follows_whenRun (rq : Req) (n : ConsoleName) (hk : s.follows (k s)) :
    s.follows (s.whenRun rq n k) :=
  State.follows_ite (fun _ => hk) fun _ => s.consoleRespond_follows ..

theorem State.follows_whenNotClosing (rq : Req) (n : ConsoleName) (hk : s.follows (k s)) :
    s.follows (s.whenNotClosing rq n k) :=
  State.follows_ite (fun _ => s.consoleRespond_follows ..) fun _ => hk

end

/-! #### Changes of the meter state -/

@[simp] theorem State.setMeterState_core (s : State) (m : MeterState) :
    (s.setMeterState m).meter.state = m ∧
      (s.setMeterState m).meter.trip.isSome = s.meter.trip.isSome ∧
      (s.setMeterState m).meter.snapshot.isSome = s.meter.snapshot.isSome := by
  unfold State.setMeterState
  simp only
  split <;> simp

/-- A move between the two states without a trip. -/
theorem State.setMeterState_follows_free {s : State} {m : MeterState}
    (hs : s.meter.state = .offDuty ∨ s.meter.state = .vacant) (hm : m = .offDuty ∨ m = .vacant) :
    s.follows (s.setMeterState m) := by
  refine ⟨by simp, by simp [State.now], fun h => ?_⟩
  unfold State.meterAgrees State.tripOpen at h ⊢
  rcases hs with hs | hs <;> rcases hm with rfl | rfl <;> simp_all

theorem State.limitTold_follows (s : State) : s.follows s.limitTold :=
  State.follows_ite (fun h => State.setMeterState_follows_free (.inr h) (.inl rfl)) fun _ =>
    s.follows_refl

theorem State.takeHire_follows {s : State} (n : Nat) (t : Tariff) (hs : s.meter.state = .vacant) :
    s.follows (s.takeHire n t) := by
  refine ⟨by simp [State.takeHire, State.startTrip], by simp [State.takeHire, State.startTrip, State.now],
    fun h => ?_⟩
  unfold State.meterAgrees State.tripOpen at h ⊢
  simp_all [State.takeHire, State.startTrip, Engine.withConstants]

/-- With a trip open, its record stands. -/
theorem State.meterAgrees.trip_isSome {s : State} (h : s.meterAgrees)
    (hs : s.meter.state = .hired ∨ s.meter.state = .pay) : s.meter.trip.isSome = true := by
  obtain ⟨-, -, htrip, -⟩ := h
  exact htrip.1 (by simpa [State.tripOpen] using hs)

theorem State.takePay_follows {s : State} (hs : s.meter.state = .hired) : s.follows s.takePay := by
  refine ⟨by simp [State.takePay], by simp [State.takePay, State.now], fun h => ?_⟩
  have htrip := h.trip_isSome (.inl hs)
  simp [State.meterAgrees, State.tripOpen, State.takePay, htrip]

theorem State.takeResume_follows {s : State} (hs : s.meter.state = .pay) : s.follows s.takeResume := by
  refine ⟨by simp [State.takeResume], by simp [State.takeResume, State.now], fun h => ?_⟩
  have htrip := h.trip_isSome (.inr hs)
  simp [State.meterAgrees, State.tripOpen, State.takeResume, htrip]

/-- An extra of an open trip: a snapshot that stands takes another value, and no snapshot is made. -/
theorem State.takeExtra_follows {s : State} {r : TripRecord} (code : Nat)
    (hr : s.meter.trip = some r) : s.follows (s.takeExtra r code) := by
  unfold State.takeExtra
  simp only
  refine State.follows.trans (s := { s with meter := { s.meter with trip := some _, snapshot := _ } })
    ⟨rfl, rfl, fun h => ?_⟩
    (State.follows_ite (fun _ => State.follows_refl _) fun _ =>
      State.follows_of_alike (by simp [State.alike, Meter.alike]))
  obtain ⟨hrun, hheld, htrip, hsnap⟩ := h
  refine ⟨hrun, hheld, by simpa [State.tripOpen, hr] using htrip, ?_⟩
  by_cases hpay : s.meter.state = .pay
  · simp [hpay]
  · simpa [hpay] using hsnap

theorem State.releaseClose_follows (s : State) : s.follows s.releaseClose := by
  refine ⟨by simp [State.releaseClose], by simp [State.releaseClose, State.now], fun _ => ?_⟩
  unfold State.meterAgrees State.tripOpen State.releaseClose
  by_cases hlimit : s.acct.shift.limitSet <;> simp [Engine.idle, hlimit]

theorem State.goOnClose_follows (s : State) : s.follows s.goOnClose := by
  unfold State.goOnClose
  split
  · exact State.follows_of_alike (by simp [State.alike, Meter.alike])
  · exact s.releaseClose_follows

theorem State.continueClose_follows (s : State) : s.follows s.continueClose :=
  State.follows_ite (fun _ => State.follows_of_alike (by simp [State.alike, Meter.alike])) fun _ =>
    s.goOnClose_follows

theorem State.closeStored_follows (s : State) : s.follows s.closeStored :=
  State.alike.follows (by simp [State.alike, Meter.alike])
    (State.continueClose_follows _)

theorem State.applicationStored_follows (s : State) (st : Staged) (app : AppRecord) (o : AppOrigin) :
    s.follows (s.applicationStored st app o) := by
  unfold State.applicationStored
  simp only
  cases o with
  | commit rq t =>
    refine State.follows_of_alike ?_
    cases st <;> simp [State.alike, Meter.alike]
  | close =>
    refine State.alike.follows ?_ (State.continueClose_follows _)
    cases st <;> simp [State.alike, Meter.alike]

theorem State.warmReturn_follows (s : State) : s.follows s.warmReturn := by
  unfold State.warmReturn
  simp only
  refine State.follows_ite (fun _ => State.alike.follows ?_ (State.goOnClose_follows _))
    fun _ => State.follows_of_alike ?_
  all_goals (repeat' split) <;> simp [State.alike, Meter.alike]

theorem State.tryWarmReturn_follows (s : State) : s.follows s.tryWarmReturn :=
  State.follows_ite (fun _ => s.warmReturn_follows) fun _ => s.follows_refl

theorem State.takeSample_follows (s : State) (x : Nat) : s.follows (s.takeSample x) := by
  unfold State.takeSample
  refine State.follows_ite
    (fun _ => State.alike.follows (by simp [State.alike, Meter.alike]) (State.tryWarmReturn_follows _))
    fun _ => State.follows_of_alike ?_
  simp only
  (repeat' split) <;> simp [State.alike, Meter.alike]

theorem State.follows.trigger {r s : State} (h : r.follows s) (t : Trigger) : r.follows (s.trigger t) :=
  h.alike (by simp [State.alike, Meter.alike])

theorem State.setLimit_follows (s : State) : s.follows s.setLimit := by
  unfold State.setLimit
  split
  · refine State.follows.trigger (State.alike.follows ?_ (State.limitTold_follows _)) _
    simp [State.alike, Meter.alike]
  · exact s.follows_refl

/-! #### The start-up -/

@[simp] theorem State.startNotices_core (s : State) (cause : Cause) :
    (s.startNotices cause).pending = s.pending ∧ (s.startNotices cause).time = s.time ∧
      (s.startNotices cause).engine = s.engine ∧ (s.startNotices cause).meter = s.meter := by
  unfold State.startNotices
  simp only
  (repeat' split) <;> simp

@[simp] theorem State.startBase_core (s : State) (cause : Cause) (lost : Bool) :
    (s.startBase cause lost).pending = s.pending ∧
      (s.startBase cause lost).time.backup.counter = s.time.backup.counter ∧
      (s.startBase cause lost).engine.mode = .idle ∧
      (s.startBase cause lost).meter.state = .offDuty ∧
      (s.startBase cause lost).meter.trip = none ∧ (s.startBase cause lost).meter.snapshot = none := by
  simp [State.startBase, Engine.idle]

@[simp] theorem State.countInterrupt_core (s : State) (cause : Cause) :
    (s.countInterrupt cause).pending = s.pending ∧ (s.countInterrupt cause).time = s.time ∧
      (s.countInterrupt cause).engine = s.engine ∧ (s.countInterrupt cause).meter = s.meter := by
  unfold State.countInterrupt
  simp only
  split <;> simp

theorem restoredState_eq (m : MeterState) (i : Bool) (out limit : Nat) :
    restoredState m i out limit = .hired ∨ restoredState m i out limit = .pay := by
  unfold restoredState
  split <;> simp

theorem idleState_eq (m : MeterState) (h : ShiftHold) :
    idleState m h = .offDuty ∨ idleState m h = .vacant := by
  unfold idleState
  (repeat' split) <;> simp

@[simp] theorem State.restoredEngine_mode (s : State) (t : SavedTrip) (m : MeterState) :
    (s.restoredEngine t m).mode = if m = .hired then .running else .held := by
  unfold State.restoredEngine
  simp only
  split <;> simp [Engine.withConstants]

@[simp] theorem State.restoreTrip_core (s : State) (r : SaveRecord) :
    (s.restoreTrip r).pending = s.pending ∧
      (s.restoreTrip r).time.backup.counter = s.time.backup.counter := by
  unfold State.restoreTrip
  simp only
  split <;> simp

/-- A start-up restores a trip with its engine and snapshot, or none of the three. -/
theorem State.restoreTrip_agrees {s : State} (r : SaveRecord) (hmode : s.engine.mode = .idle)
    (htrip : s.meter.trip = none) (hsnap : s.meter.snapshot = none) :
    (s.restoreTrip r).meterAgrees := by
  unfold State.restoreTrip
  simp only
  split
  · rename_i t _
    obtain hm | hm := restoredState_eq r.meter (r.timeInvalid || s.time.backup.timeInvalid)
      (outage r.time s.now s.mgmt.metrology.tariffSet.general.resumeLimit)
      s.mgmt.metrology.tariffSet.general.resumeLimit <;>
      simp [State.meterAgrees, State.tripOpen, hm]
  · obtain hm | hm := idleState_eq r.meter s.acct.shift <;>
      simp [State.meterAgrees, State.tripOpen, hm, hmode, htrip, hsnap]

@[simp] theorem State.doubtTender_alike (s : State) (t : Tender) : s.alike (s.doubtTender t) := by
  unfold State.doubtTender
  split <;> simp [State.alike, Meter.alike]

@[simp] theorem State.doubtTenders_alike (s : State) (l : List Tender) :
    s.alike (l.foldl State.doubtTender s) := by
  induction l generalizing s with
  | nil => simp [State.alike, Meter.alike]
  | cons t l ih =>
    have htail := ih (s.doubtTender t)
    simp_all [State.alike, Meter.alike]

@[simp] theorem State.restoreTenders_alike (s : State) (r : SaveRecord) :
    s.alike (s.restoreTenders r) := by
  unfold State.restoreTenders
  split <;> simp [State.alike, Meter.alike]

theorem State.restoreShift_follows (s : State) (cause : Cause) : s.follows (s.restoreShift cause) := by
  unfold State.restoreShift
  simp only
  by_cases hlimit : s.limitReached <;> simp only [hlimit, if_true, if_false, Bool.false_eq_true]
  · exact State.follows_ite (fun _ => s.setLimit_follows.alike (by simp [State.alike, Meter.alike]))
      fun _ => s.setLimit_follows
  · exact State.follows_ite (fun _ => State.follows_of_alike (by simp [State.alike, Meter.alike]))
      fun _ => s.follows_refl

@[simp] theorem State.startWrites_alike (s : State) (c : CauseRecord) : s.alike (s.startWrites c) := by
  unfold State.startWrites
  simp only
  split <;> simp [State.alike, Meter.alike]

@[simp] theorem State.startBlocks_alike (s : State) (x : Nat) : s.alike (s.startBlocks x) := by
  simp [State.startBlocks, State.alike, Meter.alike]

theorem State.startUp_follows (s : State) (cause : Cause) (lost : Bool) (ambient : Nat) :
    s.follows (s.startUp cause lost ambient) := by
  unfold State.startUp
  extract_lets fromSave record restored c evaluated
  have hrestored : s.follows restored :=
    ⟨by simp [restored], by simp [restored, State.now],
      fun _ => State.restoreTrip_agrees _ (by simp) (by simp) (by simp)⟩
  have hevaluated : s.follows evaluated :=
    (hrestored.alike (by simp [State.alike, Meter.alike])).trans (State.restoreShift_follows _ _)
  exact hevaluated.alike (by simp [State.alike, Meter.alike])

end Sys2Proof.Machine
end

section
/-! ### The requests and the commands: queue, counter and meter agreement -/

namespace Sys2Proof.Machine

open Sys2Proof

/-! #### Management requests -/

theorem State.replaceEntry_core (s : State) (rq : Req) (t : Target) (e : TableEntry) :
    (s.replaceEntry rq t e).pending = s.pending ∧ (s.replaceEntry rq t e).time = s.time ∧
      (s.replaceEntry rq t e).engine = s.engine ∧ (s.replaceEntry rq t e).meter = s.meter := by
  simp [State.replaceEntry]

theorem State.decideForwardingWrite_follows (s : State) (rq : Req) (i : Nat) (d : Option FwdData) :
    s.follows (s.decideForwardingWrite rq i d) := by
  refine State.follows_whenAllowed _ _ _ _ (State.follows_of_alike ?_)
  split <;> simp [State.alike, Meter.alike, State.replaceEntry]

theorem State.decideRolesWrite_follows (s : State) (rq : Req) (a : NodeAddr) (d : Option RoleEntry) :
    s.follows (s.decideRolesWrite rq a d) := by
  refine State.follows_whenAllowed _ _ _ _ (State.follows_of_alike ?_)
  simp only
  (repeat' split) <;> simp [State.alike, Meter.alike, State.replaceEntry]

theorem State.decideNoticeClassWrite_follows (s : State) (rq : Req) (i : NoticeIndex)
    (d : Option ClassRoute) : s.follows (s.decideNoticeClassWrite rq i d) := by
  unfold State.decideNoticeClassWrite
  simp only
  split
  · refine State.follows_whenAllowed _ _ _ _ (State.follows_of_alike ?_)
    (repeat' split) <;> simp [State.alike, Meter.alike, State.replaceEntry]
  · exact State.follows_whenAllowed _ _ _ _ s.follows_refl

theorem State.decideSignChannelWrite_follows (s : State) (rq : Req) (i : Nat)
    (d : Option ChannelEntry) : s.follows (s.decideSignChannelWrite rq i d) := by
  refine State.follows_whenAllowed _ _ _ _ (State.follows_of_alike ?_)
  (repeat' split) <;> simp [State.alike, Meter.alike, State.replaceEntry]

theorem State.decideSignPatternWrite_follows (s : State) (rq : Req) (n : PatternName)
    (d : Option Pattern) : s.follows (s.decideSignPatternWrite rq n d) := by
  refine State.follows_whenAllowed _ _ _ _ (State.follows_of_alike ?_)
  (repeat' split) <;> simp [State.alike, Meter.alike, State.replaceEntry]

theorem State.decideBrightnessWrite_follows (s : State) (rq : Req) (d : Option Brightness) :
    s.follows (s.decideBrightnessWrite rq d) := by
  refine State.follows_whenAllowed _ _ _ _ (State.follows_of_alike ?_)
  (repeat' split) <;> simp [State.alike, Meter.alike, State.replaceEntry]

theorem State.decidePromptsWrite_follows (s : State) (rq : Req) (i : Nat) (d : Option PromptData) :
    s.follows (s.decidePromptsWrite rq i d) := by
  refine State.follows_whenAllowed _ _ _ _ (State.follows_of_alike ?_)
  split <;> simp [State.alike, Meter.alike, State.replaceEntry]

theorem State.decidePromptMapWrite_follows (s : State) (rq : Req) (i : Nat) (d : Option MapData) :
    s.follows (s.decidePromptMapWrite rq i d) := by
  refine State.follows_whenAllowed _ _ _ _ (State.follows_of_alike ?_)
  (repeat' split) <;> simp [State.alike, Meter.alike, State.replaceEntry]

theorem State.decideIntercomSetWrite_follows (s : State) (rq : Req) (i : Nat)
    (d : Option IntercomSettings) : s.follows (s.decideIntercomSetWrite rq i d) := by
  refine State.follows_whenAllowed _ _ _ _ (State.follows_of_alike ?_)
  (repeat' split) <;> simp [State.alike, Meter.alike, State.replaceEntry]

theorem State.decidePayLimitsWrite_follows (s : State) (rq : Req) (i : Nat) (d : Option PayLimits) :
    s.follows (s.decidePayLimitsWrite rq i d) := by
  refine State.follows_whenAllowed _ _ _ _ (State.follows_of_alike ?_)
  (repeat' split) <;> simp [State.alike, Meter.alike, State.replaceEntry]

theorem State.decidePowerSetWrite_follows (s : State) (rq : Req) (i : Nat)
    (d : Option PowerSettings) : s.follows (s.decidePowerSetWrite rq i d) := by
  refine State.follows_whenAllowed _ _ _ _ (State.follows_of_alike ?_)
  (repeat' split) <;> simp [State.alike, Meter.alike, State.replaceEntry]

theorem State.decideWrite_follows (s : State) (rq : Req) (t : Target) :
    s.follows (s.decideWrite rq t) := by
  unfold State.decideWrite
  split
  · exact s.decideForwardingWrite_follows ..
  · exact s.decideRolesWrite_follows ..
  · exact State.follows_ite (fun _ => s.decideBrightnessWrite_follows ..) fun _ =>
      State.follows_ite (fun _ => s.decideSignPatternWrite_follows ..) fun _ =>
        s.decideSignChannelWrite_follows ..
  · exact s.decidePromptsWrite_follows ..
  · exact s.decidePromptMapWrite_follows ..
  · exact s.decideIntercomSetWrite_follows ..
  · exact s.decidePayLimitsWrite_follows ..
  · exact s.decideNoticeClassWrite_follows ..
  · exact s.decidePowerSetWrite_follows ..
  · exact State.follows_whenAllowed _ _ _ _ s.follows_refl

theorem State.decideRead_follows (s : State) (rq : Req) (t : Target) (sel : ReadSel) :
    s.follows (s.decideRead rq t sel) := by
  refine State.follows_whenAllowed _ _ _ _ (State.follows_of_alike ?_)
  split <;> simp [State.alike, Meter.alike]

theorem State.decideOpenLoad_follows (s : State) (rq : Req) (t : Target) :
    s.follows (s.decideOpenLoad rq t) := by
  refine State.follows_whenAllowed _ _ _ _ (State.follows_of_alike ?_)
  simp only
  (repeat' split) <;> simp [State.alike, Meter.alike]

theorem State.decideWritePart_follows (s : State) (rq : Req) (t : Target) (d : PartData) :
    s.follows (s.decideWritePart rq t d) := by
  refine State.follows_whenAllowed _ _ _ _ (State.follows_of_alike ?_)
  simp only
  (repeat' split) <;> simp [State.alike, Meter.alike]

theorem State.takeCommit_alike (s : State) (rq : Req) (t : Target) (st : Staged) :
    s.alike (s.takeCommit rq t st) := by
  unfold State.takeCommit
  split <;> simp [State.alike, Meter.alike]

theorem State.decideCommit_follows (s : State) (rq : Req) (t : Target) :
    s.follows (s.decideCommit rq t) := by
  refine State.follows_whenAllowed _ _ _ _ (State.follows_of_alike ?_)
  have hcommit := fun st => State.takeCommit_alike s.closeLoad rq t st
  (repeat' split) <;> simp_all [State.alike, Meter.alike]

theorem State.decideAbortLoad_follows (s : State) (rq : Req) (t : Target) :
    s.follows (s.decideAbortLoad rq t) := by
  refine State.follows_whenAllowed _ _ _ _ (State.follows_of_alike ?_)
  simp only
  (repeat' split) <;> simp [State.alike, Meter.alike]

theorem State.decideSetTime_follows (s : State) (rq : Req) (t : Nat) :
    s.follows (s.decideSetTime rq t) := by
  refine State.follows_whenAllowed _ _ _ _ (State.follows_of_alike ?_)
  (repeat' split) <;> simp [State.alike, Meter.alike]

theorem State.decideAckTrips_follows (s : State) (rq : Req) (n : Nat) :
    s.follows (s.decideAckTrips rq n) := by
  refine State.follows_whenAllowed _ _ _ _ (State.follows_of_alike ?_)
  simp only
  split <;> simp [State.alike, Meter.alike]

theorem State.decideEmergencyClear_follows (s : State) (rq : Req) :
    s.follows (s.decideEmergencyClear rq) := by
  refine State.follows_whenAllowed _ _ _ _ (State.follows_of_alike ?_)
  split <;> simp [State.alike, Meter.alike]

theorem State.decideClearLamp_follows (s : State) (rq : Req) (c : Nat) :
    s.follows (s.decideClearLamp rq c) := by
  refine State.follows_whenAllowed _ _ _ _ (State.follows_of_alike ?_)
  split <;> simp [State.alike, Meter.alike]

theorem State.decideSignTest_follows (s : State) (rq : Req) (n : Nat) (v : Option Pattern) :
    s.follows (s.decideSignTest rq n v) := by
  refine State.follows_whenAllowed _ _ _ _ (State.follows_of_alike ?_)
  (repeat' split) <;> simp [State.alike, Meter.alike]

theorem State.decideSpeakerTest_follows (s : State) (rq : Req) (side : Option Side) :
    s.follows (s.decideSpeakerTest rq side) := by
  refine State.follows_whenAllowed _ _ _ _ (State.follows_of_alike ?_)
  (repeat' split) <;> simp [State.alike, Meter.alike]

theorem State.decideLoopback_follows (s : State) (rq : Req) (d : Option (Seg × Bool)) :
    s.follows (s.decideLoopback rq d) := by
  refine State.follows_whenAllowed _ _ _ _ (State.follows_of_alike ?_)
  (repeat' split) <;> simp [State.alike, Meter.alike]

theorem State.decideRestart_follows (s : State) (rq : Req) : s.follows (s.decideRestart rq) := by
  refine State.follows_whenAllowed _ _ _ _ (State.follows_of_alike ?_)
  simp only
  (repeat' split) <;> simp [State.alike, Meter.alike]

theorem State.decideMgmt_follows (s : State) (rq : Req) (op : Config.MgmtOp) :
    s.follows (s.decideMgmt rq op) := by
  cases op with
  | read t sel => exact s.decideRead_follows ..
  | write t => exact s.decideWrite_follows ..
  | forwardingWrite i d => exact s.decideForwardingWrite_follows ..
  | rolesWrite a d => exact s.decideRolesWrite_follows ..
  | noticeClassWrite i d => exact s.decideNoticeClassWrite_follows ..
  | signChannelWrite i d => exact s.decideSignChannelWrite_follows ..
  | signPatternWrite n d => exact s.decideSignPatternWrite_follows ..
  | brightnessWrite d => exact s.decideBrightnessWrite_follows ..
  | promptsWrite i d => exact s.decidePromptsWrite_follows ..
  | promptMapWrite i d => exact s.decidePromptMapWrite_follows ..
  | intercomSetWrite i d => exact s.decideIntercomSetWrite_follows ..
  | payLimitsWrite i d => exact s.decidePayLimitsWrite_follows ..
  | powerSetWrite i d => exact s.decidePowerSetWrite_follows ..
  | openLoad t => exact s.decideOpenLoad_follows ..
  | writePart t d => exact s.decideWritePart_follows ..
  | commit t => exact s.decideCommit_follows ..
  | abortLoad t => exact s.decideAbortLoad_follows ..
  | setTime t => exact s.decideSetTime_follows ..
  | ackTrips n => exact s.decideAckTrips_follows ..
  | emergencyClear => exact s.decideEmergencyClear_follows ..
  | clearLamp c => exact s.decideClearLamp_follows ..
  | signTest d v => exact s.decideSignTest_follows ..
  | speakerTest side => exact s.decideSpeakerTest_follows ..
  | loopback d => exact s.decideLoopback_follows ..
  | restart => exact s.decideRestart_follows ..
  | unknown t => exact s.mgmtRespond_follows ..

/-! #### Console requests -/

theorem State.onDutyRefusal_none {s : State} (h : s.onDutyRefusal = none) :
    s.meter.state = .offDuty := by
  unfold State.onDutyRefusal at h
  split at h
  · simp at h
  · simpa using ‹¬ s.meter.state ≠ .offDuty›

theorem State.decideOnDuty_follows (s : State) (rq : Req) : s.follows (s.decideOnDuty rq) := by
  refine State.follows_whenRun _ _ ?_
  split
  · exact s.consoleRespond_follows ..
  · refine (State.setMeterState_follows_free ?_ (.inr rfl)).trans (State.consoleRespond_follows ..)
    exact .inl (State.onDutyRefusal_none ‹_›)

theorem State.decideOffDuty_follows (s : State) (rq : Req) : s.follows (s.decideOffDuty rq) :=
  State.follows_whenRun _ _ <| State.follows_ite
    (fun h => (State.setMeterState_follows_free (.inr h) (.inl rfl)).trans
      (State.consoleRespond_follows ..))
    fun _ => s.consoleRespond_follows ..

theorem State.hireRefusal_none {s : State} {h : HireTariff} (hno : s.hireRefusal h = none) :
    s.meter.state = .vacant := by
  unfold State.hireRefusal at hno
  split at hno
  · simp at hno
  · simpa using ‹¬ s.meter.state ≠ .vacant›

theorem State.decideHire_follows (s : State) (rq : Req) (h : HireTariff) :
    s.follows (s.decideHire rq h) := by
  refine State.follows_ite (fun _ => s.consoleRespond_follows ..) fun _ =>
    State.follows_whenRun _ _ ?_
  split
  · exact s.consoleRespond_follows ..
  · rename_i hno
    split
    · exact s.consoleRespond_follows ..
    · simp only
      split
      · exact s.consoleRespond_follows ..
      · exact ((State.takeHire_follows _ _ (State.hireRefusal_none hno)).trans
          (State.consoleRespond_follows ..)).trigger _

theorem State.beginClose_follows (s : State) (u : Nat) : s.follows (s.beginClose u) :=
  State.follows_of_alike (by simp [State.alike, Meter.alike])

theorem State.decidePay_follows (s : State) (rq : Req) : s.follows (s.decidePay rq) := by
  refine State.follows_whenRun _ _ (State.follows_ite (fun h => ?_) fun _ =>
    s.consoleRespond_follows ..)
  have hpaid := ((State.takePay_follows h).trans
    (State.consoleRespond_follows _ rq .pay .accepted (.amount s.fare))).trigger .pay
  exact State.follows_ite (fun _ => hpaid.trans (State.beginClose_follows ..)) fun _ => hpaid

theorem State.resumeRefusal_none {s : State} (h : s.resumeRefusal = none) :
    s.meter.state = .pay := by
  unfold State.resumeRefusal at h
  split at h
  · simp at h
  · simpa using ‹¬ s.meter.state ≠ .pay›

theorem State.decideResume_follows (s : State) (rq : Req) : s.follows (s.decideResume rq) := by
  refine State.follows_whenRun _ _ ?_
  split
  · exact s.consoleRespond_follows ..
  · exact (State.takeResume_follows (State.resumeRefusal_none ‹_›)).trans
      (State.consoleRespond_follows ..)

theorem State.decideExtra_follows (s : State) (rq : Req) (code : Nat) :
    s.follows (s.decideExtra rq code) := by
  refine State.follows_whenRun _ _ ?_
  split
  iterate 2
    refine State.follows_ite (fun _ => s.consoleRespond_follows ..) fun _ => ?_
    split
    · exact s.consoleRespond_follows ..
    · exact (State.takeExtra_follows code ‹_›).trans (State.consoleRespond_follows ..)
  exact s.consoleRespond_follows ..

theorem State.decideEndUnpaid_follows (s : State) (rq : Req) : s.follows (s.decideEndUnpaid rq) := by
  refine State.follows_whenRun _ _ (State.follows_of_alike ?_)
  simp only
  (repeat' split) <;> simp [State.alike, Meter.alike]

theorem State.alike_of_offerRole {s t : State} {r : Role} {c : Content} {ok : Bool}
    (h : s.offerRole r c = (t, ok)) : s.alike t := by
  have hkeeps := State.offerRole_keeps s r c
  simp_all [State.alike, Meter.alike]

theorem State.decidePayCard_follows (s : State) (rq : Req) (amount : Option Nat) :
    s.follows (s.decidePayCard rq amount) := by
  refine State.follows_whenNotClosing _ _ ?_
  split
  · exact s.consoleRespond_follows ..
  · simp only
    split
    · exact (State.alike_of_offerRole ‹_›).follows
        (State.follows_of_alike (by simp [State.alike, Meter.alike]))
    · exact (State.alike_of_offerRole ‹_›).follows (State.consoleRespond_follows ..)

theorem State.decidePayCancel_follows (s : State) (rq : Req) : s.follows (s.decidePayCancel rq) := by
  have hoffer := State.offerRole_keeps s .reader
    (.payWithdraw ((s.meter.trip.map (·.number)).getD 0) s.pay.session.index)
  refine State.follows_whenNotClosing _ _ (State.follows_of_alike ?_)
  simp only
  split
  iterate 2 (split <;> simp_all [State.alike, Meter.alike])
  all_goals simp [State.alike, Meter.alike]

theorem State.decideCash_follows (s : State) (rq : Req) (amount : Nat) :
    s.follows (s.decideCash rq amount) := by
  refine State.follows_whenNotClosing _ _ (State.follows_of_alike ?_)
  split <;> simp [State.alike, Meter.alike]

theorem State.decideShiftOpen_follows (s : State) (rq : Req) (driver : Nat) :
    s.follows (s.decideShiftOpen rq driver) := by
  refine State.follows_whenRun _ _ (State.follows_of_alike ?_)
  split <;> simp [State.alike, Meter.alike, State.openShift]

theorem State.closeShift_follows (s : State) (rq : Req) : s.follows (s.closeShift rq) := by
  unfold State.closeShift
  extract_lets s'
  have hduty : s.follows s' := s.limitTold_follows
  split
  · exact hduty
  · exact hduty.alike (by simp [State.alike, Meter.alike])

theorem State.decideShiftClose_follows (s : State) (rq : Req) : s.follows (s.decideShiftClose rq) :=
  State.follows_whenRun _ _ <| State.follows_ite (fun _ => s.consoleRespond_follows ..) fun _ =>
    State.follows_ite (fun _ => s.consoleRespond_follows ..) fun _ => s.closeShift_follows rq

theorem State.decideAuxLamp_follows (s : State) (rq : Req) (c : Nat) (v : Option LampValue) :
    s.follows (s.decideAuxLamp rq c v) := by
  refine State.follows_of_alike ?_
  unfold State.decideAuxLamp
  (repeat' split) <;> simp [State.alike, Meter.alike]

theorem State.decidePrompt_follows (s : State) (rq : Req) (i : Nat) :
    s.follows (s.decidePrompt rq i) := by
  have hprompt := State.requestPrompt_keeps s i
  refine State.follows_of_alike ?_
  unfold State.decidePrompt
  (repeat' split) <;> simp_all [State.alike, Meter.alike]

theorem State.decideConsole_follows (s : State) (rq : Req) (op : Config.ConsoleOp) :
    s.follows (s.decideConsole rq op) := by
  cases op with
  | onDuty => exact s.decideOnDuty_follows ..
  | offDuty => exact s.decideOffDuty_follows ..
  | hire t => exact s.decideHire_follows ..
  | pay => exact s.decidePay_follows ..
  | resume => exact s.decideResume_follows ..
  | extra c => exact s.decideExtra_follows ..
  | endUnpaid => exact s.decideEndUnpaid_follows ..
  | payCard a => exact s.decidePayCard_follows ..
  | payCancel => exact s.decidePayCancel_follows ..
  | cash a => exact s.decideCash_follows ..
  | shiftOpen d => exact s.decideShiftOpen_follows ..
  | shiftClose => exact s.decideShiftClose_follows ..
  | auxLamp c v => exact s.decideAuxLamp_follows ..
  | prompt i => exact s.decidePrompt_follows ..
  | malformed n => exact s.consoleRespond_follows ..

/-! #### Frames on the line -/

theorem State.deliver_follows (s : State) (h : Header) (payload : List Byte) :
    s.follows (s.deliver h payload) := by
  unfold State.deliver
  split
  · exact State.follows_checkMgmtSender _ (s.decideMgmt_follows ..)
  · exact State.follows_checkConsoleSender _ (s.decideConsole_follows ..)
  · exact State.follows_checkSender _ _ (State.follows_of_alike (s.takeViewAck_alike ..))
  · exact State.follows_checkSender _ _ (State.follows_of_alike (s.takeOfferAck_alike ..))
  · exact State.follows_checkSender _ _ (State.follows_of_alike (s.takeAdviceAck_alike ..))
  · exact State.follows_of_alike (by simp [State.alike, Meter.alike])

theorem State.takePayment_follows (s : State) (h : Header) (payload : List Byte) :
    s.follows (s.takePayment h payload) := by
  unfold State.takePayment
  split <;> exact State.follows_of_alike (by simp [State.alike, Meter.alike])

theorem State.lookup_follows (s : State) (h : Header) (body : List Byte) {pay : State → State}
    (hpay : ∀ s : State, s.follows (pay s)) : s.follows (s.lookup h body pay) := by
  unfold State.lookup
  split
  · exact ⟨rfl, rfl, id⟩
  · simp only
    have hhit : ∀ l, s.follows { s with link := l } := fun _ => ⟨rfl, rfl, id⟩
    split
    · exact (hhit _).alike (State.pass_alike ..)
    · exact hhit _
    · exact State.follows_ite (fun _ => (hhit _).trans (hpay _)) fun _ => hhit _

theorem State.classify_follows (s : State) (h : Header) (body : List Byte) {deliver pay : State → State}
    (hdeliver : ∀ s : State, s.follows (deliver s)) (hpay : ∀ s : State, s.follows (pay s)) :
    s.follows (s.classify h body deliver pay) :=
  State.follows_ite (fun _ => s.follows_refl) fun _ => State.follows_ite (fun _ => hdeliver s) fun _ =>
    State.follows_ite (fun _ => s.follows_refl) fun _ => s.lookup_follows h body hpay

theorem State.endExchange_follows (s : State) (seg : Seg) (a : Bool) :
    s.follows (s.endExchange seg a) :=
  State.follows_of_alike (by simp [State.alike, Meter.alike])

theorem State.afterExchange_follows (s : State) (seg : Seg) : s.follows (s.afterExchange seg) :=
  State.follows_of_alike (by simp [State.alike, Meter.alike])

theorem State.missExchange_follows (s : State) (seg : Seg) : s.follows (s.missExchange seg) :=
  State.follows_of_alike (by simp [State.alike, Meter.alike])

theorem State.modPort_follows (s : State) (seg : Seg) (f : PortState → PortState) :
    s.follows (s.modPort seg f) :=
  State.follows_of_alike (by simp [State.alike, Meter.alike])

theorem State.takeReply_follows (s : State) (seg : Seg) (h : Header) (payload body : List Byte) :
    s.follows (s.takeReply seg h payload body) := by
  unfold State.takeReply
  split
  · exact State.follows_of_alike (by simp [State.alike, Meter.alike])
  · refine State.follows_ite (fun _ => ?_) fun _ =>
      State.follows_of_alike (by simp [State.alike, Meter.alike])
    simp only
    refine State.follows.trans (State.follows_ite (fun _ => s.endExchange_follows seg true) fun _ => ?_)
      (State.afterExchange_follows _ seg)
    exact (s.endExchange_follows seg true).trans (State.classify_follows _ _ _
      (fun s => s.deliver_follows h payload) fun s => s.takePayment_follows h payload)

theorem State.receiveFrame_follows (s : State) (seg : Seg) (body : List Byte) :
    s.follows (s.receiveFrame seg body) := by
  refine State.follows_ite (fun _ => State.follows_ite (fun _ =>
    State.follows_of_alike (s.overlength_alike seg)) fun _ => ?_) fun _ => s.follows_refl
  have hidle := s.modPort_follows seg fun p => { p with rx := .waiting }
  simp only
  split
  · exact hidle.alike (by simp [State.alike, Meter.alike])
  · exact hidle.alike (by simp [State.alike, Meter.alike])
  · split
    · exact hidle.trans (State.modPort_follows ..)
    · exact hidle.trans (State.takeReply_follows ..)

theorem State.classifyPayment_follows (s : State) (src dst : NodeAddr) (k : FrameKind)
    (payload : List Byte) {pay : State → State} (hpay : ∀ s : State, s.follows (pay s)) :
    s.follows (s.classifyPayment src dst k payload pay) :=
  State.follows_ite (fun _ => State.follows_ite
    (fun _ => State.follows_of_alike (by simp [State.alike, Meter.alike])) fun _ =>
      s.classify_follows _ _ (fun s => State.follows_of_alike (by simp [State.alike, Meter.alike])) hpay)
    fun _ => s.follows_refl

/-! #### Completed writes -/

theorem State.follows_of_takeWrite {s : State} {kind : StoreWrite → Bool} {w : StoreWrite} {t : State}
    (h : s.takeWrite kind = some (w, t)) : s.follows t :=
  State.follows_of_alike (State.takeWrite_alike h)

end Sys2Proof.Machine
end

section
/-! ### The commands that answer no request, and all commands together -/

namespace Sys2Proof.Machine

open Sys2Proof

theorem execCloseUpdateComplete_follows (s : State) :
    ∃ t, execCloseUpdateComplete s = .next t ∧ s.follows t := by
  refine ⟨_, rfl, State.follows_whenPowered ?_⟩
  split
  · exact (State.follows_of_takeWrite ‹_›).trans (State.closeStored_follows _)
  · exact s.follows_refl

theorem execApplicationComplete_follows (s : State) :
    ∃ t, execApplicationComplete s = .next t ∧ s.follows t := by
  refine ⟨_, rfl, State.follows_whenPowered ?_⟩
  split
  · exact (State.follows_of_takeWrite ‹_›).trans (State.applicationStored_follows ..)
  · exact s.follows_refl

theorem execHoldupSaveComplete_follows (s : State) :
    ∃ t, execHoldupSaveComplete s = .next t ∧ s.follows t := by
  refine ⟨_, rfl, State.follows_whenPowered ?_⟩
  split
  · refine (State.follows_of_takeWrite ‹_›).trans
      (State.alike.follows ?_ (State.tryWarmReturn_follows _))
    simp [State.alike, Meter.alike]
  · exact s.follows_refl

theorem execCheckpointComplete_follows (s : State) :
    ∃ t, execCheckpointComplete s = .next t ∧ s.follows t := by
  refine ⟨_, rfl, State.follows_whenPowered ?_⟩
  split
  · exact (State.follows_of_takeWrite ‹_›).alike (State.releaseHeld_alike ..)
  · exact State.follows_of_takeWrite ‹_›
  · exact s.follows_refl

theorem execShiftCloseUpdateComplete_follows (s : State) :
    ∃ t, execShiftCloseUpdateComplete s = .next t ∧ s.follows t := by
  refine ⟨_, rfl, State.follows_whenPowered ?_⟩
  split
  · refine (State.follows_of_takeWrite ‹_›).alike ?_
    simp only
    split <;> simp [State.alike, Meter.alike]
  · exact s.follows_refl

theorem execRestartSaveComplete_follows (s : State) (ambient : Nat) :
    ∃ t, execRestartSaveComplete ambient s = .next t ∧ s.follows t := by
  refine ⟨_, rfl, State.follows_whenPowered (State.follows_ite (fun _ => ?_) fun _ => s.follows_refl)⟩
  split
  · exact ((State.follows_of_takeWrite ‹_›).alike (by simp [State.alike, Meter.alike])).trans
      (State.startUp_follows ..)
  · exact s.follows_refl

theorem State.cutWrites_follows (s : State) : s.follows s.cutWrites.1 := ⟨rfl, rfl, id⟩

theorem execColdStart_follows (s : State) (x ambient : Nat) :
    ∃ t, execColdStart x ambient s = .next t ∧ s.follows t := by
  have hsampled : s.follows { s with power := { s.power with sample := x } } := ⟨rfl, rfl, id⟩
  exact ⟨_, rfl, State.follows_ite (fun _ => hsampled.trans (State.startUp_follows ..))
    fun _ => s.follows_refl⟩

theorem execPinReset_follows (s : State) (ambient : Nat) :
    ∃ t, execPinReset ambient s = .next t ∧ s.follows t := by
  refine ⟨_, rfl, State.follows_whenPowered ?_⟩
  split
  rename_i t lost hcut
  have ht : s.follows t := by
    have hfst : t = s.cutWrites.1 := by rw [hcut]
    exact hfst ▸ s.cutWrites_follows
  exact ht.trans (State.startUp_follows ..)

theorem execMeterInterval_follows (s : State) : ∃ t, execMeterInterval s = .next t ∧ s.follows t := by
  refine ⟨_, rfl, State.follows_of_alike ?_⟩
  simp only
  split <;> simp [State.alike, Meter.alike]

theorem Backup.expireTrim_counter (b : Backup) : b.expireTrim.counter = b.counter := by
  unfold Backup.expireTrim
  split <;> rfl

theorem execTrimCountExpiry_follows (s : State) :
    ∃ t, execTrimCountExpiry s = .next t ∧ s.follows t := by
  refine ⟨_, rfl, ?_⟩
  unfold State.modBackup
  exact State.follows_ite (fun _ => ⟨rfl, Backup.expireTrim_counter _, id⟩) fun _ => s.follows_refl

/-- Every command but a second event and a loss of the backup domain's power. -/
theorem exec_follows (c : Instr) (s : State) (hsecond : c ≠ .secondEvent) (hloss : c ≠ .backupLoss) :
    ∃ t, exec c s = .next t ∧ s.follows t := by
  cases c with
  | frameReceived seg body => exact ⟨_, rfl, s.receiveFrame_follows ..⟩
  | pollReplyEmpty seg =>
    refine ⟨_, rfl, State.follows_ite (fun _ => ?_) fun _ => s.follows_refl⟩
    exact ((s.modPort_follows ..).trans (State.endExchange_follows ..)).trans
      (State.afterExchange_follows ..)
  | dataFrame seg src dst payload => exact ⟨_, rfl, s.receiveFrame_follows ..⟩
  | pollStart seg =>
    exact ⟨_, rfl, State.follows_ite (fun _ => State.follows_of_alike (s.pollNext_alike seg))
      fun _ => s.follows_refl⟩
  | pollReplyTimeout seg =>
    refine ⟨_, rfl, ?_⟩
    split
    · exact s.missExchange_follows seg
    · exact s.follows_refl
  | repollDue a => exact ⟨_, rfl, State.follows_of_alike (by simp [State.alike, Meter.alike])⟩
  | frameSent seg => exact ⟨_, rfl, State.follows_of_alike (s.frameSent_alike seg)⟩
  | lineWakeBurst seg => exact ⟨_, rfl, State.follows_of_alike (s.wakeBy_alike _)⟩
  | loopback rq d => exact ⟨_, rfl, State.follows_whenMgmt _ (s.decideLoopback_follows ..)⟩
  | loopbackTimerExpiry seg => exact ⟨_, rfl, s.modPort_follows ..⟩
  | read rq t sel => exact ⟨_, rfl, State.follows_whenMgmt _ (s.decideRead_follows ..)⟩
  | write rq t => exact ⟨_, rfl, State.follows_whenMgmt _ (s.decideWrite_follows ..)⟩
  | forwardingWrite rq i d =>
    exact ⟨_, rfl, State.follows_whenMgmt _ (s.decideForwardingWrite_follows ..)⟩
  | rolesWrite rq a d => exact ⟨_, rfl, State.follows_whenMgmt _ (s.decideRolesWrite_follows ..)⟩
  | noticeClassWrite rq i d =>
    exact ⟨_, rfl, State.follows_whenMgmt _ (s.decideNoticeClassWrite_follows ..)⟩
  | signChannelWrite rq i d =>
    exact ⟨_, rfl, State.follows_whenMgmt _ (s.decideSignChannelWrite_follows ..)⟩
  | signPatternWrite rq n d =>
    exact ⟨_, rfl, State.follows_whenMgmt _ (s.decideSignPatternWrite_follows ..)⟩
  | brightnessWrite rq d =>
    exact ⟨_, rfl, State.follows_whenMgmt _ (s.decideBrightnessWrite_follows ..)⟩
  | promptsWrite rq i d =>
    exact ⟨_, rfl, State.follows_whenMgmt _ (s.decidePromptsWrite_follows ..)⟩
  | promptMapWrite rq i d =>
    exact ⟨_, rfl, State.follows_whenMgmt _ (s.decidePromptMapWrite_follows ..)⟩
  | intercomSetWrite rq i d =>
    exact ⟨_, rfl, State.follows_whenMgmt _ (s.decideIntercomSetWrite_follows ..)⟩
  | payLimitsWrite rq i d =>
    exact ⟨_, rfl, State.follows_whenMgmt _ (s.decidePayLimitsWrite_follows ..)⟩
  | powerSetWrite rq i d =>
    exact ⟨_, rfl, State.follows_whenMgmt _ (s.decidePowerSetWrite_follows ..)⟩
  | tableWriteComplete =>
    refine ⟨_, rfl, State.follows_whenPowered ?_⟩
    split
    · exact (State.follows_of_takeWrite ‹_›).trans (State.mgmtRespond_follows ..)
    · exact s.follows_refl
  | openLoad rq t => exact ⟨_, rfl, State.follows_whenMgmt _ (s.decideOpenLoad_follows ..)⟩
  | writePart rq t d => exact ⟨_, rfl, State.follows_whenMgmt _ (s.decideWritePart_follows ..)⟩
  | commit rq t => exact ⟨_, rfl, State.follows_whenMgmt _ (s.decideCommit_follows ..)⟩
  | abortLoad rq t => exact ⟨_, rfl, State.follows_whenMgmt _ (s.decideAbortLoad_follows ..)⟩
  | loadWindowExpiry => exact ⟨_, rfl, State.follows_whenPowered ⟨rfl, rfl, id⟩⟩
  | pendingCommitStored =>
    refine ⟨_, rfl, State.follows_whenPowered ?_⟩
    split
    · exact (State.follows_of_takeWrite ‹_›).trans (State.mgmtRespond_follows ..)
    · exact s.follows_refl
  | applicationComplete => exact execApplicationComplete_follows s
  | metrologySwitchOpen =>
    exact ⟨_, rfl, State.follows_ite
      (fun _ => State.follows_of_alike (by simp [State.alike, Meter.alike])) fun _ => ⟨rfl, rfl, id⟩⟩
  | metrologySwitchClose => exact ⟨_, rfl, rfl, rfl, id⟩
  | meterInterval => exact execMeterInterval_follows s
  | trimCountExpiry => exact execTrimCountExpiry_follows s
  | secondEvent => exact absurd rfl hsecond
  | minuteEvent =>
    exact ⟨_, rfl, State.follows_whenPowered
      (State.follows_of_alike (by simp [State.alike, Meter.alike]))⟩
  | setTime rq t => exact ⟨_, rfl, State.follows_whenMgmt _ (s.decideSetTime_follows ..)⟩
  | backupLoss => exact absurd rfl hloss
  | odometerEdge t =>
    exact ⟨_, rfl, State.follows_ite (fun _ => ⟨rfl, rfl, id⟩) fun _ => s.follows_refl⟩
  | holdoffExpiry =>
    exact ⟨_, rfl, State.follows_ite (fun _ => ⟨rfl, rfl, id⟩) fun _ => s.follows_refl⟩
  | onDuty rq => exact ⟨_, rfl, State.follows_whenConsole _ (s.decideOnDuty_follows rq)⟩
  | offDuty rq => exact ⟨_, rfl, State.follows_whenConsole _ (s.decideOffDuty_follows rq)⟩
  | hire rq h => exact ⟨_, rfl, State.follows_whenConsole _ (s.decideHire_follows rq h)⟩
  | pay rq => exact ⟨_, rfl, State.follows_whenConsole _ (s.decidePay_follows rq)⟩
  | resume rq => exact ⟨_, rfl, State.follows_whenConsole _ (s.decideResume_follows rq)⟩
  | extra rq code => exact ⟨_, rfl, State.follows_whenConsole _ (s.decideExtra_follows rq code)⟩
  | endUnpaid rq => exact ⟨_, rfl, State.follows_whenConsole _ (s.decideEndUnpaid_follows rq)⟩
  | closeUpdateComplete => exact execCloseUpdateComplete_follows s
  | correctionWindowExpiry => exact ⟨_, rfl, State.follows_whenPowered ⟨rfl, rfl, id⟩⟩
  | viewHoldoffExpiry d =>
    exact ⟨_, rfl, State.follows_whenPowered
      (State.follows_of_alike (by simp [State.alike, Meter.alike]))⟩
  | viewAck src seq fare =>
    exact ⟨_, rfl, State.follows_whenFrom _ _ (State.follows_of_alike (s.takeViewAck_alike ..))⟩
  | auxLamp rq c v => exact ⟨_, rfl, State.follows_whenConsole _ (s.decideAuxLamp_follows ..)⟩
  | signTest rq n v => exact ⟨_, rfl, State.follows_whenMgmt _ (s.decideSignTest_follows ..)⟩
  | signTestExpiry =>
    exact ⟨_, rfl, State.follows_whenPowered
      (State.follows_of_alike (by simp [State.alike, Meter.alike]))⟩
  | ambientSample x =>
    exact ⟨_, rfl, State.follows_ite (fun _ => s.follows_refl) fun _ =>
      State.follows_of_alike (by simp [State.alike, Meter.alike])⟩
  | lampCheck c x =>
    exact ⟨_, rfl, State.follows_ite (fun _ => State.follows_of_alike (s.checkLamp_alike ..))
      fun _ => s.follows_refl⟩
  | clearLamp rq c => exact ⟨_, rfl, State.follows_whenMgmt _ (s.decideClearLamp_follows ..)⟩
  | emergencySwitchClose =>
    exact ⟨_, rfl, State.follows_ite
      (fun _ => State.follows_of_alike (by simp [State.alike, Meter.alike])) fun _ => ⟨rfl, rfl, id⟩⟩
  | emergencySwitchOpen =>
    exact ⟨_, rfl, State.follows_ite (fun _ => ⟨rfl, rfl, id⟩) fun _ => ⟨rfl, rfl, id⟩⟩
  | emergencyHoldExpiry =>
    exact ⟨_, rfl, State.follows_ite (fun _ => State.follows_of_alike s.holdExpires_alike)
      fun _ => s.follows_refl⟩
  | emergencyClear rq => exact ⟨_, rfl, State.follows_whenMgmt _ (s.decideEmergencyClear_follows rq)⟩
  | codecFrame d p =>
    exact ⟨_, rfl, (State.follows_ite (fun _ => State.follows_of_alike s.takeTestEnd_alike)
      fun _ => s.follows_refl).alike (State.exchangeFrame_alike ..)⟩
  | promptEnd =>
    exact ⟨_, rfl, State.follows_whenPowered
      (State.follows_of_alike (by simp [State.alike, Meter.alike]))⟩
  | monitorFrameComplete =>
    exact ⟨_, rfl, State.follows_whenPowered (State.follows_of_alike s.completeMonitorFrame_alike)⟩
  | blockBoundary =>
    exact ⟨_, rfl, State.follows_ite
      (fun _ => State.follows_of_alike (by simp [State.alike, Meter.alike])) fun _ => s.follows_refl⟩
  | prompt rq i => exact ⟨_, rfl, State.follows_whenConsole _ (s.decidePrompt_follows rq i)⟩
  | speakerTest rq side => exact ⟨_, rfl, State.follows_whenMgmt _ (s.decideSpeakerTest_follows ..)⟩
  | speakerTestEnd =>
    exact ⟨_, rfl, State.follows_whenPowered (State.follows_of_alike s.takeTestEnd_alike)⟩
  | payCard rq a => exact ⟨_, rfl, State.follows_whenConsole _ (s.decidePayCard_follows rq a)⟩
  | offerAck src trip i =>
    exact ⟨_, rfl, State.follows_whenFrom _ _ (State.follows_of_alike (s.takeOfferAck_alike ..))⟩
  | payCancel rq => exact ⟨_, rfl, State.follows_whenConsole _ (s.decidePayCancel_follows rq)⟩
  | cash rq a => exact ⟨_, rfl, State.follows_whenConsole _ (s.decideCash_follows rq a)⟩
  | payReq src dst d =>
    exact ⟨_, rfl, s.classifyPayment_follows _ _ _ _ fun s =>
      State.follows_of_alike (s.takePayReq_alike ..)⟩
  | payResp src dst d =>
    exact ⟨_, rfl, s.classifyPayment_follows _ _ _ _ fun s =>
      State.follows_of_alike (s.takePayResp_alike ..)⟩
  | authTimerExpiry =>
    exact ⟨_, rfl, State.follows_whenPowered (State.follows_of_alike s.authExpires_alike)⟩
  | adviceAckTimeout =>
    refine ⟨_, rfl, State.follows_whenPowered ?_⟩
    split
    · exact State.follows_of_alike (by simp [State.alike, Meter.alike])
    · exact s.follows_refl
  | adviceAck src ref k =>
    exact ⟨_, rfl, State.follows_whenFrom _ _ (State.follows_of_alike (s.takeAdviceAck_alike ..))⟩
  | shiftOpen rq d => exact ⟨_, rfl, State.follows_whenConsole _ (s.decideShiftOpen_follows rq d)⟩
  | shiftOpenUpdateComplete =>
    refine ⟨_, rfl, State.follows_whenPowered ?_⟩
    split
    · exact (State.follows_of_takeWrite ‹_›).trans (State.consoleRespond_follows ..)
    · exact s.follows_refl
  | shiftClose rq => exact ⟨_, rfl, State.follows_whenConsole _ (s.decideShiftClose_follows rq)⟩
  | shiftCloseUpdateComplete => exact execShiftCloseUpdateComplete_follows s
  | shiftLimitReached =>
    exact ⟨_, rfl, State.follows_whenPowered (State.follows_ite
      (fun _ => s.setLimit_follows.alike (by simp [State.alike, Meter.alike])) fun _ =>
      s.follows_refl)⟩
  | ackTrips rq n => exact ⟨_, rfl, State.follows_whenMgmt _ (s.decideAckTrips_follows rq n)⟩
  | ackTripsWriteComplete =>
    refine ⟨_, rfl, State.follows_whenPowered ?_⟩
    split
    · exact (State.follows_of_takeWrite ‹_›).trans (State.mgmtRespond_follows ..)
    · exact s.follows_refl
  | supplySample x => exact ⟨_, rfl, State.follows_whenPowered (s.takeSample_follows x)⟩
  | holdupSaveComplete => exact execHoldupSaveComplete_follows s
  | supplyGone =>
    exact ⟨_, rfl, State.follows_whenPowered (State.follows_of_alike s.loseSupply_alike)⟩
  | ignitionOff =>
    exact ⟨_, rfl, State.follows_ite
      (fun _ => State.follows_of_alike (by simp [State.alike, Meter.alike])) fun _ => ⟨rfl, rfl, id⟩⟩
  | ignitionOn =>
    exact ⟨_, rfl, State.follows_ite (fun _ => ⟨rfl, rfl, id⟩) fun _ =>
      State.follows_ite (fun _ => ⟨rfl, rfl, id⟩) fun _ =>
        State.follows_of_alike (by simp [State.alike, Meter.alike])⟩
  | parkDelayExpiry =>
    refine ⟨_, rfl, State.follows_whenPowered ?_⟩
    split
    · exact State.follows_ite (fun _ => State.follows_of_alike s.enterParked_alike)
        fun _ => ⟨rfl, rfl, id⟩
    · exact s.follows_refl
  | checkpointTimerExpiry =>
    refine ⟨_, rfl, State.follows_whenPowered ?_⟩
    split
    · exact State.follows_ite
        (fun _ => State.follows_of_alike (by simp [State.alike, Meter.alike])) fun _ => s.follows_refl
    · exact s.follows_refl
  | checkpointComplete => exact execCheckpointComplete_follows s
  | restart rq => exact ⟨_, rfl, State.follows_whenMgmt _ (s.decideRestart_follows rq)⟩
  | restartSaveComplete x => exact execRestartSaveComplete_follows s x
  | coldStart x ambient => exact execColdStart_follows s x ambient
  | pinReset ambient => exact execPinReset_follows s ambient
  | startDelimiterSeen seg =>
    exact ⟨_, rfl, State.follows_ite (fun _ => s.modPort_follows ..) fun _ => s.follows_refl⟩
  | receivedCodeViolation seg =>
    exact ⟨_, rfl, State.follows_ite
      (fun _ => State.follows_of_alike (by simp [State.alike, Meter.alike])) fun _ => s.follows_refl⟩
  | overlengthAbort seg =>
    exact ⟨_, rfl, State.follows_ite (fun _ => State.follows_of_alike (s.overlength_alike seg))
      fun _ => s.follows_refl⟩
  | lineIdleResume seg =>
    exact ⟨_, rfl, State.follows_ite (fun _ => s.modPort_follows ..) fun _ => s.follows_refl⟩

/-! #### The two commands that change the counter -/

theorem State.modBackup_stands (s : State) (f : Backup → Backup) :
    (s.modBackup f).engine.mode = s.engine.mode ∧ s.meter.alike (s.modBackup f).meter := by
  simp [Meter.alike]

theorem State.secondEvent_stands (s : State) :
    s.secondEvent.pending = s.pending ∧ s.secondEvent.engine.mode = s.engine.mode ∧
      s.meter.alike s.secondEvent.meter := by
  unfold State.secondEvent State.advanceCounter
  simp only
  split
  · simp [Meter.alike]
  · split <;> simp [Meter.alike]

theorem execSecondEvent_agrees (s : State) :
    ∃ t, execSecondEvent s = .next t ∧ t.pending = s.pending ∧ (s.meterAgrees → t.meterAgrees) := by
  obtain ⟨hpending, hmode, hmeter⟩ := s.secondEvent_stands
  refine ⟨_, rfl, ?_⟩
  split
  · exact ⟨hpending, State.meterAgrees_of_alike hmode hmeter⟩
  · exact ⟨by simp, State.meterAgrees_of_alike (by simp) (by simp [Meter.alike])⟩

theorem execBackupLoss_agrees (s : State) :
    ∃ t, execBackupLoss s = .next t ∧ t.pending = s.pending ∧ (s.meterAgrees → t.meterAgrees) := by
  refine ⟨_, rfl, ?_⟩
  split <;> exact ⟨rfl, id⟩

theorem exec_agrees (c : Instr) (s : State) :
    ∃ t, exec c s = .next t ∧ t.pending = s.pending ∧ (s.meterAgrees → t.meterAgrees) := by
  by_cases hsecond : c = .secondEvent
  · exact hsecond ▸ execSecondEvent_agrees s
  · by_cases hloss : c = .backupLoss
    · exact hloss ▸ execBackupLoss_agrees s
    · obtain ⟨t, ht, hpending, -, hagrees⟩ := exec_follows c s hsecond hloss
      exact ⟨t, ht, hpending, hagrees⟩

/-! #### The statements -/

/-- Settles O2: every command's meaning is an ordinary one, and none of the operations it is built of
touches the queue. -/
theorem everyCommandAnswers : Obligations.EveryCommandAnswers := by
  intro c s
  obtain ⟨t, ht, hpending, -⟩ := exec_agrees c s
  exact ⟨t, ht, hpending⟩

/-- Settles O4: the operations that leave state, engine, trip and snapshot alike keep the agreement, and
each change of the meter state moves the four together. -/
theorem stepKeepsMeterAgreement : Obligations.StepKeepsMeterAgreement := by
  intro s t h hstep
  unfold step at hstep
  split at hstep
  · cases hstep
    exact h
  · rename_i c rest _
    obtain ⟨t', ht', -, hagrees⟩ := exec_agrees c { s with pending := rest }
    rw [ht'] at hstep
    cases hstep
    exact hagrees h

/-- Settles O6: every other command's operations keep the seconds counter. -/
theorem counterChangesAtSecondsOnly : Obligations.CounterChangesAtSecondsOnly := by
  intro c s t hexec hnow
  by_contra hc
  obtain ⟨hsecond, hloss⟩ := not_or.mp hc
  obtain ⟨t', ht', -, hstands, -⟩ := exec_follows c s hsecond hloss
  rw [ht'] at hexec
  cases hexec
  exact hnow hstands

end Sys2Proof.Machine
end

section
/-! ### The step, reset, and classification -/

namespace Sys2Proof.Machine

open Sys2Proof

/-- Settles O1: the definition of `step` at a queue with a front. -/
theorem stepTakesFrontCommand : Obligations.StepTakesFrontCommand := by
  intro c rest s hqueue
  simp [step, hqueue]

/-- Settles O5: the collections after reset are empty, and the meter stands OFF_DUTY without a trip. -/
theorem resetMeetsInvariants : Obligations.ResetMeetsInvariants := by
  constructor
  · unfold State.bounded
    decide
  · unfold State.meterAgrees
    decide

/-- The part new from the factory after the stores have been read: reset's state but for what the later
steps of the start-up bring. -/
def firstBase (a : Ambient) : State :=
  { State.reset with
    link :=
      { State.reset.link with
        front := { State.reset.link.front with running := false }
        rear := { State.reset.link.rear with running := false } }
    distance := { State.reset.distance with running := false }
    sign := { State.reset.sign with lamps := List.replicate 6 .start, ambient := a }
    intercom := { Intercom.start with run := .stopped }
    power := { State.reset.power with state := .off }
    writes := [] }

theorem startBase_first {s : State} (hstore : s.store = .factory) (hbackup : s.time.backup = .lost)
    (hpins : s.pins = ⟨true, false, false⟩) (hpending : s.pending = []) (hwrites : s.writes = [])
    (hfree : s.free = 0) (hsample : s.power.sample = 1050) :
    s.startBase .cold false = firstBase s.sign.ambient := by
  obtain ⟨pending, link, tables, mgmt, notices, ⟨backup, newTrim, band, staged⟩, distance, engine, meter,
    sign, intercom, pay, acct, ⟨state, sample, lowCount, progress, park, wake, checkpoint⟩, pins, store,
    writes, free⟩ := s
  simp only at hstore hbackup hpins hpending hwrites hfree hsample
  subst hstore hbackup hpins hpending hwrites hfree hsample
  rfl

/-- Nothing is restored, and the calendar and the accounting unit change nothing. -/
theorem firstBase_restoreTrip (a : Ambient) :
    ((firstBase a).countInterrupt .cold).restoreTrip .factory = firstBase a := rfl

theorem firstBase_calendar (a : Ambient) :
    ((firstBase a).evaluateBand.restoreTenders .factory).restoreShift .cold = firstBase a := rfl

theorem firstBase_causeRecord (a : Ambient) :
    (firstBase a).causeRecord .cold (Store.factory.fromSave .cold) .factory
        ((firstBase a).store.restorable .factory) (firstBase a).meter.state = .first := rfl

theorem firstBase_startWrites (a : Ambient) :
    (firstBase a).startWrites .first = { firstBase a with writes := State.reset.writes } := rfl

theorem firstBase_startBlocks (a : Ambient) :
    State.startBlocks { firstBase a with writes := State.reset.writes } 0 = .reset := rfl

theorem startUp_first {s : State} (hstore : s.store = .factory)
    (hbase : s.startBase .cold false = firstBase s.sign.ambient) : s.startUp .cold false 0 = .reset := by
  have hsource : Store.factory.source .cold = .factory := rfl
  simp only [State.startUp, hbase, hstore, hsource, firstBase_restoreTrip, firstBase_causeRecord,
    firstBase_calendar, firstBase_startWrites, firstBase_startBlocks]

/-- Settles O7: the cold start of a factory part, step by step of R210; every field it keeps is one the
hypotheses give. -/
theorem resetIsFirstColdStart : Obligations.ResetIsFirstColdStart := by
  intro s hpower hstore hbackup hpins hpending hwrites hfree
  have hcause : s.store.coldCause = .cold := by rw [hstore]; rfl
  have hrestore : s.store.tables.power.restore ≤ 1050 := by rw [hstore]; decide
  simp only [exec, execColdStart, if_pos (And.intro hpower hrestore), hcause]
  exact congrArg _ (startUp_first (s := { s with power := { s.power with sample := 1050 } }) hstore
    (startBase_first hstore hbackup hpins hpending hwrites hfree rfl))

/-- Settles O12: the tests of `State.classify` in their order. -/
theorem classificationOrder : Obligations.ClassificationOrder := by
  intro s h body deliver pay
  unfold State.classify
  refine ⟨fun hkind hsrc => if_pos ⟨hkind, hsrc⟩, fun hfirst hdst => ?_, fun hdst hseg => ?_,
    fun hfirst hdst hseg => ?_⟩
  · rw [if_neg hfirst, if_pos hdst]
  · rw [if_neg hdst, if_pos hseg, ite_self]
  · rw [if_neg hfirst, if_neg hdst, if_neg hseg]

end Sys2Proof.Machine
end

section
/-! ### The line code (1.1) and the frame's body (1.3) -/

namespace Sys2Proof.Machine

open Sys2Proof

/-- Eight bits of a byte, most significant first, make that byte. -/
theorem byteOf_bits (b : Byte) :
    byteOf [b[7], b[6], b[5], b[4], b[3], b[2], b[1], b[0]] = b := by
  revert b
  decide

theorem codedByte_length (b : Byte) : (codedByte b).length = 8 := rfl

theorem lineBits_length (body : List Byte) : (lineBits body).length = 8 * body.length + 6 := by
  have hbytes : (body.flatMap codedByte).length = 8 * body.length := by
    induction body with
    | nil => rfl
    | cons b body ih => simp [codedByte_length, ih]; omega
  simp [lineBits, startDelimiter, endDelimiter, hbytes]

/-- Eight coded bits complete a byte, or abort the frame as overlength once 66 have been collected. -/
theorem receiveBits_codedByte (bytes : List Byte) (b : Byte) (rest : List BitTime) :
    receiveBits bytes [] 0 (codedByte b ++ rest) =
      if 66 ≤ bytes.length then .overlength else receiveBits (bytes ++ [b]) [] 0 rest := by
  simp [codedByte, codedBit, receiveBits, byteOf_bits]

theorem receiveBits_body (bytes body : List Byte) (rest : List BitTime)
    (h : bytes.length + body.length ≤ 66) :
    receiveBits bytes [] 0 (body.flatMap codedByte ++ rest) = receiveBits (bytes ++ body) [] 0 rest := by
  induction body generalizing bytes with
  | nil => simp
  | cons b body ih =>
    simp only [List.length_cons] at h
    rw [List.flatMap_cons, List.append_assoc, receiveBits_codedByte, if_neg (by omega),
      ih _ (by simp; omega), List.append_assoc, List.singleton_append]

theorem receiveBits_overlength (bytes body : List Byte) (rest : List BitTime)
    (hbytes : bytes.length ≤ 66) (h : 66 < bytes.length + body.length) :
    receiveBits bytes [] 0 (body.flatMap codedByte ++ rest) = .overlength := by
  induction body generalizing bytes with
  | nil => simp at h; omega
  | cons b body ih =>
    rw [List.flatMap_cons, List.append_assoc, receiveBits_codedByte]
    split
    · rfl
    · simp only [List.length_cons] at h
      exact ih _ (by simp; omega) (by simp; omega)

theorem receiveBits_endDelimiter (bytes : List Byte) :
    receiveBits bytes [] 0 endDelimiter = .frame bytes := by
  simp [endDelimiter, codedBit, receiveBits]

/-- Up to seven bits of a byte in progress are collected. -/
theorem receiveBits_bits (bytes : List Byte) (acc bits : List Bool) (rest : List BitTime)
    (h : acc.length + bits.length < 8) :
    receiveBits bytes acc 0 (bits.map codedBit ++ rest) = receiveBits bytes (acc ++ bits) 0 rest := by
  induction bits generalizing acc with
  | nil => simp
  | cons b bits ih =>
    simp only [List.length_cons] at h
    have hlength : acc.length ≠ 7 := by omega
    simp only [List.map_cons, List.cons_append, codedBit, receiveBits, hlength]
    simpa using ih (acc ++ [b]) (by simp; omega)

theorem receiveBits_violation (bytes : List Byte) (bits : List Bool) (level : Bool)
    (rest : List BitTime) (h : bits ≠ [] ∨ level = true) :
    receiveBits bytes bits 0 ((level, level) :: rest) = .violation := by
  rcases h with h | rfl <;> simp_all [receiveBits]

/-- Behind a start delimiter the receiver's outcome decides the second command. -/
theorem lineCommands_startDelimiter (seg : Seg) (line : List BitTime) :
    lineCommands seg (startDelimiter ++ line) =
      .startDelimiterSeen seg ::
        (match receiveBits [] [] 0 line with
         | .frame body => [.frameReceived seg body]
         | .violation => [.receivedCodeViolation seg]
         | .overlength => [.overlengthAbort seg]
         | .unfinished => []) := rfl

theorem addrOfByte_byteOfAddr {a : NodeAddr} (h : a.num ≤ 7) : addrOfByte (byteOfAddr a) = some a := by
  obtain ⟨seg, num⟩ := a
  simp only at h
  cases seg <;> interval_cases num <;> rfl

theorem kindOfCode_kindCode (k : FrameKind) :
    kindOfCode (BitVec.ofNat 8 (kindCode k)).toNat = some k := by
  cases k <;> rfl

theorem checkHeader_own {dst src : NodeAddr} {k : FrameKind} {payload : List Byte} (hdst : dst.num ≤ 7)
    (hsrc : 1 ≤ src.num) (hsrc' : src.num ≤ 7) (hlength : payload.length ≤ 60) (hpoll : k ≠ .poll)
    (hempty : k = .empty → payload = []) :
    checkHeader src.seg (byteOfAddr dst) (byteOfAddr src) (BitVec.ofNat 8 (kindCode k))
        (BitVec.ofNat 8 payload.length) payload = .valid ⟨dst, src, k⟩ payload := by
  have hbyte : (BitVec.ofNat 8 payload.length).toNat = payload.length := by
    rw [BitVec.toNat_ofNat]
    omega
  have hzero : ¬ (k = .empty ∧ payload.length ≠ 0) := fun ⟨hk, hne⟩ => hne (by simp [hempty hk])
  unfold checkHeader
  rw [addrOfByte_byteOfAddr hdst, addrOfByte_byteOfAddr hsrc', kindOfCode_kindCode, hbyte]
  exact if_neg (by simp only [not_or]; exact ⟨by omega, by simp, by omega, hpoll, hzero⟩)

/-- The body that 1.3 lays out has the length of its Length field and its own CRC. -/
theorem checkFrame_frameBody {seg : Seg} (dst src : NodeAddr) (k : FrameKind) {payload : List Byte}
    (hlength : payload.length ≤ 60) :
    checkFrame seg (frameBody dst src k payload) =
      checkHeader seg (byteOfAddr dst) (byteOfAddr src) (BitVec.ofNat 8 (kindCode k))
        (BitVec.ofNat 8 payload.length) payload := by
  have hbyte : (BitVec.ofNat 8 payload.length).toNat = payload.length := by
    rw [BitVec.toNat_ofNat]
    omega
  simp only [frameBody, List.cons_append, List.nil_append, checkFrame, hbyte, List.length_cons,
    List.length_append, List.length_nil, List.take_left, List.drop_left]
  rw [if_neg (by omega), if_pos trivial]

/-- Settles O8: the receiver takes the line eight bit times a byte (by induction on the body), and the
frame body was made with the length, the CRC and the header that R3 checks. -/
theorem lineCarriesFrames : Obligations.LineCarriesFrames := by
  refine ⟨fun seg body => ⟨lineBits_length body, fun hshort => ?_, fun hlong => ?_,
    fun bits level rest hshort hbits hfault => ?_⟩, fun dst src k payload hdst hsrc hsrc' hlength hpoll
      hempty => ?_⟩
  · rw [lineBits, List.append_assoc, lineCommands_startDelimiter,
      receiveBits_body [] body _ (by simpa using hshort), receiveBits_endDelimiter]
    rfl
  · rw [lineBits, List.append_assoc, lineCommands_startDelimiter,
      receiveBits_overlength [] body _ (by simp) (by simpa using hlong)]
  · rw [List.append_assoc, List.append_assoc, lineCommands_startDelimiter,
      receiveBits_body [] body _ (by simpa using hshort), receiveBits_bits _ [] bits _ (by simpa using hbits),
      receiveBits_violation _ _ _ _ (by simpa using hfault)]
  · rw [checkFrame_frameBody dst src k hlength, checkHeader_own hdst hsrc hsrc' hlength hpoll hempty]

end Sys2Proof.Machine
end

section
/-! ### Ports, and frames received outside a poll exchange (R2, R3, R19) -/

namespace Sys2Proof.Machine

open Sys2Proof

/-! #### One port at a time -/

@[simp] theorem State.port_modPort (s : State) (seg : Seg) (f : PortState → PortState) :
    (s.modPort seg f).port seg = f (s.port seg) := by
  cases seg <;> rfl

theorem State.port_modPort_ne (s : State) {seg seg' : Seg} (f : PortState → PortState)
    (h : seg' ≠ seg) : (s.modPort seg f).port seg' = s.port seg' := by
  cases seg <;> cases seg' <;> simp_all [State.modPort, State.port]

theorem State.modPort_modPort (s : State) (seg : Seg) (f g : PortState → PortState) :
    (s.modPort seg f).modPort seg g = s.modPort seg (fun p => g (f p)) := by
  cases seg <;> rfl

theorem State.modPort_congr {s : State} {seg : Seg} {f g : PortState → PortState}
    (h : f (s.port seg) = g (s.port seg)) : s.modPort seg f = s.modPort seg g := by
  cases seg
  · exact congrArg (fun p => { s with link := { s.link with front := p } }) h
  · exact congrArg (fun p => { s with link := { s.link with rear := p } }) h

/-- A change of a port is a change of the link. -/
theorem State.modPort_sameBut (s : State) (seg : Seg) (f : PortState → PortState) :
    s.sameBut [.link] (s.modPort seg f) := by
  intro p hp
  have hkeeps := s.modPort_keeps seg f
  cases p <;> simp_all [Part.same]

theorem State.missExchange_of_none {s : State} {seg : Seg} (h : (s.port seg).exchange = none) :
    s.missExchange seg = s := by
  simp [State.missExchange, h]

/-! #### The check of a frame (R3) -/

theorem checkFrame_of_length {seg : Seg} {body : List Byte}
    (h : body.length < 6 ∨ body.length ≠ 6 + (body.getD 3 0).toNat) :
    checkFrame seg body = .formatError := by
  unfold checkFrame
  split
  · exact if_pos (by simpa using h)
  · rfl

/-- The two CRC bytes at the end of a frame, as a number. -/
theorem crcBytes_iff (c : BitVec 16) (hi lo : Byte) :
    [hi, lo] = [c.extractLsb' 8 8, c.extractLsb' 0 8] ↔ c.toNat = hi.toNat * 256 + lo.toNat := by
  have hc := c.isLt
  have hhi := hi.isLt
  have hlo := lo.isLt
  simp only [List.cons.injEq, and_true, BitVec.toNat_eq, BitVec.extractLsb'_toNat,
    Nat.shiftRight_eq_div_pow]
  omega

/-- A body as long as its Length field says: four bytes of header, the payload, two bytes of CRC. -/
theorem frame_shape {body : List Byte} (hsix : 6 ≤ body.length)
    (hlength : body.length = 6 + (body.getD 3 0).toNat) :
    ∃ dst src kind len payload hi lo, body = dst :: src :: kind :: len :: (payload ++ [hi, lo])
      ∧ payload.length = len.toNat := by
  match body with
  | dst :: src :: kind :: len :: rest =>
    simp only [List.length_cons, List.getD_cons_succ, List.getD_cons_zero] at hlength
    have hrest : rest.length = len.toNat + 2 := by omega
    obtain ⟨hi, lo, hpair⟩ : ∃ hi lo, rest.drop len.toNat = [hi, lo] :=
      List.length_eq_two.mp (by simp [hrest])
    refine ⟨dst, src, kind, len, rest.take len.toNat, hi, lo, ?_, by simp [hrest]⟩
    rw [← hpair, List.take_append_drop]
  | [] | [_] | [_, _] | [_, _, _] => simp at hsix

/-- Behind the length test the CRC decides whether the header is looked at. -/
theorem checkFrame_shape (seg : Seg) (dst src kind len : Byte) {payload : List Byte} (hi lo : Byte)
    (h : payload.length = len.toNat) :
    checkFrame seg (dst :: src :: kind :: len :: (payload ++ [hi, lo])) =
      if (crc ([dst, src, kind, len] ++ payload)).toNat = hi.toNat * 256 + lo.toNat then
        checkHeader seg dst src kind len payload
      else .crcError := by
  simp only [checkFrame, ← h, List.length_cons, List.length_append, List.length_nil, List.take_left,
    List.drop_left, crcBytes_iff]
  rw [if_neg (by omega)]

/-- The CRC comparison as the statements write it, on the body's last two bytes. -/
theorem crc_of_shape (dst src kind len : Byte) (payload : List Byte) (hi lo : Byte) :
    let body := dst :: src :: kind :: len :: (payload ++ [hi, lo])
    body.take (body.length - 2) = [dst, src, kind, len] ++ payload
      ∧ body.getD (body.length - 2) 0 = hi ∧ body.getD (body.length - 1) 0 = lo := by
  simp

theorem addrOfByte_eq_some {b : Byte} {a : NodeAddr} (h : addrOfByte b = some a) :
    b &&& 0x78#8 = 0#8 ∧ a.seg = (if b.getLsbD 7 then .rear else .front) ∧
      a.num = (b &&& 7#8).toNat := by
  unfold addrOfByte at h
  split at h
  · cases h
    exact ⟨‹_›, rfl, rfl⟩
  · cases h

/-- A header of step 2 of R3 that no external node's frame carries. -/
theorem checkHeader_formatError {seg : Seg} {dst src kind len : Byte} {payload : List Byte}
    (h : dst &&& 0x78#8 ≠ 0#8 ∨ src &&& 0x78#8 ≠ 0#8 ∨ (src.getLsbD 7 = true ↔ seg = .front)
      ∨ src &&& 7#8 = 0#8 ∨ kindOfCode kind.toNat = none ∨ kind = 1#8 ∨ kind = 2#8 ∧ len ≠ 0#8) :
    checkHeader seg dst src kind len payload = .formatError := by
  unfold checkHeader
  split
  · rename_i d a k hd ha hk
    obtain ⟨hzero, -, -⟩ := addrOfByte_eq_some hd
    obtain ⟨hzero', hseg, hnum⟩ := addrOfByte_eq_some ha
    refine if_pos ?_
    rcases h with h | h | h | h | h | rfl | ⟨rfl, hlen⟩
    · exact absurd hzero h
    · exact absurd hzero' h
    · refine .inr (.inl ?_)
      cases seg <;> simp_all
    · exact .inr (.inr (.inl (by simp [hnum, h])))
    · simp [h] at hk
    · cases hk
      exact .inr (.inr (.inr (.inl rfl)))
    · cases hk
      refine .inr (.inr (.inr (.inr ⟨rfl, fun hzero => hlen ?_⟩)))
      exact BitVec.eq_of_toNat_eq (by simpa using hzero)
  · rfl

/-! #### What reception makes of the check -/

section
variable {s : State} {seg : Seg} {body : List Byte}

theorem receiveFrame_long (hlistens : (s.port seg).listens = true)
    (hidle : (s.port seg).exchange = none) (hlong : 66 < body.length) :
    s.receiveFrame seg body =
      s.modPort seg fun p =>
        { p with rx := .ignoring, formatErrors := min (p.formatErrors + 1) 65535 } := by
  rw [State.receiveFrame, if_pos hlistens, if_pos hlong, State.overlength, State.formatError,
    State.modPort_modPort, State.missExchange_of_none (by simpa using hidle)]
  rfl

theorem receiveFrame_formatError (hlistens : (s.port seg).listens = true)
    (hidle : (s.port seg).exchange = none) (hshort : body.length ≤ 66)
    (hcheck : checkFrame seg body = .formatError) :
    s.receiveFrame seg body =
      s.modPort seg fun p =>
        { p with rx := .waiting, formatErrors := min (p.formatErrors + 1) 65535 } := by
  simp only [State.receiveFrame, if_pos hlistens, if_neg (Nat.not_lt.mpr hshort), hcheck,
    State.formatError, State.modPort_modPort]
  exact State.missExchange_of_none (by simpa using hidle)

theorem receiveFrame_crcError (hlistens : (s.port seg).listens = true)
    (hidle : (s.port seg).exchange = none) (hshort : body.length ≤ 66)
    (hcheck : checkFrame seg body = .crcError) :
    s.receiveFrame seg body =
      s.modPort seg fun p =>
        { p with rx := .waiting, crcErrors := min (p.crcErrors + 1) 65535 } := by
  simp only [State.receiveFrame, if_pos hlistens, if_neg (Nat.not_lt.mpr hshort), hcheck,
    State.crcError, State.modPort_modPort]
  exact State.missExchange_of_none (by simpa using hidle)

theorem receiveFrame_normal (hlistens : (s.port seg).listens = true)
    (hidle : (s.port seg).exchange = none) (hshort : body.length ≤ 66) {h : Header}
    {payload : List Byte} (hcheck : checkFrame seg body = .valid h payload)
    (hmode : (s.port seg).mode = .normal) :
    s.receiveFrame seg body =
      s.modPort seg fun p =>
        { p with rx := .waiting, formatErrors := min (p.formatErrors + 1) 65535 } := by
  simp only [State.receiveFrame, if_pos hlistens, if_neg (Nat.not_lt.mpr hshort), hcheck,
    State.port_modPort, hmode, State.takeReply, hidle, State.formatError, State.modPort_modPort]
  rfl

theorem receiveFrame_loopback (hlistens : (s.port seg).listens = true) (hshort : body.length ≤ 66)
    {h : Header} {payload : List Byte} (hcheck : checkFrame seg body = .valid h payload)
    (hmode : (s.port seg).mode = .loopback) :
    s.receiveFrame seg body =
      s.modPort seg fun p =>
        if p.sending = none then
          { p with rx := .waiting, sending := some ⟨.relay body, .echo, false⟩ }
        else if p.echo = none then { p with rx := .waiting, echo := some body }
        else { p with rx := .waiting, overflow := min (p.overflow + 1) 65535 } := by
  simp only [State.receiveFrame, if_pos hlistens, if_neg (Nat.not_lt.mpr hshort), hcheck,
    State.port_modPort, hmode, State.modPort_modPort]
  refine State.modPort_congr ?_
  simp only [PortState.takeEcho, Option.isNone_iff_eq_none]
  rfl

end

/-- Settles O9: the clauses are the outcomes of the check of R3, and of `takeEcho` in LOOPBACK. -/
theorem framesAreCheckedAndEchoed : Obligations.FramesAreCheckedAndEchoed := by
  intro seg body s hlistens hidle
  simp only [exec, execFrameReceived, Host.Outcome.next.injEq]
  refine ⟨receiveFrame_long hlistens hidle, fun hshort hlength => ?_,
    fun hshort hsix hlength hcrc => ?_, fun hshort hsix hlength hcrc hheader => ?_,
    fun h payload hshort hcheck hmode => receiveFrame_normal hlistens hidle hshort hcheck hmode,
    fun h payload hshort hcheck hmode => receiveFrame_loopback hlistens hshort hcheck hmode⟩
  · exact receiveFrame_formatError hlistens hidle hshort (checkFrame_of_length hlength)
  · obtain ⟨dst, src, kind, len, payload, hi, lo, rfl, hpayload⟩ := frame_shape hsix hlength
    obtain ⟨htake, hhi, hlo⟩ := crc_of_shape dst src kind len payload hi lo
    rw [htake, hhi, hlo] at hcrc
    exact receiveFrame_crcError hlistens hidle hshort
      ((checkFrame_shape seg dst src kind len hi lo hpayload).trans (if_neg hcrc))
  · obtain ⟨dst, src, kind, len, payload, hi, lo, rfl, hpayload⟩ := frame_shape hsix hlength
    obtain ⟨htake, hhi, hlo⟩ := crc_of_shape dst src kind len payload hi lo
    rw [htake, hhi, hlo] at hcrc
    exact receiveFrame_formatError hlistens hidle hshort
      (((checkFrame_shape seg dst src kind len hi lo hpayload).trans (if_pos hcrc)).trans
        (checkHeader_formatError hheader))

end Sys2Proof.Machine
end

section
/-! ### LOOPBACK (R19, R20), receiver states (R2, R4) -/

namespace Sys2Proof.Machine

open Sys2Proof

/-- A management answer changes nothing but the front transmit queue, which takes it. -/
theorem State.answer_mgmtRespond {s : State} {rq : Req} (hseg : rq.src.seg = .front)
    (hrun : s.link.front.running = true) (op : OpName) (t : Target) (r : MgmtResult) (d : RespData) :
    s.sameBut [.link] (s.mgmtRespond rq op t r d)
      ∧ s.frontTook (s.mgmtRespond rq op t r d) (mgmtAnswer rq op t r d) := by
  rw [State.mgmtRespond_front op t r d hseg hrun]
  refine ⟨fun p hp => ?_, rfl⟩
  cases p <;> simp_all [Part.same]

theorem State.front_running_of_fromMgmt {s : State} {op : OpName} {rq : Req} (h : s.fromMgmt op rq) :
    s.link.front.running = true :=
  State.running_of_receives h.1

theorem State.sameBut_trans {l : List Part} {r s t : State} (h : r.sameBut l s) (h' : s.sameBut l t) :
    r.sameBut l t := by
  intro p hp
  have h₁ := h p hp
  have h₂ := h' p hp
  cases p <;> exact Eq.trans h₂ h₁

/-- A change of a port that the answer to it follows. -/
theorem State.answer_modPort {s : State} {rq : Req} {seg : Seg} {f : PortState → PortState}
    (hseg : rq.src.seg = .front) (hrun : s.link.front.running = true)
    (hkeep : ∀ p, (f p).running = p.running ∧ (f p).queue = p.queue) (op : OpName) (r : MgmtResult)
    (d : RespData) :
    let t := (s.modPort seg f).mgmtRespond rq op .none r d
    s.sameBut [.link] t
      ∧ t.link.front.queue = joined s.link.front.queue (mgmtAnswer rq op .none r d)
      ∧ (t.port seg).mode = (f (s.port seg)).mode
      ∧ (t.port seg).loopTimer = (f (s.port seg)).loopTimer
      ∧ (t.port seg).loopWanted = (f (s.port seg)).loopWanted := by
  have hrun' : (s.modPort seg f).link.front.running = true := by
    cases seg <;> simp [State.modPort, hkeep, hrun]
  obtain ⟨hsame, htook⟩ := State.answer_mgmtRespond hseg hrun' op .none r d
  refine ⟨State.sameBut_trans (s.modPort_sameBut seg f) hsame, ?_⟩
  unfold State.frontTook at htook
  cases seg <;> simp only [State.port, htook] <;> simp [State.modPort, hkeep]

/-- A LOOPBACK of a management node reaches its decision. -/
theorem exec_loopback_of_fromMgmt {s : State} {rq : Req} (h : s.fromMgmt .loopback rq)
    (d : Option (Seg × Bool)) : exec (.loopback rq d) s = .next (s.decideLoopback rq d) :=
  congrArg Host.Outcome.next (State.whenMgmt_of _ h)

theorem PortState.enterLoopback_keeps (p : PortState) :
    p.enterLoopback.running = p.running ∧ p.enterLoopback.queue = p.queue := by
  unfold PortState.enterLoopback
  split <;> simp

theorem PortState.leaveLoopback_keeps (p : PortState) :
    p.leaveLoopback.running = p.running ∧ p.leaveLoopback.queue = p.queue ∧
      p.leaveLoopback.pointer = p.pointer ∧ p.leaveLoopback.loopTimer = 0 := by
  unfold PortState.leaveLoopback
  split <;> simp

theorem PortState.offLoopback_keeps (p : PortState) :
    p.offLoopback.running = p.running ∧ p.offLoopback.queue = p.queue := by
  unfold PortState.offLoopback
  (repeat' split) <;> simp [PortState.leaveLoopback_keeps]

theorem PortState.leaveLoopback_mode_normal {p : PortState} (hecho : p.echo = none)
    (hsending : p.sending = none) : p.leaveLoopback.mode = .normal := by
  simp [PortState.leaveLoopback, hecho, hsending]

theorem PortState.leaveLoopback_waits {p : PortState} (hecho : p.echo ≠ none) :
    p.leaveLoopback.mode = p.mode ∧ p.leaveLoopback.loopLeaving = true := by
  obtain ⟨x, hx⟩ := Option.ne_none_iff_exists'.mp hecho
  simp [PortState.leaveLoopback, hx]

theorem PortState.offLoopback_mode_normal {p : PortState} (hecho : p.echo = none)
    (hsending : p.sending = none) (hleaving : p.loopLeaving = false) : p.offLoopback.mode = .normal := by
  unfold PortState.offLoopback
  split
  · assumption
  · simp [hleaving, PortState.leaveLoopback_mode_normal hecho hsending]

theorem State.tripOpen_iff (s : State) :
    s.tripOpen = true ↔ s.meter.state = .hired ∨ s.meter.state = .pay := by
  simp [State.tripOpen]

/-- Settles O10: the decisions of R19 on the port's own functions, and the expiry by `leaveLoopback`. -/
theorem loopbackModes : Obligations.LoopbackModes := by
  intro rq seg s
  refine ⟨fun h hopen => ?_, fun h hopen => ?_, fun h => ?_, fun hmode hleaving => ?_⟩
  · refine ⟨_, exec_loopback_of_fromMgmt h _, ?_⟩
    rw [State.decideLoopback, State.whenAllowed_of _ _ h.2.2]
    simp only [if_pos (s.tripOpen_iff.mp hopen)]
    exact State.answer_mgmtRespond h.2.1 (State.front_running_of_fromMgmt h) ..
  · refine ⟨_, exec_loopback_of_fromMgmt h _, ?_⟩
    have hclosed : ¬ (s.meter.state = .hired ∨ s.meter.state = .pay) := by
      rw [← s.tripOpen_iff, hopen]
      simp
    rw [State.decideLoopback, State.whenAllowed_of _ _ h.2.2]
    simp only [if_neg hclosed]
    obtain ⟨hsame, hqueue, hmode, htimer, hwanted⟩ := State.answer_modPort (seg := seg) h.2.1
      (State.front_running_of_fromMgmt h) PortState.enterLoopback_keeps .loopback .ok .none
    refine ⟨hsame, fun hidle => ?_, fun hbusy => ?_, hqueue⟩
    · rw [hmode, htimer]
      simp [PortState.enterLoopback, hidle]
    · obtain ⟨x, hx⟩ := Option.ne_none_iff_exists'.mp hbusy
      rw [hmode, hwanted]
      simp [PortState.enterLoopback, hx]
  · refine ⟨_, exec_loopback_of_fromMgmt h _, ?_⟩
    rw [State.decideLoopback, State.whenAllowed_of _ _ h.2.2]
    obtain ⟨hsame, hqueue, hmode, -, -⟩ := State.answer_modPort (seg := seg) h.2.1
      (State.front_running_of_fromMgmt h) PortState.offLoopback_keeps .loopback .ok .none
    refine ⟨hsame, fun hnormal => ?_, fun hecho hsending hleaving => ?_, hqueue⟩
    · have hstays : s.modPort seg PortState.offLoopback = s.modPort seg id :=
        State.modPort_congr (by simp [PortState.offLoopback, hnormal])
      have hsame : s.modPort seg id = s := by cases seg <;> rfl
      simp only [hstays, hsame]
      exact (State.answer_mgmtRespond h.2.1 (State.front_running_of_fromMgmt h) ..).2
    · exact hmode.trans (PortState.offLoopback_mode_normal hecho hsending hleaving)
  · refine ⟨_, rfl, s.modPort_sameBut seg _, ?_⟩
    obtain ⟨-, hqueue, hpointer, htimer⟩ := (s.port seg).leaveLoopback_keeps
    simp only [State.port_modPort, if_pos (And.intro hmode hleaving)]
    refine ⟨htimer, hpointer, hqueue, fun hecho hsending =>
      PortState.leaveLoopback_mode_normal hecho hsending, fun hecho => ?_⟩
    obtain ⟨hstands, hleaves⟩ := PortState.leaveLoopback_waits hecho
    exact ⟨hstands.trans hmode, hleaves⟩

/-! #### Receiver states -/

/-- The change a counted violation makes at the port. -/
theorem State.countViolation_counted {s : State} {seg : Seg}
    (h : ¬ ((s.port seg).health = .good ∧ satInc 255 (s.port seg).window = 17)) :
    s.countViolation seg =
      s.modPort seg fun p =>
        { p with window := satInc 255 (s.port seg).window, violations := satInc max16 p.violations } := by
  unfold State.countViolation
  exact if_neg h

theorem State.countViolation_degrades {s : State} {seg : Seg}
    (h : (s.port seg).health = .good ∧ satInc 255 (s.port seg).window = 17) :
    s.countViolation seg =
      (s.modPort seg fun p =>
        { p with
          window := satInc 255 (s.port seg).window, violations := satInc max16 p.violations
          health := .degraded, quiet := 0 }).offerNotice (.portDegraded seg) := by
  unfold State.countViolation
  simp only [if_pos h, State.modPort_modPort]

/-- A notice offered where it fares as it would before stands noticed. -/
theorem State.noticed_offerNotice {s u : State} (h : s.NoticesAlike u) (n : Notice) :
    s.noticed (u.offerNotice n) n := by
  have halike := h.offerNotice n
  exact ⟨halike.notices, halike.queue ▸ List.prefix_rfl⟩

theorem State.noticesAlike_modPort {s : State} {seg : Seg} {f : PortState → PortState}
    (h : ∀ p, (f p).running = p.running ∧ (f p).queue = p.queue ∧ (f p).nodes = p.nodes) :
    s.NoticesAlike (s.modPort seg f) := by
  cases seg
  · obtain ⟨hrunning, hqueue, hnodes⟩ := h s.link.front
    exact ⟨rfl, rfl, rfl, hrunning, hqueue, hnodes⟩
  · exact ⟨rfl, rfl, rfl, rfl, rfl, rfl⟩

/-- A notice changes a port's transmit queue at most. -/
theorem State.port_offerNotice (s : State) (n : Notice) (seg : Seg) :
    ∃ q, (s.offerNotice n).port seg = { s.port seg with queue := q } :=
  ⟨_, State.port_of_still (s.offerNotice_still n) seg⟩

/-- Settles O16: each row acts on the port alone; the 17th violation offers its notice. -/
theorem receiverStates : Obligations.ReceiverStates := by
  intro seg s hrun
  refine ⟨fun hrx => ?_, fun hrx hidle hstays => ?_, fun hrx hgood hwindow hidle => ?_,
    fun hrx hidle => ?_, fun hrx => ?_⟩
  · simp [exec, execStartDelimiterSeen, hrun, hrx]
  · have hcounted : ¬ ((s.port seg).health = .good ∧ satInc 255 (s.port seg).window = 17) := by
      rintro ⟨hgood, hwindow⟩
      unfold satInc at hwindow
      rcases hstays with hbad | hother
      · simp [hgood] at hbad
      · omega
    simp only [exec, execReceivedCodeViolation, hrun, hrx, Bool.true_and, beq_self_eq_true, if_true]
    rw [State.countViolation_counted (by simpa using hcounted), State.modPort_modPort,
      State.missExchange_of_none (by simpa using hidle)]
    exact congrArg _ (State.modPort_congr (by simp [satInc, max16]))
  · have hdegrades : (s.port seg).health = .good ∧ satInc 255 (s.port seg).window = 17 :=
      ⟨hgood, by rw [hwindow]; rfl⟩
    refine ⟨_, rfl, ?_⟩
    simp only [hrun, hrx, Bool.true_and, beq_self_eq_true, if_true]
    rw [State.countViolation_degrades (by simpa using hdegrades), State.modPort_modPort]
    generalize hu : s.modPort seg _ = u
    have hport : u.port seg = _ := hu ▸ s.port_modPort seg _
    obtain ⟨q, hstill⟩ := u.port_offerNotice (.portDegraded seg) seg
    rw [State.missExchange_of_none (by simp [hstill, hport, hidle])]
    have halike : s.NoticesAlike u := hu ▸ State.noticesAlike_modPort fun _ => ⟨rfl, rfl, rfl⟩
    refine ⟨?_, by simp [hstill, hport], by simp [hstill, hport], ?_, by simp [hstill, hport],
      by simp [hstill, hport, satInc, max16], by simp [halike.notices], State.noticed_offerNotice halike _⟩
    · have hsame : s.sameBut [.link] u := hu ▸ s.modPort_sameBut seg _
      have hkeeps := u.offerNotice_keeps (.portDegraded seg)
      intro p hp
      have hu := hsame p (by simp_all)
      cases p <;> simp_all [Part.same]
    · simp [hstill, hport, satInc, hwindow]
  · simp only [exec, execOverlengthAbort, hrun, hrx, Bool.true_and, beq_self_eq_true, if_true,
      State.overlength, State.formatError, State.modPort_modPort]
    rw [State.missExchange_of_none (by simpa using hidle)]
    rfl
  · simp only [exec, execLineIdleResume, if_pos hrx]

end Sys2Proof.Machine
end

section
/-! ### Polling (R6 to R8) and transmission (R5, R9 to R11) -/

namespace Sys2Proof.Machine

open Sys2Proof

theorem any_eq_getD {α : Type} (o : Option α) (p : α → Bool) : o.any p = (o.map p).getD false := by
  cases o <;> rfl

/-- The node at the `i`-th place after the pointer, and the place of a node. -/
theorem pollPlace_eq {p i : Nat} (hp : 1 ≤ p) (hp' : p ≤ 7) (hi : i < 7) :
    ((p + i) % 7 + 1 + 6 - p) % 7 = i := by
  omega

theorem pollNode_place {p m : Nat} (hp : 1 ≤ p) (hp' : p ≤ 7) (hm : 1 ≤ m) (hm' : m ≤ 7) :
    (p + (m + 6 - p) % 7) % 7 + 1 = m := by
  omega

/-- The polled node is due and no due node comes before it after the pointer. -/
theorem PortState.nextDue_some {p : PortState} {n : Nat} (hp : 1 ≤ p.pointer) (hp' : p.pointer ≤ 7)
    (h : p.nextDue = some n) :
    1 ≤ n ∧ n ≤ 7 ∧ (p.nodes[n - 1]?).any (·.due) = true ∧
      ∀ m, 1 ≤ m → m ≤ 7 → (p.nodes[m - 1]?).any (·.due) = true →
        (n + 6 - p.pointer) % 7 ≤ (m + 6 - p.pointer) % 7 := by
  rw [PortState.nextDue, List.find?_map] at h
  obtain ⟨i, hfind, rfl⟩ := Option.map_eq_some_iff.mp h
  rw [List.find?_range_eq_some] at hfind
  obtain ⟨hdue, hi, hbefore⟩ := hfind
  rw [List.mem_range] at hi
  refine ⟨by omega, by omega, by simpa [any_eq_getD] using hdue, fun m hm hm' hmdue => ?_⟩
  rw [pollPlace_eq hp hp' hi]
  by_contra hlt
  have hnot := hbefore _ (not_le.mp hlt)
  rw [Function.comp_apply, pollNode_place hp hp' hm hm', ← any_eq_getD, hmdue] at hnot
  simp at hnot

theorem PortState.nextDue_none_iff {p : PortState} (hp : 1 ≤ p.pointer) (hp' : p.pointer ≤ 7) :
    p.nextDue = none ↔ ∀ n, 1 ≤ n → n ≤ 7 → (p.nodes[n - 1]?).any (·.due) = false := by
  rw [PortState.nextDue, List.find?_map, Option.map_eq_none_iff, List.find?_range_eq_none]
  constructor
  · intro h n hn hn'
    have hnot := h ((n + 6 - p.pointer) % 7) (Nat.mod_lt _ (by omega))
    rw [Function.comp_apply, pollNode_place hp hp' hn hn', ← any_eq_getD] at hnot
    simpa using hnot
  · intro h i hi
    have hnot := h ((p.pointer + i) % 7 + 1) (by omega) (by omega)
    simpa [any_eq_getD] using hnot

/-- What a free line says of its port. -/
theorem PortState.free_iff {p : PortState} :
    p.free = true ↔ p.running = true ∧ p.mode = .normal ∧ p.exchange = none ∧ p.sending = none
      ∧ p.rx = .waiting := by
  simp [PortState.free, and_assoc]

/-- An own transmission opportunity of a free line starts the head of the queue it draws from. -/
theorem State.opportunity_free {s : State} {seg : Seg} (h : (s.port seg).free = true) :
    s.sameBut [.link] (s.opportunity seg)
      ∧ ((s.opportunity seg).port seg).pointer = (s.port seg).pointer
      ∧ ((s.opportunity seg).port seg).exchange = (s.port seg).exchange
      ∧ ((s.opportunity seg).port seg).sending =
        (s.nextFrame seg).map fun x => ⟨x.1, x.2, true⟩ := by
  obtain ⟨hrun, hmode, -, hsending, -⟩ := PortState.free_iff.mp h
  simp only [State.opportunity, hrun, hmode, hsending, beq_self_eq_true, Option.isNone_none,
    Bool.and_self, if_true]
  cases s.nextFrame seg with
  | none => exact ⟨fun p _ => by cases p <;> rfl, rfl, rfl, hsending⟩
  | some x => exact ⟨s.modPort_sameBut seg _, by simp, by simp, by simp⟩

/-- Settles O13: `nextDue` looks through the seven nodes from the one after the pointer on. -/
theorem pollTakesNextDueNode : Obligations.PollTakesNextDueNode := by
  intro seg s hfree hp hp' due dist
  obtain ⟨hrun, hmode, hidle, hsending, -⟩ := PortState.free_iff.mp hfree
  simp only [exec, execPollStart, if_pos hfree, Host.Outcome.next.injEq, exists_eq_left']
  refine ⟨fun hsome => ?_, fun hnone => ?_⟩
  · cases hnext : (s.port seg).nextDue with
    | none =>
      obtain ⟨n, hn, hn', hdue⟩ := hsome
      have hnot := (PortState.nextDue_none_iff hp hp').mp hnext n hn hn'
      exact absurd hdue (by simp [due, hnot])
    | some n =>
      obtain ⟨hn, hn', hdue, hfirst⟩ := PortState.nextDue_some hp hp' hnext
      refine ⟨_, n, rfl, ?_⟩
      simp only [State.pollNext, hnext, State.port_modPort]
      exact ⟨s.modPort_sameBut seg _, hn, hn', hdue, hfirst, trivial, trivial, hsending, trivial⟩
  · have hnext := (PortState.nextDue_none_iff hp hp').mpr hnone
    obtain ⟨hsame, hpointer, hexchange, hsent⟩ := State.opportunity_free hfree
    simp only [State.pollNext, hnext]
    exact ⟨hsame, hpointer, hexchange.trans hidle, hsent⟩

/-! #### FRAME_SENT and the monitor queue -/

theorem State.attempt_still (s : State) (a : Attempt) : (s.attempt a).link.still = s.link.still := by
  cases a <;> simp [State.attempt]

theorem State.attempts_still (s : State) (l : List Attempt) :
    (l.foldl State.attempt s).link.still = s.link.still := by
  induction l generalizing s with
  | nil => rfl
  | cons a l ih => exact (ih _).trans (s.attempt_still a)

theorem State.attempts_grows (s : State) (l : List Attempt) : s.grows (l.foldl State.attempt s) := by
  induction l generalizing s with
  | nil => exact s.grows_refl
  | cons a l ih =>
    refine State.grows_trans ?_ (ih _)
    cases a with
    | drain => exact s.drain_grows
    | view => exact s.tryView_grows .console
    | advice => exact s.tryAdvice_grows

/-- The attempts at a departure add to the transmit queues, and change nothing else of the link. -/
theorem State.departed_front (s : State) :
    ∃ l, (s.departed .front).link.front = { s.link.front with queue := s.link.front.queue ++ l }
      ∧ (s.departed .front).link.monitor = s.link.monitor
      ∧ (s.departed .front).link.turn = s.link.turn := by
  let s' := { s with free := s.free + 1 }
  have hlink := State.link_of_still
    (s'.attempts_still (attemptOrder (Config.departureOrder s.free % 6)))
  obtain ⟨l, hl⟩ := (s'.attempts_grows (attemptOrder (Config.departureOrder s.free % 6))).1
  refine ⟨l, ?_⟩
  unfold State.departed
  simp only [s'] at hlink hl
  rw [hlink, hl]
  exact ⟨rfl, rfl, rfl⟩

theorem State.tryView_of_unmarked {s : State} {d : ViewDest} (h : (s.viewState d).mark = false) :
    s.tryView d = s := by
  simp [State.tryView, h]

/-- Settles O15: the branches of FRAME_SENT, and an AUDIO frame at the monitor queue by its length. -/
theorem sentFramesLeaveTheirQueues : Obligations.SentFramesLeaveTheirQueues := by
  intro s f
  refine ⟨fun hmode hsending => ⟨_, rfl, ?_⟩, fun hmode hsending hmark => ⟨_, rfl, ?_⟩,
    fun hmode hsending => ?_, fun l => ?_⟩
  · simp only [State.frameSent, State.port, hsending, State.removeSent, State.turnAfter, State.modPort,
      PortState.nextEcho, hmode]
    refine ⟨fun p hp => ?_, rfl, rfl, rfl, rfl⟩
    cases p <;> simp_all [Part.same]
  · simp only [State.frameSent, State.port, hsending, State.removeSent, State.turnAfter, State.modPort,
      PortState.nextEcho, hmode, and_self, if_true, State.departed]
    rw [State.tryView_of_unmarked]
    · refine ⟨fun p hp => ?_, rfl, rfl⟩
      cases p <;> simp_all [Part.same]
    · exact hmark
  · simp only [exec, execFrameSent, State.frameSent, State.port, hsending, State.removeSent,
      State.turnAfter, State.modPort, PortState.nextEcho, hmode, and_self, if_true,
      Host.Outcome.next.injEq]
    obtain ⟨l, hfront, hmonitor, hturn⟩ := State.departed_front _
    exact ⟨_, l, rfl, hturn, by rw [hfront], by rw [hfront], hmonitor⟩
  · unfold Link.audio
    split <;> exact ⟨rfl, rfl⟩

end Sys2Proof.Machine
end

section
/-! ### The end of a poll exchange (R7, R8) -/

namespace Sys2Proof.Machine

open Sys2Proof

theorem modify_eq_set {α : Type} {l : List α} {i : Nat} {e : α} (f : α → α) (h : l[i]? = some e) :
    l.modify i f = l.set i (f e) := by
  obtain ⟨hi, rfl⟩ := List.getElem?_eq_some_iff.mp h
  rw [List.modify_eq_set_getElem?]
  simp [h]

theorem set_getElem_self {α : Type} {l : List α} {i : Nat} {e : α} (h : l[i]? = some e) :
    l.set i e = l := by
  obtain ⟨hi, rfl⟩ := List.getElem?_eq_some_iff.mp h
  simp

/-- A change of a node's row, whose entry is known. -/
theorem State.modNode_of {s : State} {seg : Seg} {n : Nat} {e : NodeEntry} (f : NodeEntry → NodeEntry)
    (hn : 1 ≤ n) (he : (s.port seg).nodes[n - 1]? = some e) :
    s.modNode ⟨seg, n⟩ f = s.modPort seg fun p => { p with nodes := p.nodes.set (n - 1) (f e) } := by
  rw [State.modNode, if_neg (by simp; omega)]
  exact State.modPort_congr (by simp only [modify_eq_set f he])

theorem State.presence_of {s : State} {seg : Seg} {n : Nat} {e : NodeEntry} (hn : 1 ≤ n)
    (he : (s.port seg).nodes[n - 1]? = some e) : s.presence ⟨seg, n⟩ = e.presence := by
  rw [State.presence, if_neg (by simp; omega)]
  simp [he]

/-- The polled node's row is decided, a change between PRESENT and LOST is noticed, and the blocks follow. -/
theorem State.endExchange_of {s : State} {seg : Seg} {n : Nat} {b : Bool} {e : NodeEntry}
    (answered : Bool) (hn : 1 ≤ n) (hx : (s.port seg).exchange = some ⟨n, b⟩)
    (he : (s.port seg).nodes[n - 1]? = some e) :
    let e' := if answered then e.answered else e.missedPoll
    let v := s.modPort seg fun p => { p with exchange := none, nodes := p.nodes.set (n - 1) e' }
    s.endExchange seg answered =
      s.followPresence
        (if e.presence = .present ∧ e'.presence = .lost then v.offerNotice (.nodeLost ⟨seg, n⟩)
         else if e.presence = .lost ∧ e'.presence = .present then v.offerNotice (.nodeFound ⟨seg, n⟩)
         else v) := by
  intro e' v
  have hv : ((s.modPort seg fun p => { p with exchange := none }).modNode ⟨seg, n⟩ fun n =>
      if answered then n.answered else n.missedPoll) = v := by
    rw [State.modNode_of _ hn (by simpa using he), State.modPort_modPort]
  have hlt : n - 1 < (s.port seg).nodes.length := (List.getElem?_eq_some_iff.mp he).1
  have hpresence : v.presence ⟨seg, n⟩ = e'.presence :=
    State.presence_of hn (by simp [v, hlt])
  unfold State.endExchange
  simp only [hx, hv, hpresence, State.presence_of hn he]

/-- What an exchange's end leaves at the port, but for the transmit queue. -/
theorem State.endExchange_port {s : State} {seg : Seg} {n : Nat} {b : Bool} {e : NodeEntry}
    (answered : Bool) (hn : 1 ≤ n) (hx : (s.port seg).exchange = some ⟨n, b⟩)
    (he : (s.port seg).nodes[n - 1]? = some e) :
    ∃ q, (s.endExchange seg answered).port seg =
      { s.port seg with
        exchange := none
        nodes := (s.port seg).nodes.set (n - 1) (if answered then e.answered else e.missedPoll)
        queue := q } := by
  rw [State.endExchange_of answered hn hx he]
  generalize hv : s.modPort seg _ = v
  have hport := hv ▸ s.port_modPort seg _
  have hstill : (s.followPresence
      (if e.presence = .present ∧ (if answered then e.answered else e.missedPoll).presence = .lost then
        v.offerNotice (.nodeLost ⟨seg, n⟩)
      else if e.presence = .lost ∧ (if answered then e.answered else e.missedPoll).presence = .present
        then v.offerNotice (.nodeFound ⟨seg, n⟩)
      else v)).link.still = v.link.still := by
    rw [State.followPresence_still]
    (repeat' split) <;> simp
  exact ⟨_, (State.port_of_still hstill seg).trans (by rw [hport])⟩

theorem State.modPort_id (s : State) (seg : Seg) : s.modPort seg id = s := by
  cases seg <;> rfl

/-- After an exchange the port's mode or the frame it sends may change. -/
theorem State.afterExchange_eq_modPort (s : State) (seg : Seg) :
    ∃ f, s.afterExchange seg = s.modPort seg f
      ∧ ∀ p, (f p).exchange = p.exchange ∧ (f p).nodes = p.nodes := by
  have hnone : ∃ f, s = s.modPort seg f ∧ ∀ p, (f p).exchange = p.exchange ∧ (f p).nodes = p.nodes :=
    ⟨id, (s.modPort_id seg).symm, fun _ => ⟨rfl, rfl⟩⟩
  unfold State.afterExchange State.opportunity
  split
  · exact ⟨_, rfl, fun _ => ⟨rfl, rfl⟩⟩
  · simp only
    split
    · split
      · exact ⟨_, rfl, fun _ => ⟨rfl, rfl⟩⟩
      · exact hnone
    · exact hnone

theorem State.afterExchange_port (s : State) (seg : Seg) :
    ((s.afterExchange seg).port seg).exchange = (s.port seg).exchange
      ∧ ((s.afterExchange seg).port seg).nodes = (s.port seg).nodes
      ∧ s.sameBut [.link] (s.afterExchange seg) := by
  obtain ⟨f, hf, hkeep⟩ := s.afterExchange_eq_modPort seg
  rw [hf, State.port_modPort]
  exact ⟨(hkeep _).1, (hkeep _).2, s.modPort_sameBut seg f⟩

theorem NodeEntry.answered_of {e : NodeEntry} (h : e.presence ≠ .absent) :
    e.answered = ⟨.present, 0, false⟩ := by
  unfold NodeEntry.answered
  split
  · exact absurd ‹_› h
  · rfl

theorem NodeEntry.missedPoll_of {e : NodeEntry} (h : e.presence ≠ .absent) (hl : e.presence ≠ .lost) :
    e.missedPoll = if e.missed < 2 then { e with missed := e.missed + 1 } else ⟨.lost, 3, false⟩ := by
  unfold NodeEntry.missedPoll
  split
  · exact absurd ‹_› h
  · exact absurd ‹_› hl
  · by_cases hm : e.missed < 2
    · rw [if_neg (by omega), if_pos hm]
    · rw [if_pos (by omega), if_neg hm]

theorem NodeEntry.missedPoll_lost {e : NodeEntry} (h : e.presence = .lost) : e.missedPoll = e := by
  simp [NodeEntry.missedPoll, h]

/-- A miss of a LOST node ends the exchange and changes no node, so that nothing follows. -/
theorem State.endExchange_lost {s : State} {seg : Seg} {n : Nat} {b : Bool} {e : NodeEntry} (hn : 1 ≤ n)
    (hx : (s.port seg).exchange = some ⟨n, b⟩) (he : (s.port seg).nodes[n - 1]? = some e)
    (hlost : e.presence = .lost) :
    s.endExchange seg false = s.modPort seg fun p => { p with exchange := none } := by
  have hnodes : (s.modPort seg fun p => { p with exchange := none, nodes := p.nodes.set (n - 1) e }) =
      s.modPort seg fun p => { p with exchange := none } :=
    State.modPort_congr (by simp only [set_getElem_self he])
  rw [State.endExchange_of false hn hx he]
  simp only [NodeEntry.missedPoll_lost hlost, hlost, reduceCtorEq, false_and, and_false, if_false,
    Bool.false_eq_true, hnodes]
  refine State.followPresence_same (by simp) fun a => ?_
  obtain ⟨seg', m⟩ := a
  cases seg <;> cases seg' <;> rfl

/-- Settles O14: each clause is the end of an exchange with its row's entry decided. -/
theorem pollOutcomeMovesPresence : Obligations.PollOutcomeMovesPresence := by
  intro seg n e s hn hn' he hknown
  have hempty : ∀ b, (s.port seg).listens = true → (s.port seg).exchange = some ⟨n, b⟩ →
      exec (.pollReplyEmpty seg) s =
        .next (((s.modPort seg fun p => { p with rx := .waiting }).endExchange seg true).afterExchange
          seg) := fun b hlistens hx => by
    simp only [exec, execPollReplyEmpty, hlistens, hx, Option.isSome_some, Bool.and_self, if_true]
  have htimeout : (s.port seg).exchange = some ⟨n, false⟩ →
      exec (.pollReplyTimeout seg) s = .next ((s.endExchange seg false).afterExchange seg) := fun hx => by
    simp only [exec, execPollReplyTimeout, hx, State.missExchange, Option.isSome_some, if_true]
  refine ⟨fun hlistens ⟨b, hx⟩ => ⟨_, hempty b hlistens hx, ?_⟩, fun hx hlost => ⟨_, htimeout hx, ?_⟩,
    fun hlistens ⟨b, hx⟩ hlost => ⟨_, _, ?_, rfl, rfl⟩, fun hx hpresent hmissed => ⟨_, ?_, rfl⟩,
    fun hx hlost => ⟨_, htimeout hx, ?_⟩, fun hlost => ⟨_, rfl, ?_⟩⟩
  · obtain ⟨q, hport⟩ := State.endExchange_port (seg := seg) (b := b) (e := e) true hn
      (s := s.modPort seg fun p => { p with rx := .waiting }) (by simpa using hx) (by simpa using he)
    obtain ⟨hexchange, hnodes, -⟩ := State.afterExchange_port
      ((s.modPort seg fun p => { p with rx := .waiting }).endExchange seg true) seg
    rw [hexchange, hnodes, hport]
    exact ⟨rfl, by simp [NodeEntry.answered_of hknown]⟩
  · obtain ⟨q, hport⟩ := State.endExchange_port false hn hx he
    obtain ⟨hexchange, hnodes, -⟩ := State.afterExchange_port (s.endExchange seg false) seg
    rw [hexchange, hnodes, hport]
    exact ⟨rfl, by simp [NodeEntry.missedPoll_of hknown hlost]⟩
  · rw [hempty b hlistens hx, State.endExchange_of true hn (by simpa using hx) (by simpa using he)]
    simp [NodeEntry.answered_of hknown, hlost, State.modPort_modPort]
  · have hlost : e.missedPoll = ⟨.lost, 3, false⟩ := by
      rw [NodeEntry.missedPoll_of hknown (by simp [hpresent]), if_neg (by omega)]
    rw [htimeout hx, State.endExchange_of false hn hx he]
    simp [hpresent, hlost]
  · rw [State.endExchange_lost hn hx he hlost]
    obtain ⟨hexchange, hnodes, hsame⟩ := State.afterExchange_port
      (s.modPort seg fun p => { p with exchange := none }) seg
    rw [hexchange, hnodes]
    exact ⟨State.sameBut_trans (s.modPort_sameBut seg _) hsame, by simp, by simp⟩
  · rw [State.modNode_of _ hn he, if_pos hlost]
    exact ⟨s.modPort_sameBut seg _, by simp⟩

/-! #### A DATA frame in its sender's reply -/

theorem State.matching_congr {s t : State} (h : t.tables = s.tables) (x : Header) :
    t.matching x = s.matching x := by
  simp only [State.matching, State.entryMatches, State.selects, State.holder, h]

theorem State.exists_of_presence {s : State} {a : NodeAddr} (h : s.presence a = .present) :
    ∃ e, (s.port a.seg).nodes[a.num - 1]? = some e ∧ e.presence = .present := by
  unfold State.presence at h
  split at h
  · simp at h
  · cases he : (s.port a.seg).nodes[a.num - 1]? with
    | none => simp [he] at h
    | some e => exact ⟨e, rfl, by simpa [he] using h⟩

/-- An answer of a PRESENT node ends the exchange; its presence stands, so that nothing follows. -/
theorem State.endExchange_present {s : State} {seg : Seg} {n : Nat} {b : Bool} (hn : 1 ≤ n)
    (hx : (s.port seg).exchange = some ⟨n, b⟩) (hpresent : s.presence ⟨seg, n⟩ = .present) :
    s.endExchange seg true =
      s.modPort seg fun p =>
        { p with exchange := none, nodes := p.nodes.set (n - 1) ⟨.present, 0, false⟩ } := by
  obtain ⟨e, he, hpresence⟩ := State.exists_of_presence hpresent
  rw [State.endExchange_of true hn hx he]
  simp only [NodeEntry.answered_of (e := e) (by simp [hpresence]), hpresence, reduceCtorEq, false_and,
    and_false, if_true, if_false]
  refine State.followPresence_same (by simp) fun a => ?_
  obtain ⟨seg', m⟩ := a
  by_cases hseg : seg' = seg
  · subst hseg
    by_cases hm : m - 1 = n - 1
    · by_cases hzero : m = 0
      · simp [State.presence, hzero]
      · have hlt := (List.getElem?_eq_some_iff.mp he).1
        rw [State.presence_of (e := ⟨.present, 0, false⟩) (by omega) (by simp [hm, hlt]),
          State.presence_of (e := e) (by omega) (by rw [hm]; exact he), hpresence]
    · simp [State.presence, Ne.symm hm]
  · simp [State.presence, State.port_modPort_ne _ _ hseg]

theorem otherSeg_of_ne {a b : Seg} (h : b ≠ a) : otherSeg a = b := by
  cases a <;> cases b <;> simp_all [otherSeg]

/-- A PASS: the other port's queue takes the frame, or its overflow counter counts it (R15). -/
theorem State.pass_cases (s : State) {a b : Seg} (h : b ≠ a) (body : List Byte) :
    (s.accepts b = true →
      s.pass a body = s.modPort b fun p => { p with queue := p.queue ++ [.relay body] })
    ∧ (s.accepts b = false →
      s.pass a body = s.modPort b fun p => { p with overflow := satInc max16 p.overflow }) := by
  unfold State.pass State.offerFrame
  rw [otherSeg_of_ne h]
  exact ⟨fun hacc => by simp [hacc], fun hacc => by simp [hacc]⟩

/-- What follows an exchange leaves the rest of the link. -/
theorem State.afterExchange_link (s : State) (seg : Seg) :
    (s.afterExchange seg).link.hits = s.link.hits
      ∧ ∀ b, b ≠ seg → (s.afterExchange seg).port b = s.port b := by
  obtain ⟨f, hf, -⟩ := s.afterExchange_eq_modPort seg
  rw [hf]
  exact ⟨by cases seg <;> rfl, fun b hb => s.port_modPort_ne f hb⟩

@[simp] theorem State.modPort_hits (s : State) (seg : Seg) (f : PortState → PortState) :
    (s.modPort seg f).link.hits = s.link.hits := by
  cases seg <;> rfl

/-- A DATA frame for the other segment that a PASS takes. -/
theorem State.classify_pass {s : State} {src dst : NodeAddr} (body : List Byte)
    (deliver pay : State → State) {i : Nat} {e : FwdEntry} (hnum : 1 ≤ dst.num)
    (hseg : dst.seg ≠ src.seg) (hmatch : s.matching ⟨dst, src, .data⟩ = some (i, e))
    (hpass : e.action = .pass) :
    s.classify ⟨dst, src, .data⟩ body deliver pay =
      State.pass { s with link := { s.link with hits := s.link.hits.modify i (satInc max16) } } src.seg
        body := by
  have hnum' : dst.num ≠ 0 := by omega
  simp [State.classify, hnum', hseg, State.lookup, hmatch, hpass]

/-- A DATA frame of the polled node, received whole. -/
theorem receiveFrame_data {s : State} {src dst : NodeAddr} {payload : List Byte} {replying : Bool}
    (hlistens : (s.port src.seg).listens = true) (hmode : (s.port src.seg).mode = .normal)
    (hx : (s.port src.seg).exchange = some ⟨src.num, replying⟩) (hsrc : 1 ≤ src.num)
    (hsrc' : src.num ≤ 7) (hdst : dst.num ≤ 7) (hlength : payload.length ≤ 60) :
    let body := frameBody dst src .data payload
    let h : Header := ⟨dst, src, .data⟩
    s.receiveFrame src.seg body =
      ((((s.modPort src.seg fun p => { p with rx := .waiting }).endExchange src.seg true).classify h body
        (·.deliver h payload) (·.takePayment h payload)).afterExchange src.seg) := by
  intro body h
  have hcheck : checkFrame src.seg body = .valid h payload := by
    rw [checkFrame_frameBody dst src .data hlength,
      checkHeader_own hdst hsrc hsrc' hlength (by simp) (by simp)]
  have hshort : ¬ 66 < body.length := by
    simp only [body, frameBody, List.length_append, List.length_cons, List.length_nil]
    omega
  simp only [State.receiveFrame, if_pos hlistens, if_neg hshort, hcheck, State.port_modPort, hmode,
    State.takeReply, hx]
  simp [h]

/-- The sender's exchange and the hit counters stand through the pass, as the other port does through what
follows the exchange. -/
theorem State.passed_after {v : State} {a b : Seg} (h : b ≠ a) (f : PortState → PortState)
    (hx : (v.port a).exchange = none) :
    let t := (v.modPort b f).afterExchange a
    v.sameBut [.link] t ∧ t.link.hits = v.link.hits ∧ (t.port a).exchange = none
      ∧ t.port b = f (v.port b) := by
  intro t
  obtain ⟨hhits, hport⟩ := (v.modPort b f).afterExchange_link a
  obtain ⟨hexchange, -, hsame⟩ := (v.modPort b f).afterExchange_port a
  refine ⟨State.sameBut_trans (v.modPort_sameBut b f) hsame, hhits.trans (v.modPort_hits b f), ?_, ?_⟩
  · rw [hexchange, State.port_modPort_ne _ _ h.symm, hx]
  · rw [hport b h, State.port_modPort]

/-- Settles O11: the exchange ends with its node still PRESENT, the table's entry is counted, and the pass
offers the body to the other port. -/
theorem passedDataJoinsOtherQueue : Obligations.PassedDataJoinsOtherQueue := by
  intro s src dst payload replying i e hlistens hmode hx hsrc hsrc' hdst hdst' hseg hlength hpresent
    hmatch hpass
  set body := frameBody dst src .data payload with hbody
  have hended : (s.modPort src.seg fun p => { p with rx := .waiting }).endExchange src.seg true =
      s.modPort src.seg fun p =>
        { p with rx := .waiting, exchange := none, nodes := p.nodes.set (src.num - 1) ⟨.present, 0, false⟩ } := by
    rw [State.endExchange_present hsrc (by simpa using hx) (by simpa [State.presence] using hpresent),
      State.modPort_modPort]
  set u := s.modPort src.seg fun p =>
    { p with rx := .waiting, exchange := none, nodes := p.nodes.set (src.num - 1) ⟨.present, 0, false⟩ }
    with hu
  set v : State := { u with link := { u.link with hits := u.link.hits.modify i (satInc max16) } } with hv
  have hreceived : s.receiveFrame src.seg body = (v.pass src.seg body).afterExchange src.seg := by
    rw [hbody, receiveFrame_data hlistens hmode hx hsrc hsrc' hdst' hlength, hended,
      State.classify_pass _ _ _ hdst hseg _ hpass]
    rw [State.matching_congr (s := s) (t := u) (by simp [hu]), hmatch]
  refine ⟨_, rfl, rfl, ?_⟩
  rw [hreceived]
  have hvu : ∀ seg, v.port seg = u.port seg := fun seg => by cases seg <;> rfl
  have hvport : v.port dst.seg = s.port dst.seg := by rw [hvu, hu, State.port_modPort_ne _ _ hseg]
  have hvsrc : (v.port src.seg).exchange = none := by rw [hvu, hu, State.port_modPort]
  have hvsame : s.sameBut [.link] v := by
    have husame := s.modPort_keeps src.seg
    intro p hp
    cases p <;> simp_all [Part.same]
  have hvhits : v.link.hits = s.link.hits.modify i (satInc max16) := by simp [hv, hu]
  have haccepts : v.accepts dst.seg = s.accepts dst.seg := by simp only [State.accepts, hvport]
  obtain ⟨hroom, hfull⟩ := v.pass_cases hseg body
  have hafter := fun f : PortState → PortState =>
    State.passed_after (v := v) hseg f hvsrc
  cases hacc : s.accepts dst.seg with
  | true =>
    rw [hroom (haccepts.trans hacc)]
    obtain ⟨hsame, hhits, hexchange, hport⟩ := hafter _
    rw [hhits, hport, hvport, hvhits]
    exact ⟨State.sameBut_trans hvsame hsame, rfl, hexchange, fun _ => ⟨rfl, rfl⟩, by simp⟩
  | false =>
    rw [hfull (haccepts.trans hacc)]
    obtain ⟨hsame, hhits, hexchange, hport⟩ := hafter _
    rw [hhits, hport, hvport, hvhits]
    exact ⟨State.sameBut_trans hvsame hsame, rfl, hexchange, by simp, fun _ => ⟨rfl, rfl⟩⟩

end Sys2Proof.Machine
end

section
/-! ### Management requests: the checks of R25 and direct writes -/

namespace Sys2Proof.Machine

open Sys2Proof

section
variable {s : State} {rq : Req}

/-- A management request of a configured front node reaches the rule of its operation. -/
theorem State.whenMgmt_of_configured (k : State → State) (hreceives : s.receives .front = true)
    (hseg : rq.src.seg = .front) (hconfigured : s.configured rq.src = true) :
    s.whenMgmt rq k = k s := by
  simp [State.whenMgmt, State.checkMgmtSender, hseg, hreceives, hconfigured]

theorem State.whenAllowed_unauthorised {op : OpName} (t : Target) (object : Bool) (k : State → State)
    (h : authorised op (s.roleEntry rq.src) = false) :
    s.whenAllowed rq op t object k = s.mgmtRespond rq op t .notAuthorised := by
  simp [State.whenAllowed, h]

theorem State.whenAllowed_badObject {op : OpName} (t : Target) (k : State → State)
    (h : authorised op (s.roleEntry rq.src) = true) :
    s.whenAllowed rq op t false k = s.mgmtRespond rq op t .badObject := by
  simp [State.whenAllowed, h]

end

theorem patternPlace_patternAt {i : Nat} (h : within 7 11 i = true) : 7 + patternPlace (patternAt i) = i := by
  simp only [within, decide_eq_true_eq] at h
  obtain ⟨hlow, hhigh⟩ := h
  interval_cases i <;> rfl

section
variable {s : State} {rq : Req}

theorem State.decideNoticeClassWrite_unauthorised (i : NoticeIndex) (d : Option ClassRoute)
    (h : authorised .write (s.roleEntry rq.src) = false) :
    s.decideNoticeClassWrite rq i d = s.mgmtRespond rq .write (.noticeClass i) .notAuthorised := by
  cases i <;> simp only [State.decideNoticeClassWrite, State.whenAllowed_unauthorised _ _ _ h]

/-- A WRITE without authority is refused whatever object it names. -/
theorem State.decideWrite_unauthorised (t : Target)
    (h : authorised .write (s.roleEntry rq.src) = false) :
    s.decideWrite rq t = s.mgmtRespond rq .write t .notAuthorised := by
  have hrefused := fun t object k => State.whenAllowed_unauthorised (rq := rq) t object k h
  cases t with
  | signTable i =>
    simp only [State.decideWrite, State.decideBrightnessWrite, State.decideSignPatternWrite,
      State.decideSignChannelWrite, hrefused]
    split
    · rename_i hzero
      rw [hzero]
    · split
      · rename_i hwithin
        rw [patternPlace_patternAt hwithin]
      · rfl
  | noticeClass i => exact State.decideNoticeClassWrite_unauthorised i none h
  | _ =>
    simp only [State.decideWrite, State.decideForwardingWrite, State.decideRolesWrite,
      State.decidePromptsWrite, State.decidePromptMapWrite, State.decideIntercomSetWrite,
      State.decidePayLimitsWrite, State.decidePowerSetWrite, hrefused]

/-- A WRITE of an object that is no direct table. -/
theorem State.decideWrite_badObject {t : Target}
    (h : authorised .write (s.roleEntry rq.src) = true) (ht : isDirect t = false) :
    s.decideWrite rq t = s.mgmtRespond rq .write t .badObject := by
  cases t <;> simp_all [isDirect, State.decideWrite, State.whenAllowed_badObject]

/-- Every management command hands its request to a rule that first tests the authority. -/
theorem exec_mgmtRow_unauthorised {c : Instr} {op : OpName} {t : Target}
    (hrow : mgmtRow c = some (rq, op, t)) (hreceives : s.receives .front = true)
    (hseg : rq.src.seg = .front) (hconfigured : s.configured rq.src = true)
    (h : authorised op (s.roleEntry rq.src) = false) :
    exec c s = .next (s.mgmtRespond rq op t .notAuthorised) := by
  have hopen := fun k => State.whenMgmt_of_configured (rq := rq) k hreceives hseg hconfigured
  have hrefused := fun object k => State.whenAllowed_unauthorised (rq := rq) t object k h
  have hdecided : ∀ {k : State → State}, k s = s.mgmtRespond rq op t .notAuthorised →
      s.whenMgmt rq k = s.mgmtRespond rq op t .notAuthorised := fun hk => (hopen _).trans hk
  cases c
  case write rq' t' =>
    simp only [mgmtRow, Option.some.injEq, Prod.mk.injEq] at hrow
    obtain ⟨rfl, rfl, rfl⟩ := hrow
    exact congrArg Host.Outcome.next (hdecided (State.decideWrite_unauthorised _ h))
  case noticeClassWrite rq' i d =>
    simp only [mgmtRow, Option.some.injEq, Prod.mk.injEq] at hrow
    obtain ⟨rfl, rfl, rfl⟩ := hrow
    refine congrArg Host.Outcome.next (hdecided ?_)
    exact State.decideNoticeClassWrite_unauthorised i d h
  all_goals
    simp only [mgmtRow, reduceCtorEq, Option.some.injEq, Prod.mk.injEq] at hrow
  all_goals
    obtain ⟨rfl, rfl, rfl⟩ := hrow
    refine congrArg Host.Outcome.next (hdecided ?_)
    simp only [State.decideForwardingWrite, State.decideRolesWrite,
    State.decideBrightnessWrite, State.decideSignPatternWrite, State.decideSignChannelWrite,
    State.decidePromptsWrite, State.decidePromptMapWrite, State.decideIntercomSetWrite,
    State.decidePayLimitsWrite, State.decidePowerSetWrite,
    State.decideLoopback, State.decideRead, State.decideOpenLoad, State.decideWritePart,
    State.decideCommit, State.decideAbortLoad, State.decideSetTime, State.decideSignTest,
    State.decideClearLamp, State.decideEmergencyClear, State.decideSpeakerTest, State.decideAckTrips,
    State.decideRestart, hrefused]

/-- A command whose meaning is a management answer. -/
theorem answered_of_eq {c : Instr} {op : OpName} {t : Target} {r : MgmtResult} {d : RespData}
    (h : exec c s = .next (s.mgmtRespond rq op t r d)) (hreceives : s.receives .front = true)
    (hseg : rq.src.seg = .front) :
    ∃ u, exec c s = .next u ∧ s.sameBut [.link] u ∧ s.frontTook u (mgmtAnswer rq op t r d) :=
  ⟨_, h, State.answer_mgmtRespond hseg (State.running_of_receives hreceives) op t r d⟩

end

section
variable {s : State} {rq : Req}

theorem State.decideOpenLoad_badObject {t : Target} (h : authorised .openLoad (s.roleEntry rq.src) = true)
    (ht : loadTarget t = none) : s.decideOpenLoad rq t = s.mgmtRespond rq .openLoad t .badObject := by
  rw [State.decideOpenLoad, ht, Option.isSome_none, State.whenAllowed_badObject t _ h]

theorem State.decideWritePart_badObject {t : Target} (d : PartData)
    (h : authorised .writePart (s.roleEntry rq.src) = true) (ht : partInRange t = false) :
    s.decideWritePart rq t d = s.mgmtRespond rq .writePart t .badObject := by
  unfold State.decideWritePart
  rw [ht, State.whenAllowed_badObject t _ h]

theorem State.decideCommit_badObject {t : Target} (h : authorised .commit (s.roleEntry rq.src) = true)
    (ht : loadTarget t = none) : s.decideCommit rq t = s.mgmtRespond rq .commit t .badObject := by
  rw [State.decideCommit, ht, Option.isSome_none, State.whenAllowed_badObject t _ h]

theorem State.decideAbortLoad_badObject {t : Target}
    (h : authorised .abortLoad (s.roleEntry rq.src) = true) (ht : loadTarget t = none) :
    s.decideAbortLoad rq t = s.mgmtRespond rq .abortLoad t .badObject := by
  rw [State.decideAbortLoad, ht, Option.isSome_none, State.whenAllowed_badObject t _ h]

theorem State.decideRead_badObject {t : Target} (sel : ReadSel)
    (h : authorised .read (s.roleEntry rq.src) = true) (ht : indexInRange t = false) :
    s.decideRead rq t sel = s.mgmtRespond rq .read t .badObject := by
  rw [State.decideRead, ht, State.whenAllowed_badObject t _ h]

/-- A READ in range answers what the object's owner gives. -/
theorem exec_read {t : Target} {sel : ReadSel} (h : s.fromMgmt .read rq) (ht : indexInRange t = true) :
    ∃ u, exec (.read rq t sel) s = .next u ∧ s.sameBut [.link] u
      ∧ s.frontTook u
        (match s.readTarget t sel with
         | .data d => mgmtAnswer rq .read t .ok (.read d)
         | .refused r => mgmtAnswer rq .read t r) := by
  have hread : exec (.read rq t sel) s = .next (s.decideRead rq t sel) :=
    congrArg Host.Outcome.next (State.whenMgmt_of _ h)
  rw [State.decideRead, ht, State.whenAllowed_of _ _ h.2.2] at hread
  cases htarget : s.readTarget t sel <;> rw [htarget] at hread <;> exact answered_of_eq hread h.1 h.2.1

theorem partInRange_of {t : Target}
    (h : loadTarget t = none ∨ ∃ p, t = .tariffSet p ∧ 60 < p ∨ t = .calibration p ∧ p ≠ 0) :
    partInRange t = false := by
  rcases h with ht | ⟨p, ⟨rfl, hp⟩ | ⟨rfl, hp⟩⟩
  · cases t <;> simp_all [loadTarget, partInRange]
  · simpa [partInRange] using hp
  · simpa [partInRange] using hp

end

/-- Settles O17: a READ by its decision, the authority by `exec_mgmtRow_unauthorised`, and the object check
of each operation. -/
theorem requestsAreChecked : Obligations.RequestsAreChecked := by
  have hanswer : ∀ {c : Instr} {s : State} {rq : Req} {op : OpName} {t : Target} {u : State},
      s.fromMgmt op rq → exec c s = .next u → u = s.mgmtRespond rq op t .badObject →
      ∃ u, exec c s = .next u ∧ s.sameBut [.link] u ∧ s.frontTook u (mgmtAnswer rq op t .badObject) :=
    fun h hexec hu => answered_of_eq (hexec.trans (congrArg _ hu)) h.1 h.2.1
  refine ⟨fun rq t sel s h hindex => exec_read h hindex,
    fun c rq op t s hrow hreceives hseg hconfigured hauth =>
      answered_of_eq (exec_mgmtRow_unauthorised hrow hreceives hseg hconfigured hauth) hreceives hseg,
    fun rq t s h ht => ?_, fun rq t s h ht => ?_, fun rq t d s h ht => ?_, fun rq t s h ht => ?_,
    fun rq t s h ht => ?_, fun rq t sel s h ht => ?_⟩
  · exact hanswer h rfl ((State.whenMgmt_of _ h).trans (State.decideWrite_badObject h.2.2 ht))
  · exact hanswer h rfl ((State.whenMgmt_of _ h).trans (State.decideOpenLoad_badObject h.2.2 ht))
  · exact hanswer h rfl
      ((State.whenMgmt_of _ h).trans (State.decideWritePart_badObject d h.2.2 (partInRange_of ht)))
  · exact hanswer h rfl ((State.whenMgmt_of _ h).trans (State.decideCommit_badObject h.2.2 ht))
  · exact hanswer h rfl ((State.whenMgmt_of _ h).trans (State.decideAbortLoad_badObject h.2.2 ht))
  · exact hanswer h rfl ((State.whenMgmt_of _ h).trans (State.decideRead_badObject sel h.2.2 ht))

/-! #### Direct writes -/

/-- A WRITE of a management node is what its decision makes of it. -/
theorem exec_write_of {c : Instr} {s u : State} {rq : Req} {k : State → State} (h : s.fromMgmt .write rq)
    (hexec : exec c s = .next (s.whenMgmt rq k)) (hk : k s = u) : exec c s = .next u :=
  hexec.trans (congrArg Host.Outcome.next ((State.whenMgmt_of k h).trans hk))

theorem powerValid_of {p : PowerSettings} (hlow : 700 ≤ p.low) (hlow' : p.low ≤ 1400)
    (hrestore : p.low + 20 ≤ p.restore) (hrestore' : p.restore ≤ 1600) (hpark : 5 ≤ p.parkDelay)
    (hpark' : p.parkDelay ≤ 600) (hlimit : p.shiftLimit ≤ 960) : powerValid p = true := by
  simp [powerValid, within, *]

theorem classAllowed_of {k : NoticeKind} {c : ClassRoute}
    (h : (k = .emergencyOn ∨ k = .emergencyOff) → c.route = .modem) : classAllowed k c = true := by
  cases k <;> simp_all [classAllowed]

/-- Settles O18: each owner's check passes, and `replaceEntry` does the rest. -/
theorem tableWritesApplyAtOnce : Obligations.TableWritesApplyAtOnce := by
  intro rq s h
  have hauth := h.2.2
  refine ⟨fun i e hi hvalid => exec_write_of h rfl ?_, fun i hi => exec_write_of h rfl ?_,
    fun i n hi hn => exec_write_of h rfl ?_, fun l hvalid => exec_write_of h rfl ?_,
    fun p hlow hlow' hrestore hrestore' hpark hpark' hlimit => exec_write_of h rfl ?_,
    fun k c hc => exec_write_of h rfl ?_, fun i f e hi hf => exec_write_of h rfl ?_,
    fun x hvalid => ⟨{ s with
      tables := { s.tables with intercom := x }, intercom := s.intercom.aim x
      writes := s.writes ++ [.table (.intercom x) rq (.intercomSet 0)] }, exec_write_of h rfl ?_,
      fun p hp => by cases p <;> simp_all [Part.same], rfl, rfl, rfl⟩⟩
  · simp [State.decidePromptsWrite, State.whenAllowed, hauth, hi, resolvePrompt, hvalid,
      State.replaceEntry, State.begin, Tables.setEntry]
  · simp [State.decidePromptsWrite, State.whenAllowed, hauth, hi, resolvePrompt, State.replaceEntry,
      State.begin, Tables.setEntry]
  · simp [State.decidePromptMapWrite, State.whenAllowed, hauth, hi, hn, resolveMap, State.replaceEntry,
      State.begin, Tables.setEntry]
  · simp [State.decidePayLimitsWrite, State.whenAllowed, hauth, hvalid, State.replaceEntry, State.begin,
      Tables.setEntry]
  · have hvalid := powerValid_of hlow hlow' hrestore hrestore' hpark hpark' hlimit
    simp [State.decidePowerSetWrite, State.whenAllowed, hauth, hvalid, State.replaceEntry, State.begin,
      Tables.setEntry]
  · simp [State.decideNoticeClassWrite, State.whenAllowed, hauth, classAllowed_of hc,
      State.replaceEntry, State.begin, Tables.setEntry]
  · simp [State.decideForwardingWrite, State.whenAllowed, hauth, hi, hf, State.replaceEntry, State.begin,
      Tables.setEntry]
  · simp [State.decideIntercomSetWrite, State.whenAllowed, hauth, hvalid, State.replaceEntry,
      State.begin, Tables.setEntry, State.withIntercom]

end Sys2Proof.Machine
end

section
/-! ### Completed writes (R36) and metrology loads (2.3) -/

namespace Sys2Proof.Machine

open Sys2Proof

/-- An answer after a change that leaves the link alone. -/
theorem State.sameBut_answer {l : List Part} {s u t : State} (hu : s.sameBut l u)
    (h : u.sameBut [.link] t) : s.sameBut (.link :: l) t := by
  intro p hp
  obtain ⟨hlink, hl⟩ := not_or.mp (mt List.mem_cons.mpr hp)
  have h₁ := hu p hl
  have h₂ := h p (by simpa using hlink)
  cases p <;> exact Eq.trans h₂ h₁

theorem State.completeWrite_of {s : State} {w : StoreWrite} (h : w.report? = none) :
    s.completeWrite w = { s with store := s.store.apply w } := by
  simp [State.completeWrite, h]

/-- The head of the waiting writes completes; no report waits for it. -/
theorem State.takeWrite_head {s : State} {w : StoreWrite} {rest : List StoreWrite}
    (kind : StoreWrite → Bool) (h : s.writes = w :: rest) (hs : s.silent w = false)
    (hk : kind w = true) (hreport : w.report? = none) :
    s.takeWrite kind = some (w, { s with store := s.store.apply w, writes := rest }) := by
  rw [State.takeWrite_cons kind h hs hk, State.completeWrite_of hreport]

/-- What a completed write that is answered leaves. -/
theorem State.answered_write {s : State} {rq : Req} (hseg : rq.src.seg = .front)
    (hrun : s.link.front.running = true) (st : Store) (rest : List StoreWrite) (op : OpName) (t : Target)
    (r : MgmtResult) (d : RespData) :
    let u := State.mgmtRespond { s with store := st, writes := rest } rq op t r d
    s.sameBut [.link, .store, .writes] u ∧ u.store = st ∧ u.writes = rest
      ∧ s.frontTook u (mgmtAnswer rq op t r d) := by
  intro u
  obtain ⟨hsame, htook⟩ := State.answer_mgmtRespond (s := { s with store := st, writes := rest }) hseg
    hrun op t r d
  have hstored : s.sameBut [.store, .writes] { s with store := st, writes := rest } :=
    fun p hp => by cases p <;> simp_all [Part.same]
  exact ⟨State.sameBut_answer hstored hsame, hsame .store (by simp), hsame .writes (by simp), htook⟩

/-- A console answer changes nothing but the front transmit queue, which takes it. -/
theorem State.answer_consoleRespond {s : State} {rq : Req} (hconsole : s.holder .console = some rq.src)
    (hrun : s.link.front.running = true) (n : ConsoleName) (r : ConsoleResult) (d : ConsoleData) :
    s.sameBut [.link] (s.consoleRespond rq n r d)
      ∧ s.frontTook (s.consoleRespond rq n r d) (consoleAnswer rq n r d) := by
  rw [State.consoleRespond_front n r d hconsole hrun]
  refine ⟨fun p hp => ?_, rfl⟩
  cases p <;> simp_all [Part.same]

theorem State.answered_consoleWrite {s : State} {rq : Req} (hconsole : s.holder .console = some rq.src)
    (hrun : s.link.front.running = true) (st : Store) (rest : List StoreWrite) (n : ConsoleName)
    (r : ConsoleResult) (d : ConsoleData) :
    let u := State.consoleRespond { s with store := st, writes := rest } rq n r d
    s.sameBut [.link, .store, .writes] u ∧ u.store.shift = st.shift
      ∧ u.store.lastNumber = st.lastNumber ∧ u.writes = rest
      ∧ s.frontTook u (consoleAnswer rq n r d) := by
  intro u
  obtain ⟨hsame, htook⟩ := State.answer_consoleRespond (s := { s with store := st, writes := rest })
    hconsole hrun n r d
  have hstored : s.sameBut [.store, .writes] { s with store := st, writes := rest } :=
    fun p hp => by cases p <;> simp_all [Part.same]
  have hstore : u.store = st := hsame .store (by simp)
  exact ⟨State.sameBut_answer hstored hsame, by rw [hstore], by rw [hstore],
    hsame .writes (by simp), htook⟩

/-- Settles O20: the head of the waiting writes completes and its request is answered. -/
theorem completedWritesAreAnswered : Obligations.CompletedWritesAreAnswered := by
  intro s rest rq hpowered hrun hseg
  refine ⟨fun e t hw => ?_, fun c t hw => ?_, fun n k hw => ?_, fun c n hw hreport hconsole => ?_⟩
  · refine ⟨_, congrArg Host.Outcome.next ((State.whenPowered_of _ hpowered).trans ?_),
      State.answered_write hseg hrun _ rest .write t .ok .none⟩
    rw [State.takeWrite_head _ hw rfl rfl rfl]
    rfl
  · refine ⟨_, congrArg Host.Outcome.next ((State.whenPowered_of _ hpowered).trans ?_),
      State.answered_write hseg hrun _ rest .commit t .pending .none⟩
    rw [State.takeWrite_head _ hw rfl rfl rfl]
    rfl
  · refine ⟨_, congrArg Host.Outcome.next ((State.whenPowered_of _ hpowered).trans ?_),
      State.answered_write hseg hrun _ rest .ackTrips .none .ok (.trips n k)⟩
    rw [State.takeWrite_head _ hw rfl rfl rfl]
    rfl
  · have hnone : (StoreWrite.shiftOpen c rq n).report? = none := by
      simp [StoreWrite.report?, StoreWrite.carry?, hreport]
    refine ⟨_, congrArg Host.Outcome.next ((State.whenPowered_of _ hpowered).trans ?_),
      State.answered_consoleWrite hconsole hrun (s.store.carried c) rest .shiftOpen .accepted (.shift n)⟩
    rw [State.takeWrite_head _ hw rfl rfl hnone]
    rfl

end Sys2Proof.Machine
end

section
/-! ### Metrology loads (2.3) -/

namespace Sys2Proof.Machine

open Sys2Proof

section
variable {s : State} {rq : Req} {op : OpName} {t : Target}

/-- A management command is what its decision makes of it. -/
theorem exec_mgmt_of {c : Instr} {u : State} {k : State → State} (h : s.fromMgmt op rq)
    (hexec : exec c s = .next (s.whenMgmt rq k)) (hk : k s = u) : exec c s = .next u :=
  hexec.trans (congrArg Host.Outcome.next ((State.whenMgmt_of k h).trans hk))

/-- A management answer after a change that leaves the link alone. -/
theorem answered_after {c : Instr} {l : List Part} {u : State} {r : MgmtResult} {d : RespData}
    (h : s.fromMgmt op rq) (hexec : exec c s = .next (u.mgmtRespond rq op t r d)) (hu : s.sameBut l u)
    (hlink : u.link = s.link) :
    ∃ v, exec c s = .next v ∧ s.sameBut (.link :: l) v ∧ u.sameBut [.link] v
      ∧ s.frontTook v (mgmtAnswer rq op t r d) := by
  have hrun : u.link.front.running = true := hlink ▸ State.front_running_of_fromMgmt h
  obtain ⟨hsame, htook⟩ := State.answer_mgmtRespond h.2.1 hrun op t r d
  refine ⟨_, hexec, State.sameBut_answer hu hsame, hsame, ?_⟩
  simpa only [State.frontTook, hlink] using htook

/-- A management answer after a change of the load window or the slot only. -/
theorem answered_mgmt {c : Instr} {m : Management} {r : MgmtResult} {d : RespData} (h : s.fromMgmt op rq)
    (hexec : exec c s = .next (State.mgmtRespond { s with mgmt := m } rq op t r d)) :
    ∃ v, exec c s = .next v ∧ s.sameBut [.link, .mgmt] v ∧ v.mgmt = m
      ∧ s.frontTook v (mgmtAnswer rq op t r d) := by
  have hsame : s.sameBut [.mgmt] { s with mgmt := m } := fun p hp => by
    cases p <;> simp_all [Part.same]
  obtain ⟨v, hv, hbut, hkeeps, htook⟩ := answered_after h hexec hsame rfl
  exact ⟨v, hv, hbut, hkeeps .mgmt (by simp), htook⟩

end

section
variable {s : State} {rq : Req} {t : Target} {tariff : Bool}

theorem State.decideOpenLoad_of (h : s.fromMgmt .openLoad rq) (ht : loadTarget t = some tariff) :
    s.decideOpenLoad rq t =
      if s.pins.metrologyOpen = false then s.mgmtRespond rq .openLoad t .locked
      else if s.mgmt.window.isSome then s.mgmtRespond rq .openLoad t .busy
      else if s.mgmt.slot.holds tariff then s.mgmtRespond rq .openLoad t .refusedState
      else
        State.mgmtRespond
          { s with
            mgmt := { s.mgmt with window := some ⟨s.mgmt.metrology.copy tariff, rq.src, 120⟩ } }
          rq .openLoad t .ok := by
  rw [State.decideOpenLoad, ht, Option.isSome_some, State.whenAllowed_of _ _ h.2.2]
  rfl

/-- Settles O21: the tests of R29 in their order. -/
theorem openLoadDecided : Obligations.OpenLoadDecided := by
  intro rq t tariff s h ht
  have hexec := exec_mgmt_of (c := .openLoad rq t) h rfl (State.decideOpenLoad_of h ht)
  have hrefused : ∀ r, exec (.openLoad rq t) s = .next (s.mgmtRespond rq .openLoad t r) →
      ∃ u, exec (.openLoad rq t) s = .next u ∧ s.sameBut [.link, .mgmt] u ∧ u.mgmt = s.mgmt
        ∧ s.frontTook u (mgmtAnswer rq .openLoad t r) := fun r h' => answered_mgmt h h'
  by_cases hpin : s.pins.metrologyOpen = false
  · simp only [hpin, if_true] at hexec ⊢
    obtain ⟨u, hu, hsame, hmgmt, htook⟩ := hrefused _ hexec
    exact ⟨u, _, hu, hsame, htook, rfl, hmgmt⟩
  simp only [hpin] at hexec ⊢
  by_cases hwindow : s.mgmt.window = none
  case neg =>
    rw [if_pos (Option.isSome_iff_ne_none.mpr hwindow)] at hexec
    obtain ⟨u, hu, hsame, hmgmt, htook⟩ := hrefused _ hexec
    exact ⟨u, _, hu, hsame, htook, by rw [if_pos hwindow]; exact ⟨rfl, hmgmt⟩⟩
  simp only [hwindow, Option.isSome_none, ne_eq, not_true_eq_false, Bool.false_eq_true, if_false]
    at hexec ⊢
  by_cases hslot : s.mgmt.slot.holds tariff = true
  · rw [if_pos hslot] at hexec
    obtain ⟨u, hu, hsame, hmgmt, htook⟩ := hrefused _ hexec
    exact ⟨u, _, hu, hsame, htook, Eq.mpr (if_neg (by decide)) (Eq.mpr (if_pos hslot) ⟨rfl, hmgmt⟩)⟩
  · rw [if_neg hslot] at hexec
    obtain ⟨u, hu, hsame, hmgmt, htook⟩ := answered_mgmt h hexec
    exact ⟨u, _, hu, hsame, htook, Eq.mpr (if_neg (by decide)) (Eq.mpr (if_neg hslot) ⟨rfl, hmgmt⟩)⟩

end

/-! #### The load window -/

section
variable {s : State} {rq : Req} {t : Target} {tariff : Bool} {w : LoadWindow}

theorem State.windowOf_of (hw : s.mgmt.window = some w) (ht : w.staging.isTariff = tariff) :
    s.windowOf tariff = some w := by
  simp [State.windowOf, hw, ht]

theorem State.windowOf_none (h : ∀ w, s.mgmt.window = some w → w.staging.isTariff ≠ tariff) :
    s.windowOf tariff = none := by
  simpa [State.windowOf, Option.filter_eq_none_iff] using h

/-- The part index a WRITE_PART names. -/
def targetPart : Target → Nat
  | .tariffSet p => p
  | _ => 0

/-- What a WRITE_PART with authority makes of the window of its object (R30). -/
def State.writePartAt (s : State) (rq : Req) (t : Target) (d : PartData) : Option LoadWindow → State
  | none => s.mgmtRespond rq .writePart t .refusedState
  | some w =>
    if w.holder ≠ rq.src then s.mgmtRespond rq .writePart t .busy
    else if s.pins.metrologyOpen = false then s.closeLoad.mgmtRespond rq .writePart t .locked
    else
      match w.staging.setPart (targetPart t) d with
      | none => s.mgmtRespond rq .writePart t .badValue
      | some st =>
        State.mgmtRespond
          { s with mgmt := { s.mgmt with window := some { w with staging := st, idle := 120 } } }
          rq .writePart t .ok

theorem State.decideWritePart_of {d : PartData} (h : s.fromMgmt .writePart rq)
    (ht : loadTarget t = some tariff) (hp : partInRange t = true) :
    s.decideWritePart rq t d = s.writePartAt rq t d (s.windowOf tariff) := by
  unfold State.decideWritePart
  rw [hp, State.whenAllowed_of _ _ h.2.2, ht]
  simp only [Option.getD_some]
  cases s.windowOf tariff <;> rfl

/-- What an ABORT_LOAD with authority does (R31). -/
def State.abortLoadAt (s : State) (rq : Req) (t : Target) (tariff : Bool) : State :=
  if (s.windowOf tariff).map (·.holder) = some rq.src then s.closeLoad.mgmtRespond rq .abortLoad t .ok
  else if s.mgmt.slot.holds tariff then
    if s.pins.metrologyOpen then
      (State.begin { s with mgmt := { s.mgmt with slot := s.mgmt.slot.remove tariff } }
        (.slotRemove tariff)).mgmtRespond rq .abortLoad t .ok
    else s.mgmtRespond rq .abortLoad t .locked
  else if (s.windowOf tariff).isSome then s.mgmtRespond rq .abortLoad t .busy
  else s.mgmtRespond rq .abortLoad t .refusedState

theorem State.decideAbortLoad_of (h : s.fromMgmt .abortLoad rq) (ht : loadTarget t = some tariff) :
    s.decideAbortLoad rq t = s.abortLoadAt rq t tariff := by
  rw [State.decideAbortLoad, ht, Option.isSome_some, State.whenAllowed_of _ _ h.2.2]
  rfl

/-- The holder's window closes with the answer OK. -/
theorem abortLoad_holder (h : s.fromMgmt .abortLoad rq) (ht : loadTarget t = some tariff)
    (hw : s.mgmt.window = some w) (hstaging : w.staging.isTariff = tariff) (hholder : w.holder = rq.src) :
    ∃ u, exec (.abortLoad rq t) s = .next u ∧ s.sameBut [.link, .mgmt] u
      ∧ u.mgmt = { s.mgmt with window := none }
      ∧ s.frontTook u (mgmtAnswer rq .abortLoad t .ok) := by
  refine answered_mgmt h (exec_mgmt_of h rfl ((State.decideAbortLoad_of h ht).trans ?_))
  rw [State.abortLoadAt, State.windowOf_of hw hstaging, Option.map_some, hholder, if_pos rfl]
  rfl

/-- A part at the open window of its object. -/
theorem writePart_window {d : PartData} {p : Nat} (h : s.fromMgmt .writePart rq)
    (ht : loadTarget t = some tariff) (hin : partInRange t = true) (hpart : targetPart t = p)
    (hw : s.mgmt.window = some w) (hstaging : w.staging.isTariff = tariff) :
    (w.holder ≠ rq.src →
      ∃ u, exec (.writePart rq t d) s = .next u ∧ s.sameBut [.link] u
        ∧ s.frontTook u (mgmtAnswer rq .writePart t .busy))
    ∧ (w.holder = rq.src → s.pins.metrologyOpen = false →
      ∃ u, exec (.writePart rq t d) s = .next u ∧ s.sameBut [.link, .mgmt] u
        ∧ u.mgmt = { s.mgmt with window := none }
        ∧ s.frontTook u (mgmtAnswer rq .writePart t .locked))
    ∧ (w.holder = rq.src → s.pins.metrologyOpen = true → w.staging.setPart p d = none →
      ∃ u, exec (.writePart rq t d) s = .next u ∧ s.sameBut [.link] u
        ∧ s.frontTook u (mgmtAnswer rq .writePart t .badValue))
    ∧ (∀ st, w.holder = rq.src → s.pins.metrologyOpen = true → w.staging.setPart p d = some st →
      ∃ u, exec (.writePart rq t d) s = .next u ∧ s.sameBut [.link, .mgmt] u
        ∧ u.mgmt = { s.mgmt with window := some { w with staging := st, idle := 120 } }
        ∧ s.frontTook u (mgmtAnswer rq .writePart t .ok)) := by
  have hexec := exec_mgmt_of (c := .writePart rq t d) h rfl (State.decideWritePart_of h ht hin)
  rw [State.windowOf_of hw hstaging] at hexec
  refine ⟨fun hother => answered_of_eq (hexec.trans ?_) h.1 h.2.1,
    fun hholder hpin => answered_mgmt h (hexec.trans ?_),
    fun hholder hpin hset => answered_of_eq (hexec.trans ?_) h.1 h.2.1,
    fun st hholder hpin hset => answered_mgmt h (hexec.trans ?_)⟩
  · simp [State.writePartAt, hother]
  · simp [State.writePartAt, hholder, hpin, State.closeLoad]
  · simp [State.writePartAt, hholder, hpin, hpart, hset]
  · simp [State.writePartAt, hholder, hpin, hpart, hset]

theorem writePart_noWindow {d : PartData} (h : s.fromMgmt .writePart rq)
    (ht : loadTarget t = some tariff) (hin : partInRange t = true)
    (hw : ∀ w, s.mgmt.window = some w → w.staging.isTariff ≠ tariff) :
    ∃ u, exec (.writePart rq t d) s = .next u ∧ s.sameBut [.link] u
      ∧ s.frontTook u (mgmtAnswer rq .writePart t .refusedState) := by
  have hexec := exec_mgmt_of (c := .writePart rq t d) h rfl (State.decideWritePart_of h ht hin)
  rw [State.windowOf_none hw] at hexec
  exact answered_of_eq hexec h.1 h.2.1

/-- An ABORT_LOAD of one who holds no window of the object. -/
theorem abortLoad_other (h : s.fromMgmt .abortLoad rq) (ht : loadTarget t = some tariff)
    (hw : ∀ w, s.mgmt.window = some w → w.staging.isTariff = tariff → w.holder ≠ rq.src) :
    (s.mgmt.slot.holds tariff = true → s.pins.metrologyOpen = false →
      ∃ u, exec (.abortLoad rq t) s = .next u ∧ s.sameBut [.link] u
        ∧ s.frontTook u (mgmtAnswer rq .abortLoad t .locked))
    ∧ (s.mgmt.slot.holds tariff = true → s.pins.metrologyOpen = true →
      ∃ u, exec (.abortLoad rq t) s = .next u ∧ s.sameBut [.link, .mgmt, .writes] u
        ∧ u.mgmt = { s.mgmt with slot := s.mgmt.slot.remove tariff }
        ∧ u.writes = s.writes ++ [.slotRemove tariff]
        ∧ s.frontTook u (mgmtAnswer rq .abortLoad t .ok))
    ∧ (¬s.mgmt.slot.holds tariff = true → ∀ w, s.mgmt.window = some w → w.staging.isTariff = tariff →
      ∃ u, exec (.abortLoad rq t) s = .next u ∧ s.sameBut [.link] u
        ∧ s.frontTook u (mgmtAnswer rq .abortLoad t .busy))
    ∧ (¬s.mgmt.slot.holds tariff = true →
      (∀ w, s.mgmt.window = some w → w.staging.isTariff ≠ tariff) →
      ∃ u, exec (.abortLoad rq t) s = .next u ∧ s.sameBut [.link] u
        ∧ s.frontTook u (mgmtAnswer rq .abortLoad t .refusedState)) := by
  have hexec := exec_mgmt_of (c := .abortLoad rq t) h rfl (State.decideAbortLoad_of h ht)
  have hother : (s.windowOf tariff).map (·.holder) ≠ some rq.src := by
    intro hsome
    obtain ⟨w, hwin, hholder⟩ := Option.map_eq_some_iff.mp hsome
    obtain ⟨hwin, htariff⟩ := Option.filter_eq_some_iff.mp hwin
    exact hw w hwin (by simpa using htariff) hholder
  rw [State.abortLoadAt, if_neg hother] at hexec
  refine ⟨fun hslot hpin => answered_of_eq (hexec.trans ?_) h.1 h.2.1, fun hslot hpin => ?_,
    fun hslot w hwin htariff => answered_of_eq (hexec.trans ?_) h.1 h.2.1,
    fun hslot hnone => answered_of_eq (hexec.trans ?_) h.1 h.2.1⟩
  · simp [hslot, hpin]
  · rw [if_pos hslot, if_pos hpin] at hexec
    obtain ⟨u, hu, hbut, hkeeps, htook⟩ := answered_after (l := [.mgmt, .writes]) h hexec
      (fun p hp => by cases p <;> simp_all [Part.same, State.begin]) rfl
    exact ⟨u, hu, hbut, hkeeps .mgmt (by simp), hkeeps .writes (by simp), htook⟩
  · simp [hslot, State.windowOf_of hwin htariff]
  · simp [hslot, State.windowOf_none hnone]

end

/-- A part named by its object's target, in range. -/
theorem loadTarget_of_named {t : Target} {p : Nat} {b c : Prop}
    (h : t = .tariffSet p ∧ p ≤ 60 ∧ b ∨ t = .calibration p ∧ p = 0 ∧ c) :
    ∃ tariff, loadTarget t = some tariff ∧ partInRange t = true ∧ targetPart t = p
      ∧ (tariff = true ∧ b ∨ tariff = false ∧ c) := by
  rcases h with ⟨rfl, hp, hb⟩ | ⟨rfl, rfl, hc⟩
  · exact ⟨true, rfl, by simpa [partInRange] using hp, rfl, .inl ⟨rfl, hb⟩⟩
  · exact ⟨false, rfl, rfl, rfl, .inr ⟨rfl, hc⟩⟩

/-- Settles O22. -/
theorem loadWindowRuns : Obligations.LoadWindowRuns := by
  refine ⟨fun rq t p d w s h ht hw => ?_, fun cal c ts d => ?_, fun rq t p d s h ht => ?_,
    fun rq t tariff s h ht hw => ?_⟩
  · obtain ⟨tariff, hload, hin, hpart, hstaging⟩ := loadTarget_of_named ht
    have hstaging : w.staging.isTariff = tariff := by
      rcases hstaging with ⟨rfl, hb⟩ | ⟨rfl, hb⟩ <;> exact hb
    obtain ⟨hbusy, hlocked, hbad, hok⟩ := writePart_window (d := d) h hload hin hpart hw hstaging
    refine ⟨hbusy, hlocked, hbad, hok, fun hholder => ?_,
      congrArg Host.Outcome.next (State.whenPowered_of _ (State.powered_of_receives h.1))⟩
    have hauth : authorised .abortLoad (s.roleEntry rq.src) = true := by
      have := h.2.2
      revert this
      cases s.roleEntry rq.src with
      | named r => cases r <;> simp [authorised]
      | _ => simp [authorised]
    exact abortLoad_holder ⟨h.1, h.2.1, hauth⟩ hload hw hstaging hholder
  · refine ⟨rfl, fun hd => ?_, fun g => rfl, rfl, fun p hp hp' => ?_⟩
    · cases d with
      | calibration c => exact absurd rfl (hd c)
      | _ => rfl
    · have hp : p ≠ 0 := by omega
      exact ⟨fun x => (if_neg hp).trans (if_pos hp'), (if_neg hp).trans (if_pos hp')⟩
  · obtain ⟨tariff, hload, hin, -, hstaging⟩ := loadTarget_of_named ht
    refine writePart_noWindow h hload hin fun w hw => ?_
    rcases hstaging with ⟨rfl, hb⟩ | ⟨rfl, hb⟩ <;> simp [hb w hw]
  · obtain ⟨hlocked, hok, hbusy, hrefused⟩ := abortLoad_other h ht hw
    exact ⟨hlocked, hok, hbusy, hrefused⟩

end Sys2Proof.Machine
end

section
/-! ### COMMIT (R32, R33) -/

namespace Sys2Proof.Machine

open Sys2Proof

section
variable {s : State} {rq : Req} {t : Target} {tariff : Bool} {w : LoadWindow}

/-- What a COMMIT with authority makes of the window of its object. -/
def State.commitAt (s : State) (rq : Req) (t : Target) : Option LoadWindow → State
  | none => s.mgmtRespond rq .commit t .refusedState
  | some w =>
    if w.holder ≠ rq.src then s.mgmtRespond rq .commit t .busy
    else if s.pins.metrologyOpen = false then s.closeLoad.mgmtRespond rq .commit t .locked
    else
      match w.staging.firstFailure with
      | some i => s.mgmtRespond rq .commit t .badValue (.badPart i)
      | none => s.closeLoad.takeCommit rq t w.staging

theorem State.decideCommit_of (h : s.fromMgmt .commit rq) (ht : loadTarget t = some tariff) :
    s.decideCommit rq t = s.commitAt rq t (s.windowOf tariff) := by
  rw [State.decideCommit, ht, Option.isSome_some, State.whenAllowed_of _ _ h.2.2]
  simp only [Option.getD_some]
  cases s.windowOf tariff <;> rfl

/-- The holder's COMMIT with the switch open is decided by the validation. -/
theorem exec_commit_held (h : s.fromMgmt .commit rq) (ht : loadTarget t = some tariff)
    (hw : s.mgmt.window = some w) (hstaging : w.staging.isTariff = tariff) (hholder : w.holder = rq.src)
    (hpin : s.pins.metrologyOpen = true) :
    (∀ i, w.staging.firstFailure = some i →
      exec (.commit rq t) s = .next (s.mgmtRespond rq .commit t .badValue (.badPart i)))
    ∧ (w.staging.firstFailure = none →
      exec (.commit rq t) s = .next (s.closeLoad.takeCommit rq t w.staging)) := by
  have hexec := exec_mgmt_of (c := .commit rq t) h rfl (State.decideCommit_of h ht)
  rw [State.windowOf_of hw hstaging] at hexec
  refine ⟨fun i hi => hexec.trans ?_, fun hnone => hexec.trans ?_⟩
  · simp [State.commitAt, hholder, hpin, hi]
  · simp [State.commitAt, hholder, hpin, hnone]

theorem State.takeCommit_open (st : Staged) (h : s.tripOpen = true) :
    s.takeCommit rq t st =
      { s with
        mgmt := { s.mgmt with slot := s.mgmt.slot.put st }
        writes := s.writes ++ [.pendingCopy st rq t] } :=
  if_pos ((State.tripOpen_iff s).mp h)

theorem State.takeCommit_closed (st : Staged) (h : s.tripOpen = false) :
    s.takeCommit rq t st = s.beginApplication st (.commit rq t) :=
  if_neg fun hopen => by simp [(State.tripOpen_iff s).mpr hopen] at h

/-- METROLOGY_EVENTS counts one more before its largest value. -/
theorem State.beginApplication_of (st : Staged) (o : AppOrigin)
    (h : s.acct.totals.metrology < 4294967295) :
    s.beginApplication st o =
      let acct :=
        { s.acct with totals := { s.acct.totals with metrology := s.acct.totals.metrology + 1 } }
      { s with
        acct
        writes := s.writes ++
          [.application st ⟨s.acct.totals.metrology + 1, s.now, s.time.backup.timeInvalid⟩
            acct.totalsNow s.now o] } := by
  have hcount : satInc max32 s.acct.totals.metrology = s.acct.totals.metrology + 1 := by
    simp only [satInc, max32]
    omega
  simp only [State.beginApplication, hcount]
  rfl

theorem totalsNow_metrology (a : Accounting) : a.totalsNow.metrology = a.totals.metrology := by
  unfold Accounting.totalsNow
  cases a.entry <;> rfl

end

/-- The first part that fails is the first `true` of the list. -/
theorem TariffSet.firstFailure_some {ts : TariffSet} {i : Nat} (h : ts.failures[i]? = some true)
    (hbefore : ∀ j, j < i → ts.failures[j]? = some false) :
    (Staged.tariffSet ts).firstFailure = some i := by
  obtain ⟨hlt, hi⟩ := List.getElem?_eq_some_iff.mp h
  refine List.findIdx?_eq_some_iff_getElem.mpr ⟨hlt, hi, fun j hj => ?_⟩
  have hfalse := hbefore j hj
  rw [List.getElem?_eq_getElem (hj.trans hlt)] at hfalse
  simp [Option.some.inj hfalse]

theorem TariffSet.firstFailure_none {ts : TariffSet} (h : ∀ x ∈ ts.failures, x = false) :
    (Staged.tariffSet ts).firstFailure = none :=
  List.findIdx?_eq_none_iff.mpr fun x hx => by simp [h x hx]

theorem TariffSet.failures_general {ts : TariffSet}
    (h : 60 < ts.general.correction ∨ 120 < ts.general.resumeLimit ∨ 65535 < ts.general.version) :
    ts.failures[0]? = some true := by
  have hinvalid : generalValid ts.general = false := by
    simp only [generalValid, within, Bool.and_eq_false_iff, decide_eq_false_iff_not]
    omega
  simp [TariffSet.failures, hinvalid]

theorem calibrationValid_iff (c : Calibration) :
    calibrationValid c = true ↔ 500 ≤ c.k ∧ c.k ≤ 65000 ∧ 1 ≤ c.pMax ∧ c.pMax ≤ 255 ∧ 50 ≤ c.sMin
      ∧ c.sMin ≤ 10000 ∧ c.trim.n ≤ 65535 := by
  simp only [calibrationValid, within, Bool.and_eq_true, decide_eq_true_eq]
  omega

/-- Settles O23: the tests before the validation, then each object's own. -/
theorem commitTakesOneWay : Obligations.CommitTakesOneWay := by
  refine ⟨fun rq t tariff s h ht => ⟨fun hnone => ?_, fun w hw hstaging => ?_⟩,
    fun rq w ts s h hw hstaging hholder hpin => ?_, fun rq w c s h hw hstaging hholder hpin => ?_⟩
  · refine answered_of_eq (exec_mgmt_of h rfl ((State.decideCommit_of h ht).trans ?_)) h.1 h.2.1
    rw [State.windowOf_none hnone]
    rfl
  · have hexec := exec_mgmt_of (c := .commit rq t) h rfl (State.decideCommit_of h ht)
    rw [State.windowOf_of hw hstaging] at hexec
    refine ⟨fun hother => answered_of_eq (hexec.trans ?_) h.1 h.2.1,
      fun hholder hpin => answered_mgmt h (hexec.trans ?_)⟩
    · simp [State.commitAt, hother]
    · simp [State.commitAt, hholder, hpin, State.closeLoad]
  · obtain ⟨hbad, htaken⟩ := exec_commit_held (t := .tariffSet 0) h rfl hw (by rw [hstaging]; rfl) hholder
      hpin
    rw [hstaging] at hbad htaken
    refine ⟨TariffSet.failures_general, fun i hi hbefore =>
        answered_of_eq (hbad i (TariffSet.firstFailure_some hi hbefore)) h.1 h.2.1,
      fun hvalid hopen => (htaken (TariffSet.firstFailure_none hvalid)).trans
        (congrArg _ (State.takeCommit_open (s := s.closeLoad) _ hopen)),
      fun hvalid hclosed hcount => ⟨_, rfl, (htaken (TariffSet.firstFailure_none hvalid)).trans
        (congrArg _ ((State.takeCommit_closed (s := s.closeLoad) _ hclosed).trans
          (State.beginApplication_of _ _ hcount)))⟩⟩
  · obtain ⟨hbad, htaken⟩ := exec_commit_held (t := .calibration 0) h rfl hw (by rw [hstaging]; rfl)
      hholder hpin
    rw [hstaging] at hbad htaken
    intro valid
    refine ⟨fun hinvalid => answered_of_eq (hbad 0 ?_) h.1 h.2.1, fun hvalid hopen => ?_,
      fun hvalid hclosed hcount => ?_⟩
    · exact if_neg (mt (calibrationValid_iff c).mp hinvalid)
    · exact (htaken (if_pos ((calibrationValid_iff c).mpr hvalid))).trans
        (congrArg _ (State.takeCommit_open (s := s.closeLoad) _ hopen))
    · have hexec := (htaken (if_pos ((calibrationValid_iff c).mpr hvalid))).trans
        (congrArg _ ((State.takeCommit_closed (s := s.closeLoad) _ hclosed).trans
          (State.beginApplication_of _ _ hcount)))
      exact ⟨_, _, _, hexec, fun p hp => by cases p <;> simp_all [Part.same, State.closeLoad], rfl, rfl,
        rfl, rfl, totalsNow_metrology _, rfl⟩

end Sys2Proof.Machine
end

section
/-! ### What the views and a change of the meter state leave of the meter controller -/

namespace Sys2Proof.Machine

open Sys2Proof

/-- Two meter controllers that differ in their view states alone. -/
def Meter.sameButViews (m m' : Meter) : Prop := m' = { m with console := m'.console, pax := m'.pax }

theorem Meter.sameButViews_refl (m : Meter) : m.sameButViews m := rfl

theorem Meter.sameButViews_trans {m m' m'' : Meter} (h : m.sameButViews m') (h' : m'.sameButViews m'') :
    m.sameButViews m'' := by
  unfold Meter.sameButViews at *
  rw [h', h]

theorem State.tryView_meter (s : State) (d : ViewDest) : s.meter.sameButViews (s.tryView d).meter := by
  rcases s.tryView_cases d with h | h
  · rw [h]
    rfl
  · cases d <;> simp [h, State.modView, Meter.sameButViews]

theorem State.markViews_meter (s : State) : s.meter.sameButViews s.markViews.meter :=
  Meter.sameButViews_trans (m' := s.setMarks.meter) rfl
    (Meter.sameButViews_trans (State.tryView_meter _ _) (State.tryView_meter _ _))

/-- What a change of the meter state leaves of the meter controller. -/
theorem State.setMeterState_meter (s : State) (m : MeterState) :
    Meter.sameButViews { s.meter with state := m, lastAck := none } (s.setMeterState m).meter := by
  obtain ⟨u, hends, hmeter, -, -⟩ := s.setMeterState_ends m
  have h := u.beginCheckpoint.markViews_meter
  rw [← hends] at h
  simpa [hmeter] using h

theorem State.setMeterState_grows (s : State) (m : MeterState) : s.grows (s.setMeterState m) := by
  obtain ⟨u, hends, -, -, hlink⟩ := s.setMeterState_ends m
  rw [hends]
  exact State.grows_after (by simp [hlink]) (State.markViews_grows _)

theorem State.trigger_grows (s : State) (t : Trigger) : s.grows (s.trigger t) :=
  State.grows_of_link (by simp)

/-- Parking leaves the notice queue and, but for the views and the acknowledgement, the meter. -/
theorem State.enterParked_keeps (s : State) :
    s.enterParked.notices = s.notices ∧ s.enterParked.engine = s.engine ∧ s.enterParked.mgmt = s.mgmt
      ∧ s.enterParked.store = s.store ∧ s.enterParked.time = s.time
      ∧ s.enterParked.tables = s.tables ∧ s.enterParked.pay = s.pay
      ∧ Meter.sameButViews { s.meter with lastAck := none } s.enterParked.meter := by
  simp [State.enterParked, State.resetViews, Meter.sameButViews]

/-- A park check parks, or does nothing. -/
theorem State.parkCheck_keeps (s : State) :
    s.parkCheck.notices = s.notices ∧ s.parkCheck.engine = s.engine ∧ s.parkCheck.mgmt = s.mgmt
      ∧ s.parkCheck.store = s.store ∧ s.parkCheck.time = s.time
      ∧ s.parkCheck.tables = s.tables ∧ s.parkCheck.pay = s.pay
      ∧ ∃ a, Meter.sameButViews { s.meter with lastAck := a } s.parkCheck.meter := by
  unfold State.parkCheck
  split
  · obtain ⟨h1, h2, h3, h4, h5, h6, h7, h8⟩ := s.enterParked_keeps
    exact ⟨h1, h2, h3, h4, h5, h6, h7, none, h8⟩
  · exact ⟨rfl, rfl, rfl, rfl, rfl, rfl, rfl, s.meter.lastAck, rfl⟩

theorem State.parkCheck_of_park {s : State} (h : s.power.park ≠ .waiting) : s.parkCheck = s := by
  simp [State.parkCheck, h]

/-! #### Band evaluation (R53) -/

/-- A band evaluation makes the band current and kept. -/
theorem State.evaluateBand_time (s : State) :
    s.evaluateBand.time =
      { s.time with
        band := s.mgmt.metrology.tariffSet.currentBand s.now
        backup :=
          { s.time.backup with keptBand := s.mgmt.metrology.tariffSet.currentBand s.now } } := by
  simp only [State.evaluateBand]
  split
  · next h => simp [← h]
  · simp

theorem State.evaluateBand_grows (s : State) : s.grows s.evaluateBand := by
  simp only [State.evaluateBand]
  split
  · exact State.grows_of_link rfl
  · exact State.grows_after (by simp) (State.markViews_grows _)

/-- A band followed changes no more of the meter controller than the open trip. -/
theorem State.followBand_meter (s : State) (b : Option Nat) :
    ∃ t, (s.followBand b).1.meter = { s.meter with trip := t } := by
  unfold State.followBand
  repeat' split
  all_goals exact ⟨_, rfl⟩

theorem State.bandChange_meter (s : State) (b : Option Nat) :
    ∃ t, (s.bandChange b).meter = { s.meter with trip := t } := by
  unfold State.bandChange
  split
  · exact s.followBand_meter b
  · exact ⟨_, rfl⟩

/-- The state with a band current and kept. -/
def State.withBand (s : State) (b : Option Nat) : State :=
  { s with time := { s.time with band := b, backup := { s.time.backup with keptBand := b } } }

/-- A band evaluation whose result is another than the kept band. -/
theorem State.evaluateBand_of_ne {s : State}
    (h : s.time.backup.keptBand ≠ s.mgmt.metrology.tariffSet.currentBand s.now) :
    s.evaluateBand =
      ((s.withBand (s.mgmt.metrology.tariffSet.currentBand s.now)).bandChange
        (s.mgmt.metrology.tariffSet.currentBand s.now)).markViews := by
  rw [State.evaluateBand, if_neg h]
  rfl

/-- The parts of the meter controller that a band evaluation never touches. -/
theorem State.evaluateBand_meter (s : State) :
    ∃ t, Meter.sameButViews { s.meter with trip := t } s.evaluateBand.meter := by
  by_cases h : s.time.backup.keptBand = s.mgmt.metrology.tariffSet.currentBand s.now
  · rw [State.evaluateBand, if_pos h]
    exact ⟨_, rfl⟩
  · obtain ⟨t, ht⟩ := (s.withBand (s.mgmt.metrology.tariffSet.currentBand s.now)).bandChange_meter
      (s.mgmt.metrology.tariffSet.currentBand s.now)
    rw [State.evaluateBand_of_ne h]
    refine ⟨t, ?_⟩
    have hviews := State.markViews_meter
      ((s.withBand (s.mgmt.metrology.tariffSet.currentBand s.now)).bandChange
        (s.mgmt.metrology.tariffSet.currentBand s.now))
    rwa [ht] at hviews

end Sys2Proof.Machine
end

section
/-! ### Applications (R34) and the end of a close (R109) -/

namespace Sys2Proof.Machine

open Sys2Proof

section
variable {s : State} {st : Staged} {app : AppRecord} {totals : Totals} {time : Nat} {o : AppOrigin}
  {rest : List StoreWrite}

/-- The state with the store write of an application completed. -/
def State.afterWrite (s : State) (w : StoreWrite) (rest : List StoreWrite) : State :=
  { s with store := s.store.apply w, writes := rest }

theorem exec_applicationComplete_of (hpowered : s.powered = true)
    (hw : s.writes = .application st app totals time o :: rest) :
    exec .applicationComplete s =
      .next ((s.afterWrite (.application st app totals time o) rest).applicationStored st app o) := by
  refine congrArg Host.Outcome.next ((State.whenPowered_of _ hpowered).trans ?_)
  rw [State.takeWrite_head _ hw rfl rfl rfl]
  rfl

/-- The notice of an application. -/
def applicationNotice (app : AppRecord) : Staged → Notice
  | .tariffSet t => .tariffApplied app.counter t.general.version
  | .calibration _ => .calibrationApplied app.counter

/-- The object in force, before the notice. -/
def State.inForce (s : State) (st : Staged) (app : AppRecord) (o : AppOrigin) : State :=
  { s with mgmt := { s.mgmt with metrology := s.mgmt.metrology.put st app, slot := s.slotApplied st o } }

theorem State.putInForce_eq (s : State) (st : Staged) (app : AppRecord) (o : AppOrigin) :
    s.putInForce st app o = (s.inForce st app o).offerNotice (applicationNotice app st) := by
  cases st <;> rfl

theorem State.noticesAlike_inForce (s : State) (st : Staged) (app : AppRecord) (o : AppOrigin) :
    s.NoticesAlike (s.inForce st app o) := ⟨rfl, rfl, rfl, rfl, rfl, rfl⟩

/-- A notice that stands before more is offered still does. -/
theorem State.noticed_of_grows {u v : State} {n : Notice} (h : s.noticed u n)
    (hnotices : v.notices = u.notices) (hgrows : u.grows v) : s.noticed v n :=
  ⟨hnotices.trans h.1, h.2.trans hgrows.1⟩

/-- An application committed at once is answered, put in force and noticed. -/
theorem State.committed_of (rq : Req) (t : Target) (hrun : s.link.front.running = true)
    (hseg : rq.src.seg = .front) :
    ∃ u, (s.mgmtRespond rq .commit t .ok).putInForce st app (.commit rq t) = u
      ∧ s.sameBut [.link, .mgmt, .notices] u
      ∧ u.mgmt = { s.mgmt with metrology := s.mgmt.metrology.put st app }
      ∧ u.notices.nextSeq = (s.notices.nextSeq + 1) % 65536
      ∧ (s.answered (mgmtAnswer rq .commit t .ok)).noticed u (applicationNotice app st)
      ∧ joined s.link.front.queue (mgmtAnswer rq .commit t .ok) <+: u.link.front.queue := by
  have hanswer : s.mgmtRespond rq .commit t .ok = s.answered (mgmtAnswer rq .commit t .ok) :=
    State.mgmtRespond_front _ _ _ _ hseg hrun
  have hslot : (s.answered (mgmtAnswer rq .commit t .ok)).slotApplied st (.commit rq t) = s.mgmt.slot := by
    unfold State.slotApplied
    exact ite_self _
  rw [hanswer, State.putInForce_eq]
  have halike := (s.answered (mgmtAnswer rq .commit t .ok)).noticesAlike_inForce st app (.commit rq t)
  have hnoticed := State.noticed_offerNotice halike (applicationNotice app st)
  refine ⟨_, rfl, fun p hp => ?_, ?_, ?_, hnoticed, ?_⟩
  · cases p <;> simp_all [Part.same, State.inForce, State.answered]
  · simp [State.inForce, hslot]
    exact ⟨rfl, rfl⟩
  · simp [State.inForce, State.answered]
  · exact (State.offerNotice_grows (State.inForce (s.answered (mgmtAnswer rq .commit t .ok)) st app
      (.commit rq t)) (applicationNotice app st)).1

/-- The answer to a COMMIT stands in the queue, unless that was full. -/
theorem mem_or_full_of_noticed {q l : List Frame} {f : Frame} (h : joined q f <+: l) :
    f ∈ l ∨ 24 ≤ q.length := by
  by_cases hroom : q.length < 24
  · refine .inl (h.subset ?_)
    simp [joined, hroom]
  · exact .inr (Nat.le_of_not_lt hroom)

/-! #### The end of a close -/

/-- Of a close, an application leaves the working slot without its copy, or as it is. -/
theorem State.inForce_close (s : State) (st : Staged) (app : AppRecord) :
    (s.inForce st app .close).mgmt =
      { s.mgmt with metrology := s.mgmt.metrology.put st app, slot := s.slotApplied st .close } := rfl

theorem State.continueClose_holdup (h : s.power.state = .holdup) :
    s.continueClose = { s with meter := { s.meter with stage := .goOn } } := if_pos h

theorem State.continueClose_of (h : s.power.state ≠ .holdup) : s.continueClose = s.goOnClose := if_neg h

theorem State.goOnClose_some (h : s.mgmt.slot.nextCopy = some st) :
    s.goOnClose =
      State.beginApplication { s with meter := { s.meter with stage := .applying } } st .close := by
  rw [State.goOnClose, h]

theorem State.goOnClose_none (h : s.mgmt.slot.nextCopy = none) : s.goOnClose = s.releaseClose := by
  rw [State.goOnClose, h]

/-- The meter controller, the engine and the tender list of a trip that has been closed. -/
def State.withoutTrip (s : State) : State :=
  { s with
    engine := .idle, pay := { s.pay with tenders := [] }
    meter :=
      { s.meter with
        closing := false, stage := .none, trip := none, snapshot := none
        lastClosed := (s.meter.trip.map (·.number)).getD s.meter.lastClosed } }

theorem State.releaseClose_eq (s : State) :
    s.releaseClose =
      ((s.withoutTrip.setMeterState (if s.acct.shift.limitSet then .offDuty else .vacant)).trigger
        .tripClosed).parkCheck := rfl

/-- The meter released: IDLE, no trip, no closing mark (R109, step 4). -/
theorem State.releaseClose_meter (s : State) :
    s.releaseClose.meter.trip = none ∧ s.releaseClose.meter.stage = .none
      ∧ s.releaseClose.meter.closing = false ∧ s.releaseClose.meter.snapshot = none
      ∧ s.releaseClose.engine = .idle
      ∧ s.releaseClose.meter.state = (if s.acct.shift.limitSet then .offDuty else .vacant) := by
  rw [State.releaseClose_eq]
  generalize (if s.acct.shift.limitSet = true then MeterState.offDuty else .vacant) = m
  obtain ⟨-, hengine, -, -, -, -, -, a, hpark⟩ :=
    ((s.withoutTrip.setMeterState m).trigger .tripClosed).parkCheck_keeps
  have hset := s.withoutTrip.setMeterState_meter m
  simp only [State.trigger_keeps] at hpark
  rw [hpark, hset, hengine]
  simp [State.withoutTrip]

/-- The release leaves the notice queue and what is in force. -/
theorem State.releaseClose_keeps (s : State) :
    s.releaseClose.notices = s.notices ∧ s.releaseClose.mgmt = s.mgmt ∧ s.releaseClose.store = s.store
      ∧ s.releaseClose.time = s.time := by
  rw [State.releaseClose_eq]
  obtain ⟨hnotices, -, hmgmt, hstore, htime, -⟩ := State.parkCheck_keeps
    ((s.withoutTrip.setMeterState (if s.acct.shift.limitSet then .offDuty else .vacant)).trigger
      .tripClosed)
  rw [hnotices, hmgmt, hstore, htime]
  simp [State.withoutTrip]

/-- A change of the meter state leaves of the power controller all but the checkpoint timer. -/
theorem State.setMeterState_power (s : State) (m : MeterState) :
    ∃ c, (s.setMeterState m).power = { s.power with checkpoint := c } := by
  have hcheckpoint : ∀ u : State, ∃ c, u.beginCheckpoint.power = { u.power with checkpoint := c } := by
    intro u
    unfold State.beginCheckpoint State.restartCheckpointTimer
    split
    · exact ⟨_, rfl⟩
    · exact ⟨u.power.checkpoint, rfl⟩
  unfold State.setMeterState
  simp only [State.markViews_keeps]
  obtain ⟨c, hc⟩ := hcheckpoint _
  refine ⟨c, hc.trans ?_⟩
  split <;> simp

theorem State.releaseClose_grows (h : s.power.park ≠ .waiting) : s.grows s.releaseClose := by
  rw [State.releaseClose_eq]
  obtain ⟨c, hc⟩ := s.withoutTrip.setMeterState_power (if s.acct.shift.limitSet then .offDuty else .vacant)
  rw [State.parkCheck_of_park fun hpark => by
    simp only [State.trigger_keeps, hc] at hpark
    exact h hpark]
  refine State.grows_trans ?_ (State.trigger_grows _ _)
  exact State.grows_after (t := s.withoutTrip) rfl (State.setMeterState_grows _ _)

/-- The application that a close begins next. -/
theorem State.goOnClose_begins (h : s.mgmt.slot.nextCopy = some st)
    (hcount : s.acct.totals.metrology < 4294967295) :
    s.goOnClose.meter = { s.meter with stage := .applying } ∧ s.goOnClose.mgmt = s.mgmt
      ∧ s.goOnClose.store = s.store ∧ s.goOnClose.notices = s.notices ∧ s.goOnClose.link = s.link
      ∧ s.goOnClose.acct =
        { s.acct with totals := { s.acct.totals with metrology := s.acct.totals.metrology + 1 } }
      ∧ s.goOnClose.writes = s.writes ++
        [.application st ⟨s.acct.totals.metrology + 1, s.now, s.time.backup.timeInvalid⟩
          s.goOnClose.acct.totalsNow s.now .close] := by
  have hbegun := State.beginApplication_of (s := { s with meter := { s.meter with stage := .applying } })
    st .close hcount
  rw [State.goOnClose_some h, hbegun]
  exact ⟨rfl, rfl, rfl, rfl, rfl, rfl, rfl⟩

end

/-! #### A tariff set put in force at a close -/

section
variable {s : State} {ts : TariffSet} {app : AppRecord}

/-- A tariff set put in force, with its notice and the band evaluation. -/
def State.tariffStored (s : State) (ts : TariffSet) (app : AppRecord) (o : AppOrigin) : State :=
  (s.putInForce (.tariffSet ts) app o).evaluateBand

theorem State.applicationStored_close (s : State) (ts : TariffSet) (app : AppRecord) :
    s.applicationStored (.tariffSet ts) app .close = (s.tariffStored ts app .close).continueClose := rfl

/-- What a tariff set put in force at a close leaves, and what its band evaluation changes. -/
theorem State.tariffStored_keeps (s : State) (ts : TariffSet) (app : AppRecord) (o : AppOrigin) :
    let u := s.tariffStored ts app o
    s.sameBut [.link, .mgmt, .notices, .time, .engine, .meter] u
      ∧ u.mgmt = { s.mgmt with
          metrology := s.mgmt.metrology.put (.tariffSet ts) app, slot := s.slotApplied (.tariffSet ts) o }
      ∧ u.time.band = ts.currentBand s.now ∧ u.time.backup.keptBand = ts.currentBand s.now
      ∧ u.time.backup.counter = s.time.backup.counter
      ∧ u.time.backup.timeInvalid = s.time.backup.timeInvalid
      ∧ s.noticed u (.tariffApplied app.counter ts.general.version)
      ∧ u.meter.state = s.meter.state ∧ u.meter.closing = s.meter.closing
      ∧ ∃ t, Meter.sameButViews { s.meter with trip := t } u.meter := by
  intro u
  have hu : u = ((s.inForce (.tariffSet ts) app o).offerNotice
      (.tariffApplied app.counter ts.general.version)).evaluateBand := by
    simp only [u, State.tariffStored, State.putInForce_eq, applicationNotice]
  have hnoticed := State.noticed_offerNotice (s.noticesAlike_inForce (.tariffSet ts) app o)
    (.tariffApplied app.counter ts.general.version)
  have hband : ((s.inForce (.tariffSet ts) app o).offerNotice
      (.tariffApplied app.counter ts.general.version)).mgmt.metrology.tariffSet = ts := by
    simp [State.inForce, Metrology.put]
  have hnow : ((s.inForce (.tariffSet ts) app o).offerNotice
      (.tariffApplied app.counter ts.general.version)).now = s.now := by
    simp [State.inForce, State.now]
  have htime := ((s.inForce (.tariffSet ts) app o).offerNotice
    (.tariffApplied app.counter ts.general.version)).evaluateBand_time
  rw [hband, hnow, ← hu] at htime
  obtain ⟨t, ht⟩ := ((s.inForce (.tariffSet ts) app o).offerNotice
    (.tariffApplied app.counter ts.general.version)).evaluateBand_meter
  rw [← hu] at ht
  refine ⟨fun p hp => ?_, ?_, ?_, ?_, ?_, ?_, ?_, ?_, ?_, t, ?_⟩
  · cases p <;> simp_all [Part.same, State.inForce]
  · simp [hu, State.inForce]
  · rw [htime]
  · rw [htime]
  · rw [htime]
    simp [State.inForce]
  · rw [htime]
    simp [State.inForce]
  · rw [hu]
    exact State.noticed_of_grows hnoticed (by simp) (State.evaluateBand_grows _)
  · rw [ht]
    simp [State.inForce]
  · rw [ht]
    simp [State.inForce]
  · simpa [State.inForce] using ht

end

/-! #### The obligation -/

theorem applicationCommitted_calibration {s : State} {rq : Req} {t : Target} {c : Calibration}
    {app : AppRecord} {totals : Totals} {time : Nat} {rest : List StoreWrite}
    (hpowered : s.powered = true) (hrun : s.link.front.running = true) (hseg : rq.src.seg = .front)
    (hw : s.writes = .application (.calibration c) app totals time (.commit rq t) :: rest) :
    ∃ u, exec .applicationComplete s = .next u ∧ u.writes = rest
      ∧ s.sameBut [.link, .mgmt, .notices, .distance, .time, .store, .writes] u
      ∧ u.mgmt.metrology =
        { s.mgmt.metrology with calibration := c, calibrationApp := some app }
      ∧ u.store = { s.store with
          metrology := { s.store.metrology with calibration := c, calibrationApp := some app }
          totals := totals, totalsTime := time }
      ∧ u.distance = { s.distance with incoming := some c }
      ∧ u.time = { s.time with newTrim := some c.trim }
      ∧ u.notices.nextSeq = (s.notices.nextSeq + 1) % 65536
      ∧ (s.answered (mgmtAnswer rq .commit t .ok)).noticed u (.calibrationApplied app.counter)
      ∧ (mgmtAnswer rq .commit t .ok ∈ u.link.front.queue ∨ 24 ≤ s.link.front.queue.length) := by
  obtain ⟨u, hu, hsame, hmgmt, hseq, hnoticed, hqueue⟩ := State.committed_of
    (s := s.afterWrite (.application (.calibration c) app totals time (.commit rq t)) rest)
    (st := .calibration c) (app := app) rq t hrun hseg
  have halike : (s.answered (mgmtAnswer rq .commit t .ok)).NoticesAlike
      ((s.afterWrite (.application (.calibration c) app totals time (.commit rq t)) rest).answered
        (mgmtAnswer rq .commit t .ok)) := ⟨rfl, rfl, rfl, rfl, rfl, rfl⟩
  have hoffer := halike.offerNotice (applicationNotice app (.calibration c))
  refine ⟨State.handTrim { u with distance := { u.distance with incoming := some c } } (.calibration c),
    (exec_applicationComplete_of hpowered hw).trans (congrArg _ ?_), hsame .writes (by simp),
    fun p hp => ?_, ?_, hsame .store (by simp), ?_, ?_, hseq, ?_, mem_or_full_of_noticed hqueue⟩
  · rw [← hu]
    rfl
  · have hp := fun h => hsame p h
    cases p <;> simp_all [Part.same, State.handTrim, State.afterWrite]
  · exact congrArg Management.metrology hmgmt
  · have := hsame .distance (by simp)
    simp only [Part.same] at this
    simp [State.handTrim, this, State.afterWrite]
  · have := hsame .time (by simp)
    simp only [Part.same] at this
    simp [State.handTrim, this, State.afterWrite]
  · exact ⟨hnoticed.1.trans hoffer.notices, hoffer.queue ▸ hnoticed.2⟩

theorem applicationCommitted_tariffSet {s : State} {rq : Req} {t : Target} {ts : TariffSet}
    {app : AppRecord} {totals : Totals} {time : Nat} {rest : List StoreWrite}
    (hpowered : s.powered = true) (hrun : s.link.front.running = true) (hseg : rq.src.seg = .front)
    (hw : s.writes = .application (.tariffSet ts) app totals time (.commit rq t) :: rest) :
    ∃ u, exec .applicationComplete s = .next u ∧ u.writes = rest
      ∧ s.sameBut [.link, .mgmt, .notices, .time, .engine, .meter, .store, .writes] u
      ∧ u.mgmt =
        { s.mgmt with metrology := { s.mgmt.metrology with tariffSet := ts, tariffApp := some app } }
      ∧ u.store = { s.store with
          metrology := { s.store.metrology with tariffSet := ts, tariffApp := some app }
          totals := totals, totalsTime := time }
      ∧ u.time.band = ts.currentBand s.now ∧ u.time.backup.keptBand = u.time.band
      ∧ (s.answered (mgmtAnswer rq .commit t .ok)).noticed u
          (.tariffApplied app.counter ts.general.version)
      ∧ (mgmtAnswer rq .commit t .ok ∈ u.link.front.queue ∨ 24 ≤ s.link.front.queue.length) := by
  obtain ⟨u, hu, hsame, hmgmt, -, hnoticed, hqueue⟩ := State.committed_of
    (s := s.afterWrite (.application (.tariffSet ts) app totals time (.commit rq t)) rest)
    (st := .tariffSet ts) (app := app) rq t hrun hseg
  have halike : (s.answered (mgmtAnswer rq .commit t .ok)).NoticesAlike
      ((s.afterWrite (.application (.tariffSet ts) app totals time (.commit rq t)) rest).answered
        (mgmtAnswer rq .commit t .ok)) := ⟨rfl, rfl, rfl, rfl, rfl, rfl⟩
  have hoffer := halike.offerNotice (applicationNotice app (.tariffSet ts))
  have hstood : u.now = s.now := by
    have := hsame .time (by simp)
    simp only [Part.same] at this
    simp [State.now, this, State.afterWrite]
  have hset : u.mgmt.metrology.tariffSet = ts := by rw [hmgmt]; rfl
  have htime := u.evaluateBand_time
  rw [hset, hstood] at htime
  refine ⟨u.evaluateBand, (exec_applicationComplete_of hpowered hw).trans (congrArg _ ?_), ?_,
    fun p hp => ?_, ?_, ?_, by rw [htime], by rw [htime], ?_,
    mem_or_full_of_noticed (hqueue.trans u.evaluateBand_grows.1)⟩
  · rw [← hu]
    rfl
  · have hkept : u.evaluateBand.writes = u.writes := by simp
    exact hkept.trans (hsame .writes (by simp))
  · have hp := fun h => hsame p h
    cases p <;> simp_all [Part.same, State.afterWrite]
  · have hkept : u.evaluateBand.mgmt = u.mgmt := by simp
    exact hkept.trans hmgmt
  · have hkept : u.evaluateBand.store = u.store := by simp
    exact hkept.trans (hsame .store (by simp))
  · exact State.noticed_of_grows ⟨hnoticed.1.trans hoffer.notices, hoffer.queue ▸ hnoticed.2⟩ (by simp)
      u.evaluateBand_grows

/-- A tariff set put in force at a close, its copy the last. -/
theorem applicationClosed_last {s : State} {ts : TariffSet} {app : AppRecord} {totals : Totals}
    {time : Nat} {rest : List StoreWrite} (hpowered : s.powered = true)
    (hw : s.writes = .application (.tariffSet ts) app totals time .close :: rest)
    (hcal : s.mgmt.slot.calibration = none) (hremove : .slotRemove true ∉ rest) :
    ∃ u, exec .applicationComplete s = .next u
      ∧ u.mgmt =
        { s.mgmt with
          metrology := { s.mgmt.metrology with tariffSet := ts, tariffApp := some app }
          slot := { s.mgmt.slot with tariffSet := none } }
      ∧ u.store.metrology = { s.store.metrology with tariffSet := ts, tariffApp := some app }
      ∧ u.store.slot = { s.store.slot with tariffSet := none } ∧ u.store.totals = totals
      ∧ u.time.band = ts.currentBand s.now
      ∧ u.notices = (s.offerNotice (.tariffApplied app.counter ts.general.version)).notices
      ∧ (s.power.park ≠ .waiting → s.noticed u (.tariffApplied app.counter ts.general.version))
      ∧ (s.power.state = .holdup → u.meter.stage = .goOn ∧ u.meter.state = s.meter.state)
      ∧ (s.power.state ≠ .holdup → u.meter.trip = none ∧ u.meter.stage = .none
        ∧ u.meter.closing = false ∧ u.engine.mode = .idle
        ∧ u.meter.state = (if s.acct.shift.limitSet then .offDuty else .vacant)) := by
  let v := s.afterWrite (.application (.tariffSet ts) app totals time .close) rest
  let w := v.tariffStored ts app .close
  obtain ⟨hsame, hmgmt, hband, -, -, -, hnoticed, hstate, -, -⟩ := v.tariffStored_keeps ts app .close
  have hexec : exec .applicationComplete s = .next w.continueClose :=
    (exec_applicationComplete_of hpowered hw).trans (congrArg _ (State.applicationStored_close v ts app))
  have hslot : v.slotApplied (.tariffSet ts) .close = { s.mgmt.slot with tariffSet := none } :=
    State.slotApplied_of_not_mem _ hremove
  rw [hslot] at hmgmt
  have halike : s.NoticesAlike v := ⟨rfl, rfl, rfl, rfl, rfl, rfl⟩
  have hoffer := halike.offerNotice (.tariffApplied app.counter ts.general.version)
  have hnoticed : s.noticed w (.tariffApplied app.counter ts.general.version) :=
    ⟨hnoticed.1.trans hoffer.notices, hoffer.queue ▸ hnoticed.2⟩
  have hstore : w.store = v.store := hsame .store (by simp)
  have hpower : w.power = s.power := hsame .power (by simp)
  have hacct : w.acct = s.acct := hsame .acct (by simp)
  rw [hexec]
  by_cases hholdup : s.power.state = .holdup
  · rw [State.continueClose_holdup (by rw [hpower, hholdup])]
    exact ⟨_, rfl, hmgmt, by rw [hstore]; rfl, by rw [hstore]; rfl, by rw [hstore]; rfl, hband, hnoticed.1,
      fun _ => hnoticed, fun _ => ⟨rfl, hstate⟩, fun h => absurd hholdup h⟩
  · have hnext : w.mgmt.slot.nextCopy = none := by
      rw [hmgmt]
      simp [PendingSlot.nextCopy, hcal]
    rw [State.continueClose_of (by rwa [hpower]), State.goOnClose_none hnext]
    obtain ⟨hnotices, hmgmt', hstore', htime⟩ := w.releaseClose_keeps
    obtain ⟨htrip, hstage, hclosing, -, hengine, hstate'⟩ := w.releaseClose_meter
    refine ⟨_, rfl, hmgmt'.trans hmgmt, by rw [hstore', hstore]; rfl, by rw [hstore', hstore]; rfl,
      by rw [hstore', hstore]; rfl, by rw [htime, hband]; rfl, hnotices.trans hnoticed.1, fun hpark => ?_,
      fun h => absurd h hholdup, fun _ => ⟨htrip, hstage, hclosing, by rw [hengine]; rfl, ?_⟩⟩
    · exact State.noticed_of_grows hnoticed hnotices (State.releaseClose_grows (by rwa [hpower]))
    · rw [hstate', hacct]

/-- A tariff set put in force at a close after its copy was withdrawn and another committed. -/
theorem applicationClosed_withdrawn {s : State} {ts next : TariffSet} {app : AppRecord} {totals : Totals}
    {time : Nat} {rest : List StoreWrite} (hpowered : s.powered = true)
    (hw : s.writes = .application (.tariffSet ts) app totals time .close :: rest)
    (hremove : .slotRemove true ∈ rest) (hslot : s.mgmt.slot = ⟨some next, none⟩)
    (hcount : s.acct.totals.metrology < 4294967295) :
    ∃ u, exec .applicationComplete s = .next u
      ∧ u.mgmt =
        { s.mgmt with metrology := { s.mgmt.metrology with tariffSet := ts, tariffApp := some app } }
      ∧ u.store.slot = { s.store.slot with tariffSet := none }
      ∧ s.noticed u (.tariffApplied app.counter ts.general.version)
      ∧ u.meter.state = s.meter.state ∧ u.meter.closing = s.meter.closing
      ∧ (s.power.state = .holdup → u.meter.stage = .goOn ∧ u.writes = rest)
      ∧ (s.power.state ≠ .holdup → u.meter.stage = .applying
        ∧ u.acct.totals.metrology = s.acct.totals.metrology + 1
        ∧ u.writes = rest ++
          [.application (.tariffSet next)
            ⟨s.acct.totals.metrology + 1, s.now, s.time.backup.timeInvalid⟩ u.acct.totalsNow s.now
            .close]) := by
  let v := s.afterWrite (.application (.tariffSet ts) app totals time .close) rest
  let w := v.tariffStored ts app .close
  obtain ⟨hsame, hmgmt, -, -, hcounter, hinvalid, hnoticed, hstate, hclosing, -⟩ :=
    v.tariffStored_keeps ts app .close
  have hexec : exec .applicationComplete s = .next w.continueClose :=
    (exec_applicationComplete_of hpowered hw).trans (congrArg _ (State.applicationStored_close v ts app))
  have hkept : v.slotApplied (.tariffSet ts) .close = s.mgmt.slot := State.slotApplied_of_mem _ hremove
  rw [hkept] at hmgmt
  have halike : s.NoticesAlike v := ⟨rfl, rfl, rfl, rfl, rfl, rfl⟩
  have hoffer := halike.offerNotice (.tariffApplied app.counter ts.general.version)
  have hnoticed : s.noticed w (.tariffApplied app.counter ts.general.version) :=
    ⟨hnoticed.1.trans hoffer.notices, hoffer.queue ▸ hnoticed.2⟩
  have hstore : w.store = v.store := hsame .store (by simp)
  have hpower : w.power = s.power := hsame .power (by simp)
  have hacct : w.acct = s.acct := hsame .acct (by simp)
  have hwrites : w.writes = rest := hsame .writes (by simp)
  rw [hexec]
  by_cases hholdup : s.power.state = .holdup
  · rw [State.continueClose_holdup (by rw [hpower, hholdup])]
    exact ⟨_, rfl, hmgmt, by rw [hstore]; rfl, hnoticed, hstate, hclosing, fun _ => ⟨rfl, hwrites⟩,
      fun h => absurd hholdup h⟩
  · have hnext : w.mgmt.slot.nextCopy = some (.tariffSet next) := by
      rw [hmgmt]
      simp [PendingSlot.nextCopy, hslot]
    rw [State.continueClose_of (by rwa [hpower])]
    obtain ⟨hmeter, hmgmt', hstore', hnotices, hlink, hacct', hwrites'⟩ :=
      State.goOnClose_begins hnext (by rwa [hacct])
    refine ⟨_, rfl, hmgmt'.trans hmgmt, by rw [hstore', hstore]; rfl,
      State.noticed_of_grows hnoticed hnotices (State.grows_of_link hlink), by rw [hmeter]; exact hstate,
      by rw [hmeter]; exact hclosing, fun h => absurd h hholdup, fun _ => ⟨by rw [hmeter], ?_, ?_⟩⟩
    · rw [hacct', hacct]
    · rw [hwrites', hwrites, hacct, show w.now = s.now from hcounter,
        show w.time.backup.timeInvalid = s.time.backup.timeInvalid from hinvalid]

/-- The trip log's notices after a close: none, or one. -/
theorem State.logNotices_cases (s : State) : s.logNotices = s ∨ ∃ n, s.logNotices = s.offerNotice n := by
  unfold State.logNotices
  simp only
  split
  · exact .inr ⟨_, rfl⟩
  · split
    · exact .inr ⟨_, rfl⟩
    · exact .inl rfl

/-- The log notices leave all but the notice queue and the link. -/
theorem State.logNotices_sameBut (s : State) : s.sameBut [.notices, .link] s.logNotices := by
  rcases s.logNotices_cases with h | ⟨n, h⟩ <;> rw [h] <;> intro p hp <;> cases p <;>
    simp_all [Part.same]

/-- The state with the contributions of a closed trip merged (R186). -/
def State.merged (s : State) : State :=
  { s with acct := { s.acct with shift := s.acct.shiftNow, totals := s.acct.totalsNow, entry := none } }

theorem State.closeStored_eq (s : State) : s.closeStored = s.merged.logNotices.continueClose := rfl

theorem exec_closeUpdateComplete_of {s : State} {r : TripRecord} {c : ShiftCarry} {totals : Totals}
    {time last : Nat} {rest : List StoreWrite} (hpowered : s.powered = true)
    (hw : s.writes = .closeUpdate r c totals time last :: rest) (hreport : c.report = false) :
    exec .closeUpdateComplete s =
      .next (s.afterWrite (.closeUpdate r c totals time last) rest).closeStored := by
  have hnone : (StoreWrite.closeUpdate r c totals time last).report? = none := by
    simp [StoreWrite.report?, StoreWrite.carry?, hreport]
  refine congrArg Host.Outcome.next ((State.whenPowered_of _ hpowered).trans ?_)
  rw [State.takeWrite_head _ hw rfl rfl hnone]
  rfl

/-- A close whose update completes with a copy waiting begins that copy's application. -/
theorem closeUpdate_begins {s : State} {r : TripRecord} {c : ShiftCarry} {totals : Totals}
    {time last : Nat} {rest : List StoreWrite} {st : Staged} (hpowered : s.powered = true)
    (hholdup : s.power.state ≠ .holdup) (hw : s.writes = .closeUpdate r c totals time last :: rest)
    (hreport : c.report = false) (hnext : s.mgmt.slot.nextCopy = some st)
    (hcount : s.acct.totals.metrology < 4294967295) :
    ∃ u totals', exec .closeUpdateComplete s = .next u ∧ u.meter.stage = .applying
      ∧ u.meter.trip = s.meter.trip ∧ u.meter.state = s.meter.state ∧ u.mgmt = s.mgmt
      ∧ u.acct.totals.metrology = s.acct.totals.metrology + 1 ∧ totals' = u.acct.totals
      ∧ u.writes = rest ++
        [.application st ⟨s.acct.totals.metrology + 1, s.now, s.time.backup.timeInvalid⟩ totals' s.now
          .close] := by
  let v := (s.afterWrite (.closeUpdate r c totals time last) rest).merged
  have hsame := v.logNotices_sameBut
  have hacct : v.logNotices.acct = v.acct := hsame .acct (by simp)
  have hmgmt : v.logNotices.mgmt = s.mgmt := hsame .mgmt (by simp)
  have hmeter : v.logNotices.meter = s.meter := hsame .meter (by simp)
  have htime : v.logNotices.time = s.time := hsame .time (by simp)
  have hwrites : v.logNotices.writes = rest := hsame .writes (by simp)
  have hpower : v.logNotices.power = s.power := hsame .power (by simp)
  have htotal : v.acct.totals.metrology = s.acct.totals.metrology := totalsNow_metrology s.acct
  rw [exec_closeUpdateComplete_of hpowered hw hreport, State.closeStored_eq,
    State.continueClose_of (s := v.logNotices) (by rwa [hpower])]
  obtain ⟨hmeter', hmgmt', -, -, -, hacct', hwrites'⟩ :=
    State.goOnClose_begins (s := v.logNotices) (by rwa [hmgmt]) (by rwa [hacct, htotal])
  have hnone : v.logNotices.goOnClose.acct.totalsNow = v.logNotices.goOnClose.acct.totals := by
    rw [hacct', hacct]
    rfl
  refine ⟨_, _, rfl, by rw [hmeter'], by rw [hmeter', hmeter], by rw [hmeter', hmeter],
    hmgmt'.trans hmgmt, ?_, rfl, ?_⟩
  · rw [hacct', hacct, ← htotal]
  · rw [hwrites', hwrites, hnone, hacct, htotal]
    simp only [State.now, htime]

theorem nextCopy_of {p : PendingSlot} {st : Staged}
    (h : (p.calibration.map Staged.calibration).or (p.tariffSet.map Staged.tariffSet) = some st) :
    p.nextCopy = some st := by
  rw [← h]
  obtain ⟨t, c⟩ := p
  cases c <;> cases t <;> rfl

/-- Each opening of the metrology switch of a powered part is noticed. -/
theorem metrologySwitch (s : State) :
    (s.powered = true → s.pins.metrologyOpen = false →
      ∃ t, exec .metrologySwitchOpen s = .next t ∧ s.sameBut [.pins, .notices, .link] t
        ∧ t.pins = { s.pins with metrologyOpen := true }
        ∧ t.notices.nextSeq = (s.notices.nextSeq + 1) % 65536 ∧ s.noticed t .metrologyOpen)
    ∧ ((s.powered = false ∨ s.pins.metrologyOpen = true) →
      exec .metrologySwitchOpen s = .next { s with pins := { s.pins with metrologyOpen := true } })
    ∧ exec .metrologySwitchClose s = .next { s with pins := { s.pins with metrologyOpen := false } } := by
  refine ⟨fun hpowered hpin => ?_, fun h => congrArg Host.Outcome.next (if_neg ?_), rfl⟩
  · let v : State := { s with pins := { s.pins with metrologyOpen := true } }
    have halike : s.NoticesAlike v := ⟨rfl, rfl, rfl, rfl, rfl, rfl⟩
    refine ⟨v.offerNotice .metrologyOpen, congrArg Host.Outcome.next (if_pos (by simp [hpowered, hpin])),
      fun p hp => ?_, by simp [v], by simp [v], State.noticed_offerNotice halike _⟩
    cases p <;> simp_all [Part.same, v]
  · rcases h with h | h <;> simp [h]

/-- Settles O24. -/
theorem applicationPutsInForce : Obligations.ApplicationPutsInForce :=
  ⟨fun _ _ _ _ _ _ _ _ hpowered hrun hseg hw => applicationCommitted_calibration hpowered hrun hseg hw,
    fun _ _ _ _ _ _ _ _ hpowered hrun hseg hw => applicationCommitted_tariffSet hpowered hrun hseg hw,
    fun _ _ _ _ _ _ hpowered hw hcal hremove => applicationClosed_last hpowered hw hcal hremove,
    fun _ _ _ _ _ _ _ hpowered hw hremove hslot hcount =>
      applicationClosed_withdrawn hpowered hw hremove hslot hcount,
    fun _ _ _ _ _ _ _ _ hpowered hholdup hw hreport hnext hcount =>
      closeUpdate_begins hpowered hholdup hw hreport (nextCopy_of hnext) hcount,
    metrologySwitch⟩

end Sys2Proof.Machine
end

section
/-! ### Queues and waiting writes that only grow -/

namespace Sys2Proof.Machine

open Sys2Proof

/-- The transmit queues and the waiting writes of `t` begin with those of `s`. -/
def State.appends (s t : State) : Prop := s.grows t ∧ s.writes <+: t.writes

theorem State.appends_refl (s : State) : s.appends s := ⟨s.grows_refl, List.prefix_refl _⟩

theorem State.appends_trans {s t u : State} (h : s.appends t) (h' : t.appends u) : s.appends u :=
  ⟨State.grows_trans h.1 h'.1, h.2.trans h'.2⟩

/-- Growth of the queues where the waiting writes stand. -/
theorem State.appends_of_grows {s t : State} (h : s.grows t) (hw : t.writes = s.writes) : s.appends t :=
  ⟨h, hw ▸ List.prefix_refl _⟩

/-- A state with the same link and waiting writes. -/
theorem State.appends_of_eq {s t : State} (hl : t.link = s.link) (hw : t.writes = s.writes) :
    s.appends t := State.appends_of_grows (State.grows_of_link hl) hw

/-- Growth after a change that leaves the link and the waiting writes alone. -/
theorem State.appends_after {s t u : State} (hl : t.link = s.link) (hw : t.writes = s.writes)
    (h : t.appends u) : s.appends u := State.appends_trans (State.appends_of_eq hl hw) h

theorem State.appends_ite {s a b : State} {c : Prop} [Decidable c] (ha : s.appends a) (hb : s.appends b) :
    s.appends (if c then a else b) := by
  split
  · exact ha
  · exact hb

section
variable (s : State)

theorem State.begin_appends (w : StoreWrite) : s.appends (s.begin w) :=
  ⟨State.grows_of_link rfl, List.prefix_append _ _⟩

theorem State.beginCarrying_appends (w : StoreWrite) : s.appends (s.beginCarrying w) :=
  State.appends_trans (s.begin_appends w) (State.appends_of_eq rfl rfl)

theorem State.beginCheckpoint_appends (r : Option Ref) : s.appends (s.beginCheckpoint r) := by
  unfold State.beginCheckpoint
  exact State.appends_trans (s.beginCarrying_appends (.checkpoint s.saveRecord s.meter.lastAssigned
    s.acct.carry s.acct.totalsNow r)) (State.appends_of_eq (by simp) (by simp))

theorem State.offerRole_appends (r : Role) (c : Content) : s.appends (s.offerRole r c).1 :=
  State.appends_of_grows (s.offerRole_grows r c) (by simp)

theorem State.send_appends (a : NodeAddr) (c : Content) : s.appends (s.send a c) :=
  State.appends_of_grows (State.offerFrame_grows ..) (by simp)

theorem State.mgmtRespond_appends (rq : Req) (op : OpName) (t : Target) (r : MgmtResult) (d : RespData) :
    s.appends (s.mgmtRespond rq op t r d) := s.send_appends _ _

theorem State.consoleRespond_appends (rq : Req) (n : ConsoleName) (r : ConsoleResult) (d : ConsoleData) :
    s.appends (s.consoleRespond rq n r d) := s.offerRole_appends _ _

theorem State.drain_appends : s.appends s.drain := State.appends_of_grows s.drain_grows (by simp)

theorem State.offerNotice_appends (n : Notice) : s.appends (s.offerNotice n) :=
  State.appends_of_grows (s.offerNotice_grows n) (by simp)

theorem State.tryView_appends (d : ViewDest) : s.appends (s.tryView d) :=
  State.appends_of_grows (s.tryView_grows d) (by simp)

theorem State.markViews_appends : s.appends s.markViews :=
  State.appends_of_grows s.markViews_grows (by simp)

theorem State.tryAdvice_appends : s.appends s.tryAdvice :=
  State.appends_of_grows s.tryAdvice_grows (by simp)

theorem State.trigger_appends (t : Trigger) : s.appends (s.trigger t) :=
  State.appends_of_eq (by simp) (by simp)

theorem State.replyReader_appends (q : Nat) (r : ReaderResult) (t : Option ReplyTender) :
    s.appends (s.replyReader q r t) := by
  have hoffer := s.offerRole_appends .reader (.payResp q r t)
  unfold State.replyReader
  split
  · next x hx =>
    rw [hx] at hoffer
    exact hoffer
  · next x hx =>
    rw [hx] at hoffer
    exact State.appends_trans hoffer (State.appends_of_eq rfl rfl)

theorem State.setSession_appends (x : Session) : s.appends (s.setSession x) := by
  refine State.appends_after (t := { s with pay := { s.pay with session := x } }) rfl rfl ?_
  exact State.appends_ite (State.appends_refl _) (State.markViews_appends _)

theorem State.endSession_appends : s.appends s.endSession := by
  refine State.appends_after
    (t := { s with pay := { s.pay with held := none, auth := .stopped, authExpired := false } }) rfl rfl
    (State.appends_trans (State.setSession_appends _ .idle) ?_)
  exact State.appends_ite (State.tryAdvice_appends _) (State.appends_refl _)

theorem State.joinAdvice_appends (r : AdviceRecord) : s.appends (s.joinAdvice r) := by
  unfold State.joinAdvice
  refine State.appends_ite ?_ (State.appends_ite s.appends_refl (s.offerNotice_appends _))
  refine State.appends_after (t := { s with pay := { s.pay with advice := s.pay.advice ++ [r] } }) rfl rfl
    (State.appends_trans (State.begin_appends _ (.adviceSet r)) ?_)
  exact State.appends_trans (State.appends_ite (State.offerNotice_appends _ _) (State.appends_refl _))
    (State.tryAdvice_appends _)

theorem State.beginClose_appends (u : Nat) : s.appends (s.beginClose u) := by
  unfold State.beginClose
  split
  · exact s.appends_refl
  · refine State.appends_trans (State.appends_after ?_ ?_ (State.markViews_appends _))
      (State.beginCarrying_appends _ _)
    · simp
    · simp

theorem State.reportDue_appends : s.appends s.reportDue := by
  unfold State.reportDue
  refine State.appends_ite ?_ s.markViews_appends
  exact State.appends_trans s.markViews_appends (State.beginClose_appends _ 0)

theorem State.finishCard_appends (t : Tender) (f : CardFields) (r : ReaderResult) (tr : Trigger) :
    s.appends (s.finishCard t f r tr) := by
  unfold State.finishCard
  have hends := State.appends_trans (s.replyReader_appends f.requestId r
    (some ⟨f.ref, t.amount, t.tip, f.authCode⟩)) (State.appends_trans (State.trigger_appends _ tr)
      (State.endSession_appends _))
  exact State.appends_ite (State.appends_trans hends (State.reportDue_appends _)) hends

theorem State.decideOffline_appends : s.appends s.decideOffline := by
  unfold State.decideOffline
  split
  · exact s.appends_refl
  split
  · exact s.appends_refl
  refine State.appends_ite ?_ ?_
  all_goals
    refine State.appends_trans ?_ (State.finishCard_appends _ _ _ _ _)
    refine State.appends_trans ?_
      (State.appends_ite (State.joinAdvice_appends _ _) (State.appends_refl _))
    exact State.appends_after (by simp [State.modTender]) (by simp [State.modTender])
      (State.appends_trans (State.beginCheckpoint_appends _ none) (State.appends_of_eq rfl rfl))

theorem State.setMeterState_appends (m : MeterState) : s.appends (s.setMeterState m) := by
  unfold State.setMeterState
  refine State.appends_trans ?_ (State.markViews_appends _)
  refine State.appends_trans ?_ (State.beginCheckpoint_appends _ none)
  split
  · exact State.appends_of_eq (by simp) (by simp)
  · exact State.appends_of_eq (by simp) (by simp)

theorem State.testInterlock_appends : s.appends s.testInterlock := by
  unfold State.testInterlock
  refine State.appends_ite ?_ s.appends_refl
  exact State.appends_trans (s.setSession_appends _) (State.trigger_appends _ _)

theorem State.modemLost_appends : s.appends s.modemLost :=
  State.appends_ite s.decideOffline_appends s.appends_refl

theorem State.readerLost_appends : s.appends s.readerLost := by
  unfold State.readerLost
  split
  · exact s.endSession_appends
  · exact s.endSession_appends
  · exact s.appends_refl

theorem State.viewAvailable_appends (old : State) (d : ViewDest) : s.appends (old.viewAvailable s d) := by
  unfold State.viewAvailable
  refine State.appends_ite ?_ s.appends_refl
  exact State.appends_after (by simp) (by simp) (State.tryView_appends _ d)

theorem State.watchHolder_appends (old : State) : s.appends (old.watchHolder s) :=
  State.appends_of_eq (by simp) (by simp)

/-- What follows a role's availability leaves every frame and every waiting write in its place. -/
theorem State.followPresence_appends (old : State) : s.appends (old.followPresence s) := by
  have hafter : ∀ {u v : State}, s.appends u → u.appends v → s.appends v := State.appends_trans
  unfold State.followPresence
  refine hafter (hafter (hafter (hafter (hafter (hafter (hafter (s.watchHolder_appends old)
    (State.appends_ite (State.drain_appends _) (State.appends_refl _)))
    (State.viewAvailable_appends _ old .console)) (State.viewAvailable_appends _ old .paxDisplay))
    (State.appends_ite (State.testInterlock_appends _) (State.appends_refl _)))
    (State.appends_ite ?_ (State.appends_ite (State.appends_of_eq ?_ ?_) (State.appends_refl _))))
    (State.appends_ite (State.modemLost_appends _) (State.appends_refl _)))
    (State.appends_ite (State.readerLost_appends _) (State.appends_refl _))
  · exact State.appends_after (by simp) (by simp) (State.tryAdvice_appends _)
  · simp
  · simp

end
end Sys2Proof.Machine
end

section
/-! ### Sign table and role writes (R118 to R120, R127, R17, R18) -/

namespace Sys2Proof.Machine

open Sys2Proof

theorem litValue_iff (o : Option LampValue) : litValue o = true ↔ ∃ v, o = some v ∧ v ≠ .off := by
  cases o with
  | none => simp [litValue]
  | some v => cases v <;> simp [litValue]

section
variable {s : State}

theorem State.patternValue_iff (place i : Nat) (v : LampValue) :
    s.patternValue place i = some v ↔ ∃ p, s.tables.patterns[place]? = some p ∧ p[i]? = some (some v) := by
  rw [State.patternValue, Option.join_eq_some_iff, Option.bind_eq_some_iff]

/-- The HIRED or PAY pattern lights a place. -/
theorem State.litWhenHired_iff (i : Nat) :
    s.litWhenHired i = true ↔ ∃ k p v, (k = 2 ∨ k = 3) ∧ s.tables.patterns[k]? = some p
      ∧ p[i]? = some (some v) ∧ v ≠ LampValue.off := by
  simp only [State.litWhenHired, Bool.or_eq_true, litValue_iff, State.patternValue_iff]
  constructor
  · rintro (⟨v, ⟨p, hp, hv⟩, hoff⟩ | ⟨v, ⟨p, hp, hv⟩, hoff⟩)
    · exact ⟨2, p, v, .inl rfl, hp, hv, hoff⟩
    · exact ⟨3, p, v, .inr rfl, hp, hv, hoff⟩
  · rintro ⟨k, p, v, rfl | rfl, hp, hv, hoff⟩
    · exact .inl ⟨v, ⟨p, hp, hv⟩, hoff⟩
    · exact .inr ⟨v, ⟨p, hp, hv⟩, hoff⟩

theorem channelValid_iff (c : ChannelEntry) :
    channelValid c = true ↔ c.minMa ≤ 3999 ∧ c.minMa < c.maxMa ∧ c.maxMa ≤ 4000 := by
  simp only [channelValid, within, Bool.and_eq_true, decide_eq_true_eq]
  omega

/-- A channel entry fits a VACANT role. -/
theorem vacantFits_iff (c : ChannelEntry) (i : Nat) :
    (c.role = .vacant → c.owner = .sign ∧ ¬s.litWhenHired i = true) ↔
      ¬(c.role = .vacant ∧ c.owner = .aux) ∧ ¬(c.role = .vacant ∧ s.litWhenHired i = true) := by
  cases c.owner with
  | sign => simp
  | aux => simp; tauto

/-- The tests of R119 in their order. -/
theorem State.channelRefusal_eq (i : Nat) (c : ChannelEntry) :
    (¬channelValid c = true → s.channelRefusal i c = some .badValue)
    ∧ (channelValid c = true → s.tripOpen = true →
      ¬(c.role = (s.channel i).role ∧ c.owner = (s.channel i).owner) →
      s.channelRefusal i c = some .busy)
    ∧ (channelValid c = true →
      (s.tripOpen = true → c.role = (s.channel i).role ∧ c.owner = (s.channel i).owner) →
      ¬(c.role = .vacant → c.owner = .sign ∧ ¬s.litWhenHired i = true) →
      s.channelRefusal i c = some .badValue)
    ∧ (channelValid c = true →
      (s.tripOpen = true → c.role = (s.channel i).role ∧ c.owner = (s.channel i).owner) →
      (c.role = .vacant → c.owner = .sign ∧ ¬s.litWhenHired i = true) →
      s.channelRefusal i c = none) := by
  simp only [State.tripOpen_iff, vacantFits_iff]
  unfold State.channelRefusal
  refine ⟨fun h => if_pos (by simpa using h), fun h ht hk => ?_, fun h hk hv => ?_, fun h hk hv => ?_⟩
  · rw [if_neg (by simp [h]), if_pos ⟨ht, by tauto⟩]
  · rw [if_neg (by simp [h]), if_neg (by tauto)]
    split
    · rfl
    · rw [if_pos (by tauto)]
  · rw [if_neg (by simp [h]), if_neg (by tauto), if_neg hv.1, if_neg hv.2]

/-- A composition reads nothing that it writes. -/
theorem State.recompose_sign (s : State) :
    s.recompose.sign = { s.sign with lamps := s.sign.lamps.mapIdx s.recompose.driveChannel } := rfl

/-- A sign table entry replaced, and every channel composed anew. -/
theorem State.replaceEntry_recompose (s : State) (rq : Req) (t : Target) (e : TableEntry) :
    let u := (s.replaceEntry rq t e).recompose
    s.sameBut [.tables, .sign, .writes] u ∧ u.tables = s.tables.setEntry e
      ∧ u.writes = s.writes ++ [.table e rq t]
      ∧ u.sign = { s.sign with lamps := s.sign.lamps.mapIdx u.driveChannel } :=
  ⟨fun p hp => by cases p <;> simp_all [Part.same, State.replaceEntry], rfl, rfl, rfl⟩

/-- A pattern lights a VACANT channel. -/
theorem State.patternFits_iff (n : PatternName) (p : Pattern) :
    s.patternFits n p = true ↔ p.length = 6 ∧ ¬((n = .hired ∨ n = .pay) ∧
      ∃ i v, i < 6 ∧ (s.channel i).role = .vacant ∧ p[i]? = some (some v) ∧ v ≠ LampValue.off) := by
  have hlit : ∀ i : Nat, litValue (p[i]?).join = true ↔ ∃ v, p[i]? = some (some v) ∧ v ≠ LampValue.off := by
    intro i
    simp only [litValue_iff, Option.join_eq_some_iff]
  simp only [State.patternFits, Bool.and_eq_true, beq_iff_eq, Bool.not_eq_true', ← Bool.not_eq_true, Bool.or_eq_true, List.any_eq_true, List.mem_range, hlit]
  refine and_congr_right fun _ => ?_
  refine not_congr (and_congr_right fun _ => ?_)
  exact ⟨fun ⟨i, hi, hv, v, hp⟩ => ⟨i, v, hi, hv, hp⟩, fun ⟨i, v, hi, hv, hp⟩ => ⟨i, hi, hv, v, hp⟩⟩

/-- A role entry that R17 and R18 refuse. -/
theorem State.roleMisfit_iff (a : NodeAddr) (e : RoleEntry) :
    (a.num = 0 ∨ ∃ r, e = .named r ∧ (roleSeg r ≠ a.seg ∨ ∃ b, s.holder r = some b ∧ b ≠ a))
      ↔ a.num = 0 ∨ s.roleFits a e = false := by
  refine or_congr_right ?_
  cases e with
  | named r =>
    cases hholder : s.holder r <;>
      simp [State.roleFits, hholder, imp_iff_not_or]
  | _ => simp [State.roleFits]

end

section
variable {s : State} {rq : Req}

/-- The obligation's part on the channels. -/
theorem signChannelWrite_decided (h : s.fromMgmt .write rq) {i : Nat} (c : ChannelEntry) (hi : 1 ≤ i)
    (hi' : i ≤ 6) :
    (∀ r, s.channelRefusal (i - 1) c = some r →
      ∃ t, exec (.signChannelWrite rq i (some c)) s = .next t
        ∧ s.sameBut [.link] t ∧ s.frontTook t (mgmtAnswer rq .write (.signTable i) r))
    ∧ (s.channelRefusal (i - 1) c = none →
      exec (.signChannelWrite rq i (some c)) s =
        .next (s.replaceEntry rq (.signTable i) (.channel (i - 1) c)).recompose) := by
  have hin : within 1 6 i = true := by simp [within, hi, hi']
  refine ⟨fun r hr => answered_of_eq (exec_mgmt_of h rfl ?_) h.1 h.2.1,
    fun hnone => exec_mgmt_of h rfl ?_⟩
  · simp [State.decideSignChannelWrite, State.whenAllowed, h.2.2, hin, hr]
  · simp [State.decideSignChannelWrite, State.whenAllowed, h.2.2, hin, hnone]

theorem signPatternWrite_decided (h : s.fromMgmt .write rq) (n : PatternName) (p : Pattern) :
    (s.patternFits n p = false →
      ∃ t, exec (.signPatternWrite rq n (some p)) s = .next t ∧ s.sameBut [.link] t
        ∧ s.frontTook t (mgmtAnswer rq .write (.signTable (7 + patternPlace n)) .badValue))
    ∧ (s.patternFits n p = true →
      exec (.signPatternWrite rq n (some p)) s =
        .next (s.replaceEntry rq (.signTable (7 + patternPlace n))
          (.pattern (patternPlace n) p)).recompose) := by
  refine ⟨fun hfits => answered_of_eq (exec_mgmt_of h rfl ?_) h.1 h.2.1,
    fun hfits => exec_mgmt_of h rfl ?_⟩
  · simp [State.decideSignPatternWrite, State.whenAllowed, h.2.2, hfits]
  · simp [State.decideSignPatternWrite, State.whenAllowed, h.2.2, hfits]

theorem brightnessWrite_decided (h : s.fromMgmt .write rq) (b : Brightness) :
    (brightnessValid b = false →
      ∃ t, exec (.brightnessWrite rq (some b)) s = .next t ∧ s.sameBut [.link] t
        ∧ s.frontTook t (mgmtAnswer rq .write (.signTable 0) .badValue))
    ∧ (brightnessValid b = true →
      exec (.brightnessWrite rq (some b)) s =
        .next (State.replaceEntry
          { s with sign := { s.sign with ambient := { s.sign.ambient with count := 0 } } } rq
          (.signTable 0) (.brightness b)).recompose) := by
  refine ⟨fun hfits => answered_of_eq (exec_mgmt_of h rfl ?_) h.1 h.2.1,
    fun hfits => exec_mgmt_of h rfl ?_⟩
  · simp [State.decideBrightnessWrite, State.whenAllowed, h.2.2, hfits]
  · simp [State.decideBrightnessWrite, State.whenAllowed, h.2.2, hfits]

/-- A role entry replaced, with its node's row. -/
def State.rewriteRole (s : State) (rq : Req) (a : NodeAddr) (e : RoleEntry) : State :=
  (s.replaceEntry rq (.roles a) (.role a e)).modNode a fun n => n.rewritten (s.roleEntry a) e

theorem rolesWrite_decided (h : s.fromMgmt .write rq) {a : NodeAddr} (e : RoleEntry) (ha : a.num ≤ 7) :
    (s.tripOpen = true →
      ∃ t, exec (.rolesWrite rq a (some e)) s = .next t
        ∧ s.sameBut [.link] t ∧ s.frontTook t (mgmtAnswer rq .write (.roles a) .busy))
    ∧ (s.tripOpen = false → (a.num = 0 ∨ s.roleFits a e = false) →
      ∃ t, exec (.rolesWrite rq a (some e)) s = .next t
        ∧ s.sameBut [.link] t ∧ s.frontTook t (mgmtAnswer rq .write (.roles a) .badValue))
    ∧ (s.tripOpen = false → ¬(a.num = 0 ∨ s.roleFits a e = false) →
      exec (.rolesWrite rq a (some e)) s =
        .next (s.followPresence (s.rewriteRole rq a e)).drain) := by
  have hin : decide (a.num ≤ 7) = true := by simp [ha]
  have hclosed : s.tripOpen = false → ¬(s.meter.state = .hired ∨ s.meter.state = .pay) :=
    fun hf ht => by simp [(State.tripOpen_iff s).mpr ht] at hf
  refine ⟨fun ht => answered_of_eq (exec_mgmt_of h rfl ?_) h.1 h.2.1,
    fun ht hm => answered_of_eq (exec_mgmt_of h rfl ?_) h.1 h.2.1,
    fun ht hm => exec_mgmt_of h rfl ?_⟩
  all_goals simp only [State.decideRolesWrite, hin, State.whenAllowed_of _ _ h.2.2]
  · exact if_pos ((State.tripOpen_iff s).mp ht)
  · exact (if_neg (hclosed ht)).trans (if_pos hm)
  · exact (if_neg (hclosed ht)).trans (if_neg hm)

/-- The row of a node in the table of its segment, after its role entry has been replaced. -/
theorem State.rewriteRole_nodes {a : NodeAddr} {e : RoleEntry} {n : NodeEntry} (ha : a.num ≠ 0)
    (hn : (s.port a.seg).nodes[a.num - 1]? = some n) :
    ((s.rewriteRole rq a e).port a.seg).nodes =
      (s.port a.seg).nodes.set (a.num - 1) (n.rewritten (s.roleEntry a) e) := by
  rw [State.rewriteRole, State.modNode, if_neg ha, State.port_modPort]
  exact modify_eq_set _ hn

theorem State.followed_drain_keeps (old u : State) (seg : Seg) :
    (old.followPresence u).drain.tables = u.tables
      ∧ ((old.followPresence u).drain.port seg).nodes = (u.port seg).nodes
      ∧ ∀ w ∈ u.writes, w ∈ (old.followPresence u).drain.writes := by
  have hstill : (old.followPresence u).drain.link.still = u.link.still := by simp
  refine ⟨by simp, by rw [State.port_of_still hstill], fun w hw => ?_⟩
  exact (State.appends_trans (u.followPresence_appends old) (State.drain_appends _)).2.subset hw

end

/-- Settles O19: each write by its decision. -/
theorem signAndRoleWritesApply : Obligations.SignAndRoleWritesApply := by
  refine ⟨fun rq s h => ⟨fun i c hi hi' => ?_, fun n p => ?_, fun b hb => ?_, fun b hb => ?_⟩,
    fun rq a e s h ha => ?_⟩
  · intro old lit valid kept vacantFits refused
    obtain ⟨hrefused, haccepted⟩ := signChannelWrite_decided h c hi hi'
    obtain ⟨hbad, hbusy, hvacant, hnone⟩ := State.channelRefusal_eq (s := s) (i - 1) c
    rw [channelValid_iff, State.litWhenHired_iff] at hvacant hnone
    rw [channelValid_iff] at hbad hbusy
    refine ⟨fun hv => hrefused _ (hbad hv), fun hv ht hk => hrefused _ (hbusy hv ht hk),
      fun hv hk hf => hrefused _ (hvacant hv hk hf), fun hv hk hf => ?_⟩
    obtain ⟨hsame, htables, hwrites, hsign⟩ :=
      s.replaceEntry_recompose rq (.signTable i) (.channel (i - 1) c)
    exact ⟨_, haccepted (hnone hv hk hf), hsame, htables, hwrites, hsign⟩
  · intro clash
    obtain ⟨hrefused, haccepted⟩ := signPatternWrite_decided h n p
    have hfits := State.patternFits_iff (s := s) n p
    refine ⟨fun hbad => hrefused ?_, fun hlen hclash => ?_⟩
    · rw [← Bool.not_eq_true, hfits]
      rintro ⟨hlen, hclash⟩
      exact hbad.elim (fun hne => hne hlen) hclash
    · obtain ⟨hsame, htables, hwrites, hsign⟩ := s.replaceEntry_recompose rq
        (.signTable (7 + patternPlace n)) (.pattern (patternPlace n) p)
      exact ⟨_, haccepted (hfits.mpr ⟨hlen, hclash⟩), hsame, htables, hwrites, hsign⟩
  · exact (brightnessWrite_decided h b).1 hb
  · obtain ⟨hsame, htables, hwrites, hsign⟩ := State.replaceEntry_recompose
      { s with sign := { s.sign with ambient := { s.sign.ambient with count := 0 } } } rq (.signTable 0)
      (.brightness b)
    refine ⟨_, (brightnessWrite_decided h b).2 hb, fun p hp => ?_, htables, hwrites, by rw [hsign],
      by rw [hsign]⟩
    have hp' := hsame p hp
    cases p <;> simp_all [Part.same]
  · intro misfit refused
    obtain ⟨hbusy, hbad, haccepted⟩ := rolesWrite_decided h e ha
    have hmisfit := State.roleMisfit_iff (s := s) a e
    refine ⟨hbusy, fun ht hm => hbad ht (hmisfit.mp hm), fun n ht hm hn => ?_⟩
    have hzero : a.num ≠ 0 := fun hzero => hm (.inl hzero)
    obtain ⟨htables, hnodes, hwrites⟩ := State.followed_drain_keeps s (s.rewriteRole rq a e) a.seg
    refine ⟨_, haccepted ht (mt hmisfit.mpr hm), ?_, ?_, hwrites _ ?_⟩
    · rw [htables]
      simp [State.rewriteRole, State.replaceEntry]
    · rw [hnodes, State.rewriteRole_nodes hzero hn]
      rfl
    · simp [State.rewriteRole, State.replaceEntry, State.begin]

end Sys2Proof.Machine
end

section
/-! ### The meter interval event: prescaler and distance input (3.1, 3.2, chapter 4) -/

namespace Sys2Proof.Machine

open Sys2Proof

/-- More parts may be listed than change. -/
theorem State.sameBut_mono {l l' : List Part} {s t : State} (h : s.sameBut l t) (hl : l ⊆ l') :
    s.sameBut l' t := fun p hp => h p fun hmem => hp (hl hmem)

theorem State.sameBut_refl (l : List Part) (s : State) : s.sameBut l s := fun p _ => by
  cases p <;> rfl

/-! #### What an interval leaves alone -/

theorem State.takeInterval_sameBut (s : State) (p : Nat) :
    s.sameBut [.link, .engine, .meter, .acct] (s.takeInterval p) := by
  unfold State.takeInterval
  split
  · intro p hp
    cases p <;> simp_all [Part.same]
  · exact s.sameBut_refl _

theorem State.credit_sameBut (s : State) (m : Nat) : s.sameBut [.meter, .acct] (s.credit m) := by
  unfold State.credit
  simp only
  split <;> intro p hp <;> cases p <;> simp_all [Part.same]

theorem State.noticeOverrate_sameBut (s : State) (raw : Nat) :
    s.sameBut [.link, .notices, .distance] (s.noticeOverrate raw) := by
  unfold State.noticeOverrate
  simp only
  split <;> intro p hp <;> cases p <;> simp_all [Part.same]

/-- The distance input's counts after a notice of the interval: the mark alone may be set. -/
theorem State.noticeOverrate_distance (s : State) (raw : Nat) :
    ∃ b, (s.noticeOverrate raw).distance = { s.distance with overrateMark := b } := by
  unfold State.noticeOverrate
  simp only
  split
  · exact ⟨true, by simp⟩
  · exact ⟨s.distance.overrateMark, rfl⟩

/-- The clamped count of the interval that ends (R59). -/
def Distance.clamped (d : Distance) : Nat := min d.count d.pMax

/-- A calibrated interval after its notice, with its metres credited. -/
def State.credited (s : State) : State :=
  (State.noticeOverrate { s with distance := s.distance.closeInterval } s.distance.count).credit
    s.distance.metres

theorem State.credited_sameBut (s : State) :
    s.sameBut [.link, .notices, .distance, .meter, .acct] s.credited := by
  have hclosed : s.sameBut [.link, .notices, .distance, .meter, .acct]
      { s with distance := s.distance.closeInterval } := fun p hp => by
    cases p <;> simp_all [Part.same]
  refine State.sameBut_trans hclosed (State.sameBut_trans
    (State.sameBut_mono (State.noticeOverrate_sameBut _ _) ?_)
    (State.sameBut_mono (State.credit_sameBut _ _) ?_))
  · decide
  · decide

/-- A meter interval of a stopped input does nothing. -/
theorem State.distanceInterval_stopped {s : State} (h : s.distance.running = false) :
    s.distanceInterval = s := by simp [State.distanceInterval, h]

/-- A meter interval of a running input never calibrated takes the count. -/
theorem State.distanceInterval_uncalibrated {s : State} (h : s.distance.running = true)
    (hk : s.distance.k = 0) :
    s.distanceInterval = { s with distance := s.distance.closeInterval.adopt } := by
  simp [State.distanceInterval, h, hk]

/-- A meter interval of a running, calibrated input. -/
theorem State.distanceInterval_calibrated {s : State} (h : s.distance.running = true)
    (hk : s.distance.k ≠ 0) :
    s.distanceInterval =
      { s.credited.takeInterval s.distance.clamped with
        distance := (s.credited.takeInterval s.distance.clamped).distance.adopt } := by
  simp only [State.distanceInterval, h, if_true, hk, if_false]
  rfl

theorem State.distanceInterval_sameBut (s : State) :
    s.sameBut [.link, .notices, .distance, .engine, .meter, .acct] s.distanceInterval := by
  by_cases h : s.distance.running = true
  · by_cases hk : s.distance.k = 0
    · rw [State.distanceInterval_uncalibrated h hk]
      intro p hp
      cases p <;> simp_all [Part.same]
    · have hinterval := State.sameBut_trans (l := [.link, .notices, .distance, .engine, .meter, .acct])
        (State.sameBut_mono s.credited_sameBut (by decide))
        (State.sameBut_mono (s.credited.takeInterval_sameBut s.distance.clamped) (by decide))
      rw [State.distanceInterval_calibrated h hk]
      intro p hp
      have hp' := hinterval p hp
      cases p <;> simp_all [Part.same]
  · rw [State.distanceInterval_stopped (by simpa using h)]
    exact s.sameBut_refl _

/-- The prescaler's period ended, while the backup domain has power. -/
theorem State.takeTrim_of (s : State) (h : s.time.backup.alive = true) :
    s.takeTrim =
      { s with
        time :=
          { s.time with backup := s.time.backup.interval s.time.newTrim, newTrim := none } } := by
  simp [State.takeTrim, State.modBackup, h]

theorem State.sameBut_time (s : State) (t : TimeBase) : s.sameBut [.time] { s with time := t } :=
  fun p hp => by cases p <;> simp_all [Part.same]

/-- What a meter interval event does after the prescaler's part. -/
def State.intervalTail (s : State) : State :=
  let s := s.distanceInterval
  State.recompose (State.countTest { s with meter := { s.meter with correction := s.meter.correction - 1 } })

theorem exec_meterInterval (s : State) :
    exec .meterInterval s =
      .next (if s.takeTrim.powered then s.takeTrim.intervalTail else s.takeTrim) := rfl

/-- Beyond the distance input's own work an interval touches the correction window and the sign. -/
theorem State.intervalTail_of_distanceInterval (s : State) :
    s.intervalTail.meter = { s.distanceInterval.meter with
        correction := s.distanceInterval.meter.correction - 1 }
      ∧ State.sameBut [.meter, .sign] s.distanceInterval s.intervalTail := by
  refine ⟨by simp [State.intervalTail], fun p hp => ?_⟩
  cases p <;> simp_all [Part.same, State.intervalTail]

/-! #### The prescaler -/

theorem baseLengths_sum : ((List.range 5).map fun i => baseLength (i + 1)).sum = 16384 := by decide

/-- The prescaler at the end of a period (R42 to R44). -/
theorem Backup.interval_decided (b : Backup) (new : Option Trim) (hlow : 1 ≤ b.position)
    (hhigh : b.position ≤ 5) :
    let b' := b.interval new
    b'.position = b.position % 5 + 1 ∧ b'.inSecond = (b.inSecond + 1) % 10
      ∧ b'.counter = b.counter ∧ b'.timeInvalid = b.timeInvalid ∧ b'.keptBand = b.keptBand
      ∧ b'.phaseA = (if b.position = 5 ∧ b'.inSecond ≠ 0 then false else b.phaseA)
      ∧ (∀ tr, new = some tr →
        b'.trim = tr ∧ b'.trimCount = 0 ∧ b'.length = baseLength b'.position)
      ∧ (new = none → b'.trim = b.trim
        ∧ (b.trim.n = 0 → b'.length = baseLength b'.position ∧ b'.trimCount = b.trimCount)
        ∧ (b.trim.n ≠ 0 → b.trimCount + 1 < b.trim.n →
          b'.length = baseLength b'.position ∧ b'.trimCount = b.trimCount + 1)
        ∧ (b.trim.n ≠ 0 → b.trim.n ≤ b.trimCount + 1 → b'.trimCount = 0
          ∧ b'.length =
            if b.trim.plus then baseLength b'.position + 1 else baseLength b'.position - 1)) := by
  intro b'
  have hposition : (if b.position < 5 then b.position + 1 else 1) = b.position % 5 + 1 := by
    split <;> omega
  have hb' : b' = b.interval new := rfl
  cases new with
  | some tr =>
    simp [hb', Backup.interval, hposition]
  | none =>
    simp only [hb', Backup.interval, hposition]
    by_cases hn : b.trim.n = 0
    · simp [hn]
    · by_cases hcount : b.trim.n ≤ b.trimCount + 1
      · simp [hn, hcount, trimmed, Nat.not_lt.mpr hcount]
      · simp [hn, hcount]

theorem State.powered_eq_false_iff (s : State) : s.powered = false ↔ s.power.state = .off := by
  simp [State.powered]

/-- Settles O26: the prescaler by `Backup.interval_decided`; a part without supply takes nothing else. -/
theorem backupDomainRuns : Obligations.BackupDomainRuns := by
  refine ⟨baseLengths_sum, fun s halive hlow hhigh => ?_⟩
  intro b
  have htrim := s.takeTrim_of halive
  refine ⟨?_, fun hn => ⟨s.time.backup.expireTrim, ?_, if_neg hn⟩, fun hpower => ?_, fun hpower => ?_⟩
  · have hdecided := Backup.interval_decided s.time.backup s.time.newTrim hlow hhigh
    rw [exec_meterInterval]
    by_cases hpowered : s.takeTrim.powered = true
    · rw [if_pos hpowered]
      have htime : s.takeTrim.intervalTail.time = s.takeTrim.time :=
        (s.takeTrim.intervalTail_of_distanceInterval.2 .time (by decide)).trans
          (s.takeTrim.distanceInterval_sameBut .time (by decide))
      refine ⟨_, _, rfl, htime.trans (by rw [htrim]), fun hoff => ?_, hdecided⟩
      rw [htrim] at hpowered
      simp [State.powered, hoff] at hpowered
    · rw [if_neg hpowered]
      exact ⟨_, _, rfl, by rw [htrim], fun _ => htrim ▸ s.sameBut_time _, hdecided⟩
  · refine congrArg Host.Outcome.next ?_
    simp [State.modBackup, halive]
  · exact congrArg Host.Outcome.next (if_pos (by simpa [State.powered] using hpower))
  · exact ⟨_, congrArg Host.Outcome.next (if_neg (by simp [State.powered, hpower])), s.sameBut_time _,
      rfl, rfl, rfl, rfl, rfl, rfl, rfl, rfl, rfl⟩

end Sys2Proof.Machine
end

section
/-! ### Metres of an interval, and the glitch filter (4.1 to 4.5) -/

namespace Sys2Proof.Machine

open Sys2Proof

/-- The prescaler's part changes the time base alone. -/
theorem State.takeTrim_eq (s : State) : ∃ x, s.takeTrim = { s with time := x } := by
  unfold State.takeTrim State.modBackup
  split <;> exact ⟨_, rfl⟩

theorem State.completeStep_totalM (s : State) :
    s.completeStep.acct.totals.totalM = s.acct.totals.totalM := by
  unfold State.completeStep
  split
  · rfl
  · simp only
    split <;> simp

theorem State.completeSteps_totalM (n : Nat) (s : State) :
    (s.completeSteps n).acct.totals.totalM = s.acct.totals.totalM := by
  induction n generalizing s with
  | zero => rfl
  | succ n ih => exact (ih _).trans s.completeStep_totalM

theorem State.takeInterval_totalM (s : State) (p : Nat) :
    (s.takeInterval p).acct.totals.totalM = s.acct.totals.totalM := by
  unfold State.takeInterval
  split
  · exact State.completeSteps_totalM _ _
  · rfl

theorem State.credit_totalM (s : State) (m : Nat) :
    (s.credit m).acct.totals.totalM = min (s.acct.totals.totalM + m) 4294967295 := by
  unfold State.credit
  simp only
  split <;> rfl

theorem Distance.adopt_of_none {d : Distance} (h : d.incoming = none) : d.adopt = d := by
  simp [Distance.adopt, h]

theorem Distance.closeInterval_incoming (d : Distance) : d.closeInterval.incoming = d.incoming := by
  unfold Distance.closeInterval
  split <;> rfl

/-- The distance input after a calibrated interval with no calibration handed over. -/
theorem State.distanceInterval_distance {s : State} (h : s.distance.running = true)
    (hk : s.distance.k ≠ 0) (hnone : s.distance.incoming = none) :
    ∃ b, s.distanceInterval.distance = { s.distance.closeInterval with overrateMark := b } := by
  obtain ⟨b, hb⟩ := State.noticeOverrate_distance { s with distance := s.distance.closeInterval }
    s.distance.count
  have hcredit : s.credited.distance = { s.distance.closeInterval with overrateMark := b } :=
    (State.credit_sameBut _ _ .distance (by decide)).trans hb
  have htaken : (s.credited.takeInterval s.distance.clamped).distance = s.credited.distance :=
    State.takeInterval_sameBut _ _ .distance (by decide)
  refine ⟨b, ?_⟩
  rw [State.distanceInterval_calibrated h hk]
  simp only [htaken, hcredit]
  exact Distance.adopt_of_none ((Distance.closeInterval_incoming _).trans hnone)

theorem State.distanceInterval_totalM {s : State} (h : s.distance.running = true)
    (hk : s.distance.k ≠ 0) :
    s.distanceInterval.acct.totals.totalM =
      min (s.acct.totals.totalM + s.distance.metres) 4294967295 := by
  rw [State.distanceInterval_calibrated h hk]
  simp only [State.takeInterval_totalM, State.credited, State.credit_totalM]
  have hacct : (State.noticeOverrate { s with distance := s.distance.closeInterval }
      s.distance.count).acct = s.acct := State.noticeOverrate_sameBut _ _ .acct (by decide)
  rw [hacct]

/-- A powered part's interval leaves of the distance input and of the accounts what the distance input's own
work leaves. -/
theorem exec_meterInterval_of {s : State} (h : s.powered = true) :
    ∃ x : TimeBase, exec .meterInterval s = .next (State.intervalTail { s with time := x })
      ∧ (State.intervalTail { s with time := x }).distance
        = (State.distanceInterval { s with time := x }).distance
      ∧ (State.intervalTail { s with time := x }).acct = (State.distanceInterval { s with time := x }).acct
      ∧ (State.intervalTail { s with time := x }).engine
        = (State.distanceInterval { s with time := x }).engine := by
  obtain ⟨x, hx⟩ := s.takeTrim_eq
  obtain ⟨-, hsame⟩ := State.intervalTail_of_distanceInterval { s with time := x }
  refine ⟨x, ?_, hsame .distance (by decide), hsame .acct (by decide), hsame .engine (by decide)⟩
  rw [exec_meterInterval, hx]
  exact congrArg Host.Outcome.next (if_pos h)

theorem min_eq_ite_le (a b : Nat) : (if a ≤ b then a else b) = min a b := (Nat.min_def ..).symm

/-- Settles O27: the clamped count of `closeInterval`, and the metres that `credit` takes. -/
theorem intervalMakesMetres : Obligations.IntervalMakesMetres := by
  intro s hpowered hnone d p
  obtain ⟨x, hexec, hdistance, hacct, hengine⟩ := exec_meterInterval_of hpowered
  have hp : p = min d.count d.pMax := min_eq_ite_le _ _
  refine ⟨fun hrun hk hroom => ?_, fun hrun hk => ?_, fun hrun => ?_⟩
  · obtain ⟨b, hb⟩ := State.distanceInterval_distance (s := { s with time := x }) hrun hk hnone
    have htotal : (State.distanceInterval { s with time := x }).acct.totals.totalM =
        min (s.acct.totals.totalM + d.metres) 4294967295 := State.distanceInterval_totalM hrun hk
    have hclosed : d.closeInterval = { d with
        lastRaw := d.count, lastP := p, count := 0
        overrate := min (d.overrate + (d.count - p)) 4294967295
        residual := (d.residual + p * 1000) % d.k } := by
      rw [hp]
      exact if_neg hk
    have hmetres : d.metres = (d.residual + p * 1000) / d.k := by
      rw [hp]
      exact if_neg hk
    have hdist : (State.intervalTail { s with time := x }).distance =
        { d.closeInterval with overrateMark := b } := hdistance.trans hb
    rw [hclosed] at hdist
    refine ⟨_, (d.residual + p * 1000) / d.k, hexec, by rw [hdist], by rw [hdist], by rw [hdist],
      by rw [hdist], ?_, ?_, ?_⟩
    · rw [hdist]
      exact (Nat.div_add_mod' _ _).symm
    · rw [hdist]
      exact Nat.mod_lt _ (Nat.pos_of_ne_zero hk)
    · have hsmall : (d.residual + p * 1000) / d.k ≤ d.residual + p * 1000 := Nat.div_le_self _ _
      rw [hacct, htotal, hmetres]
      exact Nat.min_eq_left (by omega)
  · have hclosed := State.distanceInterval_uncalibrated (s := { s with time := x }) hrun hk
    rw [hclosed] at hdistance hacct
    refine ⟨_, hexec, hacct, hdistance.trans ?_⟩
    refine (Distance.adopt_of_none ((Distance.closeInterval_incoming _).trans hnone)).trans ?_
    exact if_pos hk
  · have hstopped := State.distanceInterval_stopped (s := { s with time := x }) hrun
    rw [hstopped] at hdistance hacct hengine
    exact ⟨_, hexec, hdistance, hacct, hengine⟩

/-! #### The glitch filter -/

theorem exec_odometerEdge_of {s : State} (c : BitVec 32) (h : s.distance.running = true) :
    exec (.odometerEdge c) s = .next { s with distance := s.distance.edge c } :=
  congrArg Host.Outcome.next (if_pos h)

theorem Distance.edge_accepted {d : Distance} {c : BitVec 32}
    (h : ∀ c0, d.holdoff = some c0 → d.sMin ≤ (c - c0).toNat) :
    d.edge c = { d with
      capture := c, holdoff := some c, count := d.count + 1, edges := (d.edges + 1) % 4294967296 } := by
  unfold Distance.edge
  cases hheld : d.holdoff with
  | none => rfl
  | some c0 => exact if_pos (decide_eq_true (h c0 hheld))

theorem Distance.edge_rejected {d : Distance} {c c0 : BitVec 32} (hheld : d.holdoff = some c0)
    (h : (c - c0).toNat < d.sMin) :
    d.edge c = { d with capture := c, glitches := min (d.glitches + 1) 4294967295 } := by
  unfold Distance.edge
  rw [hheld]
  exact if_neg (by simpa using h)

/-- Settles O28. -/
theorem edgesAreFiltered : Obligations.EdgesAreFiltered := by
  intro c s
  refine ⟨fun hrun hready => ?_, fun c0 hrun hheld hearly => ?_, fun c0 hrun hheld hlate => ?_,
    fun hstopped => congrArg Host.Outcome.next (if_neg (by simp [hstopped])),
    fun hrun => congrArg Host.Outcome.next (if_pos hrun)⟩
  · rw [exec_odometerEdge_of c hrun, Distance.edge_accepted (by simp [hready])]
  · rw [exec_odometerEdge_of c hrun, Distance.edge_rejected hheld hearly]
  · rw [exec_odometerEdge_of c hrun, Distance.edge_accepted fun c1 hc1 => ?late]
    case late => exact Option.some.inj (hheld.symm.trans hc1) ▸ hlate
    exact ⟨_, rfl, fun p hp => by cases p <;> simp_all [Part.same], rfl, rfl⟩

end Sys2Proof.Machine
end

section
/-! ### Second events and SET_TIME (3.3, 3.5) -/

namespace Sys2Proof.Machine

open Sys2Proof

theorem State.NoticesAlike.trans {s t u : State} (h : s.NoticesAlike t) (h' : t.NoticesAlike u) :
    s.NoticesAlike u :=
  ⟨h'.tables.trans h.tables, h'.now.trans h.now, h'.notices.trans h.notices,
    h'.running.trans h.running, h'.queue.trans h.queue, h'.nodes.trans h.nodes⟩

/-! #### Violation windows (R4) -/

theorem PortState.closeWindow_keeps (p : PortState) :
    p.closeWindow.running = p.running ∧ p.closeWindow.queue = p.queue
      ∧ p.closeWindow.nodes = p.nodes := by
  unfold PortState.closeWindow
  simp only
  repeat' split
  all_goals exact ⟨rfl, rfl, rfl⟩

/-- The window closes whatever the transmit queue. -/
theorem PortState.closeWindow_queue (p : PortState) (q : List Frame) :
    ({ p with queue := q } : PortState).closeWindow = { p.closeWindow with queue := q } := by
  unfold PortState.closeWindow
  simp only
  repeat' split
  all_goals rfl

/-- A port's violation window at a second event. -/
theorem PortState.closeWindow_decided (p : PortState) :
    (p.running = false → p.closeWindow = p)
    ∧ (p.running = true → p.closeWindow.window = 0)
    ∧ (p.running = true → p.health = .good → p.closeWindow.health = .good)
    ∧ (p.running = true → p.health = .degraded → p.window ≤ 2 → p.quiet < 4 →
      p.closeWindow.health = .degraded ∧ p.closeWindow.quiet = p.quiet + 1)
    ∧ (p.running = true → p.health = .degraded → p.window ≤ 2 → 4 ≤ p.quiet →
      p.closeWindow.health = .good ∧ p.closeWindow.quiet = 0)
    ∧ (p.running = true → p.health = .degraded → 2 < p.window →
      p.closeWindow.health = .degraded ∧ p.closeWindow.quiet = 0) := by
  unfold PortState.closeWindow
  refine ⟨fun h => by simp [h], fun h => ?_, fun h hg => by simp [h, hg], fun h hd hw hq => ?_,
    fun h hd hw hq => ?_, fun h hd hw => ?_⟩
  · simp only [h, if_true]
    repeat' split
    all_goals rfl
  · simp [h, hd, hw, show ¬4 ≤ p.quiet by omega]
  · simp [h, hd, hw, hq]
  · simp [h, hd, show ¬p.window ≤ 2 by omega]

/-- The port's health returns to GOOD at this second event. -/
def State.recovers (s : State) (seg : Seg) : Prop :=
  (s.port seg).health = .degraded ∧ (s.port seg).closeWindow.health = .good

section
variable {s : State} {seg : Seg}

theorem State.closeWindow_recovers (h : s.recovers seg) :
    s.closeWindow seg = (s.modPort seg PortState.closeWindow).offerNotice (.portRecovered seg) := by
  unfold State.closeWindow
  simp only [State.port_modPort]
  exact if_pos h

theorem State.closeWindow_stays (h : ¬s.recovers seg) :
    s.closeWindow seg = s.modPort seg PortState.closeWindow := by
  unfold State.closeWindow
  simp only [State.port_modPort]
  exact if_neg h

theorem State.noticesAlike_closeWindow (s : State) (seg : Seg) :
    s.NoticesAlike (s.modPort seg PortState.closeWindow) :=
  State.noticesAlike_modPort PortState.closeWindow_keeps

theorem State.closeWindow_sameBut (s : State) (seg : Seg) :
    s.sameBut [.link, .notices] (s.closeWindow seg) := by
  by_cases h : s.recovers seg
  · rw [State.closeWindow_recovers h]
    intro p hp
    cases p <;> simp_all [Part.same]
  · rw [State.closeWindow_stays h]
    intro p hp
    cases p <;> simp_all [Part.same]

/-- The port whose window closes, but for its queue. -/
theorem State.closeWindow_port (s : State) (seg : Seg) :
    ∃ q, (s.closeWindow seg).port seg = { (s.port seg).closeWindow with queue := q } := by
  by_cases h : s.recovers seg
  · rw [State.closeWindow_recovers h]
    obtain ⟨q, hq⟩ := State.port_offerNotice (s.modPort seg PortState.closeWindow) (.portRecovered seg) seg
    exact ⟨q, by rw [hq, State.port_modPort]⟩
  · rw [State.closeWindow_stays h]
    exact ⟨(s.port seg).closeWindow.queue, by rw [State.port_modPort]⟩

theorem State.closeWindow_port_ne (s : State) {seg seg' : Seg} (hne : seg' ≠ seg) :
    ∃ q, (s.closeWindow seg).port seg' = { s.port seg' with queue := q } := by
  by_cases h : s.recovers seg
  · rw [State.closeWindow_recovers h]
    obtain ⟨q, hq⟩ := State.port_offerNotice (s.modPort seg PortState.closeWindow) (.portRecovered seg) seg'
    exact ⟨q, by rw [hq, State.port_modPort_ne s _ hne]⟩
  · rw [State.closeWindow_stays h]
    exact ⟨(s.port seg').queue, by rw [State.port_modPort_ne s _ hne]⟩

theorem State.closeWindow_grows (s : State) (seg : Seg) : s.grows (s.closeWindow seg) := by
  have hport : s.grows (s.modPort seg PortState.closeWindow) := by
    cases seg
    · exact ⟨by simp [State.modPort, PortState.closeWindow_keeps], by simp [State.modPort]⟩
    · exact ⟨by simp [State.modPort], by simp [State.modPort, PortState.closeWindow_keeps]⟩
  by_cases h : s.recovers seg
  · rw [State.closeWindow_recovers h]
    exact State.grows_trans hport (State.offerNotice_grows _ _)
  · rw [State.closeWindow_stays h]
    exact hport

end

/-! #### The other timers of a second -/

/-- What a second event does after the counter and the windows. -/
def State.secondTail (s : State) : State :=
  (s.tickTimers.modShift fun r => { r with elapsed := satInc max32 r.elapsed }).recompose

theorem State.secondEvent_eq (s : State) :
    s.secondEvent = ((s.advanceCounter.closeWindow .front).closeWindow .rear).secondTail := rfl

theorem State.secondTail_sameBut (s : State) :
    s.sameBut [.link, .mgmt, .sign, .pay, .acct, .power] s.secondTail := fun p hp => by
  cases p <;> simp_all [Part.same, State.secondTail, State.tickTimers]

theorem State.secondTail_port (s : State) (seg : Seg) :
    s.secondTail.port seg = { s.port seg with loopTimer := (s.port seg).loopTimer - 1 } := by
  cases seg <;> rfl

theorem State.secondTail_grows (s : State) : s.grows s.secondTail :=
  ⟨List.prefix_refl _, List.prefix_refl _⟩

/-- The windows of both ports closed (R4). -/
def State.windowsClosed (s : State) : State := (s.closeWindow .front).closeWindow .rear

theorem State.windowsClosed_sameBut (s : State) : s.sameBut [.link, .notices] s.windowsClosed :=
  State.sameBut_trans (s.closeWindow_sameBut .front) (State.closeWindow_sameBut _ .rear)

theorem State.windowsClosed_grows (s : State) : s.grows s.windowsClosed :=
  State.grows_trans (s.closeWindow_grows .front) (State.closeWindow_grows _ .rear)

theorem State.windowsClosed_port (s : State) (seg : Seg) :
    ∃ q, s.windowsClosed.port seg = { (s.port seg).closeWindow with queue := q } := by
  cases seg with
  | front =>
    obtain ⟨q, hq⟩ := s.closeWindow_port .front
    obtain ⟨q', hq'⟩ := State.closeWindow_port_ne (s.closeWindow .front) (seg := .rear) (seg' := .front)
      (by decide)
    exact ⟨q', by rw [State.windowsClosed, hq', hq]⟩
  | rear =>
    obtain ⟨q, hq⟩ := State.closeWindow_port_ne s (seg := .front) (seg' := .rear) (by decide)
    obtain ⟨q', hq'⟩ := (s.closeWindow .front).closeWindow_port .rear
    exact ⟨q', by rw [State.windowsClosed, hq', hq, PortState.closeWindow_queue]⟩

/-- The ports' notices at a second event, the front port's first. -/
theorem State.windowsClosed_notices (s : State) :
    (¬s.recovers .front → ¬s.recovers .rear → s.windowsClosed.notices = s.notices)
    ∧ (s.recovers .front → ¬s.recovers .rear → s.noticed s.windowsClosed (.portRecovered .front))
    ∧ (¬s.recovers .front → s.recovers .rear → s.noticed s.windowsClosed (.portRecovered .rear))
    ∧ (s.recovers .front → s.recovers .rear →
      (s.offerNotice (.portRecovered .front)).noticed s.windowsClosed (.portRecovered .rear)) := by
  have hrear : (s.closeWindow .front).recovers .rear ↔ s.recovers .rear := by
    obtain ⟨q, hq⟩ := State.closeWindow_port_ne s (seg := .front) (seg' := .rear) (by decide)
    unfold State.recovers
    rw [hq, PortState.closeWindow_queue]
  have hfront := s.noticesAlike_closeWindow .front
  refine ⟨fun hf hr => ?_, fun hf hr => ?_, fun hf hr => ?_, fun hf hr => ?_⟩
  · rw [State.windowsClosed, State.closeWindow_stays (mt hrear.mp hr), State.closeWindow_stays hf]
    rfl
  · rw [State.windowsClosed, State.closeWindow_stays (mt hrear.mp hr), State.closeWindow_recovers hf]
    exact State.noticed_of_grows (State.noticed_offerNotice hfront _) rfl
      ⟨List.prefix_refl _, by simp [State.modPort, PortState.closeWindow_keeps]⟩
  · rw [State.windowsClosed, State.closeWindow_recovers (hrear.mpr hr), State.closeWindow_stays hf]
    exact State.noticed_offerNotice (hfront.trans (State.noticesAlike_closeWindow _ .rear)) _
  · rw [State.windowsClosed, State.closeWindow_recovers (hrear.mpr hr), State.closeWindow_recovers hf]
    exact State.noticed_offerNotice
      ((hfront.offerNotice _).trans (State.noticesAlike_closeWindow _ .rear)) _

/-! #### The counter -/

/-- The seconds counter without a staged time (R45). -/
theorem Backup.second_decided (b : Backup) :
    (b.counter < 4294967295 → b.second.counter = b.counter + 1 ∧ b.second.timeInvalid = b.timeInvalid)
    ∧ (b.counter = 4294967295 → b.second.counter = 0 ∧ b.second.timeInvalid = true)
    ∧ b.second.inSecond = 0 ∧ b.second.phaseA = true ∧ b.second.keptBand = b.keptBand := by
  unfold Backup.second
  simp only [max32]
  by_cases h : 4294967295 ≤ b.counter
  · simp [h, Nat.not_lt.mpr h]
  · simp [h, show b.counter ≠ 4294967295 by omega]

/-- The time base after a second without a staged time. -/
theorem State.advanceCounter_none {s : State} (h : s.time.staged = none)
    (halive : s.time.backup.alive = true) :
    s.advanceCounter = { s with time := { s.time with backup := s.time.backup.second } } := by
  simp [State.advanceCounter, h, State.modBackup, halive]

theorem exec_secondEvent_of {s : State} (h : s.powered = true) :
    exec .secondEvent s = .next s.advanceCounter.windowsClosed.secondTail :=
  congrArg Host.Outcome.next (if_pos h)

/-- After the counter a second event leaves all but what the windows and the timers name. -/
theorem State.windowsTail_sameBut (u : State) :
    u.sameBut [.link, .notices, .mgmt, .sign, .pay, .acct, .power] u.windowsClosed.secondTail :=
  State.sameBut_trans (State.sameBut_mono u.windowsClosed_sameBut (by decide))
    (State.sameBut_mono (State.secondTail_sameBut _) (by decide))

/-- A port after a second event, but for its queue and its loopback timer. -/
theorem State.windowsTail_port (u : State) (seg : Seg) :
    ∃ q l, u.windowsClosed.secondTail.port seg =
      { (u.port seg).closeWindow with queue := q, loopTimer := l } := by
  obtain ⟨q, hq⟩ := u.windowsClosed_port seg
  exact ⟨q, _, by rw [State.secondTail_port, hq]⟩

/-- The shift's elapsed time takes the second. -/
theorem State.windowsTail_elapsed (u : State) :
    u.windowsClosed.secondTail.acct.shift.record.map (·.elapsed)
      = u.acct.shift.record.map (fun r => min (r.elapsed + 1) 4294967295) := by
  have hacct : u.windowsClosed.acct = u.acct := u.windowsClosed_sameBut .acct (by decide)
  rw [← hacct]
  cases h : u.windowsClosed.acct.shift.record <;>
    simp [State.secondTail, State.modShift, State.tickTimers, h, satInc, max32]

/-- The ports' notices stand after the timers. -/
theorem State.windowsTail_notices (u : State) :
    (¬u.recovers .front → ¬u.recovers .rear → u.windowsClosed.secondTail.notices = u.notices)
    ∧ (u.recovers .front → ¬u.recovers .rear →
      u.noticed u.windowsClosed.secondTail (.portRecovered .front))
    ∧ (¬u.recovers .front → u.recovers .rear →
      u.noticed u.windowsClosed.secondTail (.portRecovered .rear))
    ∧ (u.recovers .front → u.recovers .rear →
      (u.offerNotice (.portRecovered .front)).noticed u.windowsClosed.secondTail
        (.portRecovered .rear)) := by
  obtain ⟨hnone, hfront, hrear, hboth⟩ := u.windowsClosed_notices
  have hstood : u.windowsClosed.secondTail.notices = u.windowsClosed.notices := rfl
  have hgrows := u.windowsClosed.secondTail_grows
  exact ⟨fun hf hr => hstood.trans (hnone hf hr),
    fun hf hr => State.noticed_of_grows (hfront hf hr) hstood hgrows,
    fun hf hr => State.noticed_of_grows (hrear hf hr) hstood hgrows,
    fun hf hr => State.noticed_of_grows (hboth hf hr) hstood hgrows⟩

/-- Settles O29: the counter by `Backup.second_decided`, the windows by `PortState.closeWindow_decided`. -/
theorem secondEventAdvances : Obligations.SecondEventAdvances := by
  intro s hstaged halive
  obtain ⟨hless, hwrap, hinSecond, hphase, hkept⟩ := Backup.second_decided s.time.backup
  refine ⟨fun hpowered => ?_, fun hoff => ⟨s.time.backup.second, ?_, fun h => (hless h).1,
    fun h => (hwrap h).1, hkept⟩⟩
  · obtain ⟨u, hu⟩ : ∃ u, u = s.advanceCounter := ⟨_, rfl⟩
    have hu' := hu.trans (State.advanceCounter_none hstaged halive)
    have hsame := u.windowsTail_sameBut
    have htime : u.windowsClosed.secondTail.time = { s.time with backup := s.time.backup.second } :=
      (hsame .time (by decide)).trans (by rw [hu'])
    have hport : ∀ seg, ∃ q l, u.windowsClosed.secondTail.port seg =
        { (s.port seg).closeWindow with queue := q, loopTimer := l } := by
      intro seg
      have hstood : u.port seg = s.port seg := by
        rw [hu']
        cases seg <;> rfl
      exact hstood ▸ u.windowsTail_port seg
    have hrecovers : ∀ seg, ((s.port seg).health = .degraded
        ∧ (u.windowsClosed.secondTail.port seg).health = .good) ↔ u.recovers seg := by
      intro seg
      obtain ⟨q, l, hq⟩ := hport seg
      have hstood : u.port seg = s.port seg := by
        rw [hu']
        cases seg <;> rfl
      rw [hq, State.recovers, hstood]
    refine ⟨u.windowsClosed.secondTail, hu ▸ exec_secondEvent_of hpowered, fun h => ?_, fun h => ?_,
      by rw [htime]; exact hinSecond, by rw [htime]; exact hphase, fun h => ?_, fun h => ?_, fun seg => ?_,
      ?_, ?_, ?_, ?_⟩
    · rw [State.now, htime]
      exact hless h
    · rw [State.now, htime]
      exact hwrap h
    · obtain ⟨q, l, hq⟩ := hport .front
      have hwindow := (PortState.closeWindow_decided (s.port .front)).2.1 h
      exact (congrArg PortState.window hq).trans hwindow
    · obtain ⟨q, l, hq⟩ := hport .rear
      have hwindow := (PortState.closeWindow_decided (s.port .rear)).2.1 h
      exact (congrArg PortState.window hq).trans hwindow
    · obtain ⟨q, l, hq⟩ := hport seg
      obtain ⟨hstopped, -, hgood, hquiet, hfifth, hloud⟩ := PortState.closeWindow_decided (s.port seg)
      simp only [hq]
      exact ⟨fun h => by rw [hstopped h]; exact ⟨rfl, rfl, rfl⟩, hgood, hquiet, hfifth, hloud⟩
    · intro recovers v
      have hv : v = u := by
        show ({ s with time := u.windowsClosed.secondTail.time } : State) = u
        rw [htime, hu']
      obtain ⟨hnone, hfront, hrear, hboth⟩ := u.windowsTail_notices
      have hnotices : u.notices = s.notices := by rw [hu']
      simp only [recovers, hrecovers, hv]
      exact ⟨fun hf hr => (hnone hf hr).trans hnotices, hfront, hrear, hboth⟩
    · rw [u.windowsTail_elapsed, hu']
    · exact (hsame .engine (by decide)).trans (by rw [hu'])
    · exact congrArg Meter.state ((hsame .meter (by decide)).trans (by rw [hu']))
  · exact congrArg Host.Outcome.next ((if_neg (by simp [hoff])).trans (if_pos halive))

/-! #### SET_TIME -/

section
variable {s : State} {rq : Req} {v : Nat}

theorem farFrom_iff (t c : Nat) : farFrom t c = true ↔ c + 1 + 120 < t ∨ t + 120 < c + 1 := by
  simp [farFrom]

theorem State.decideSetTime_of (h : s.fromMgmt .setTime rq) (hv : v ≤ 4294967295) :
    s.decideSetTime rq v =
      if s.time.staged.isSome then s.mgmtRespond rq .setTime .none .busy
      else if s.tripOpen && farFrom v s.now then s.mgmtRespond rq .setTime .none .refusedState
      else { s with time := { s.time with staged := some ⟨v, rq⟩ } } := by
  rw [State.decideSetTime, State.whenAllowed_of _ _ h.2.2]
  exact if_neg (by simpa [max32] using hv)

/-- The state with the staged time gone and the backup domain changed. -/
def State.unstaged (s : State) (b : Backup) : State :=
  { s with time := { s.time with backup := b, staged := none } }

/-- The backup domain at a second that takes a staged time (R49). -/
def Backup.taken (b : Backup) (v : Nat) : Backup :=
  { b with inSecond := 0, phaseA := true, counter := v, timeInvalid := false }

theorem State.advanceCounter_discards (hstaged : s.time.staged = some ⟨v, rq⟩)
    (halive : s.time.backup.alive = true) (hfar : s.tripOpen = true ∧ farFrom v s.now = true) :
    s.advanceCounter =
      (s.unstaged s.time.backup.second).mgmtRespond rq .setTime .none .refusedState := by
  simp [State.advanceCounter, hstaged, hfar, State.modBackup, halive, State.unstaged]

theorem State.advanceCounter_takes (hstaged : s.time.staged = some ⟨v, rq⟩)
    (halive : s.time.backup.alive = true) (hnear : ¬(s.tripOpen = true ∧ farFrom v s.now = true)) :
    s.advanceCounter =
      (s.unstaged (s.time.backup.taken v)).evaluateBand.mgmtRespond rq .setTime .none .ok (.time v) := by
  unfold State.advanceCounter
  rw [hstaged]
  refine (if_neg (by simpa using hnear)).trans ?_
  simp [State.modBackup, halive, State.unstaged, Backup.taken]

/-- An answer stands in the front queue while the port runs. -/
theorem State.offered_mgmtRespond (hseg : rq.src.seg = .front) (hrun : s.link.front.running = true)
    (op : OpName) (t : Target) (r : MgmtResult) (d : RespData) :
    offeredTo (s.mgmtRespond rq op t r d).link.front.queue (mgmtAnswer rq op t r d) := by
  rw [State.mgmtRespond_front op t r d hseg hrun]
  exact offeredTo_joined ..

/-- The rest of a second leaves the time base, the metrology and the frames offered. -/
theorem State.windowsTail_keeps (u : State) :
    u.windowsClosed.secondTail.time = u.time
      ∧ u.windowsClosed.secondTail.mgmt.metrology = u.mgmt.metrology
      ∧ u.grows u.windowsClosed.secondTail := by
  have hmgmt : u.windowsClosed.mgmt = u.mgmt := u.windowsClosed_sameBut .mgmt (by decide)
  have htail : u.windowsClosed.secondTail.mgmt.metrology = u.windowsClosed.mgmt.metrology := rfl
  exact ⟨u.windowsTail_sameBut .time (by decide), htail.trans (congrArg Management.metrology hmgmt),
    State.grows_trans u.windowsClosed_grows (State.secondTail_grows _)⟩

/-- Neither does a band evaluation start or stop the front port. -/
theorem State.evaluateBand_front_running (s : State) :
    s.evaluateBand.link.front.running = s.link.front.running := by
  have hstill := congrArg (fun l : Link => l.front.running) s.evaluateBand_still
  exact hstill

end

/-- Settles O30: the tests of R48, and the staged time at the second event (R49). -/
theorem setTimeIsStagedAndTaken : Obligations.SetTimeIsStagedAndTaken := by
  intro rq v s hv far
  have hfar : farFrom v s.now = true ↔ far := farFrom_iff v s.now
  refine ⟨fun h hstaged => answered_of_eq (exec_mgmt_of h rfl ?_) h.1 h.2.1,
    fun h hstaged hopen hf => answered_of_eq (exec_mgmt_of h rfl ?_) h.1 h.2.1,
    fun h hstaged hnear => exec_mgmt_of h rfl ?_, fun hpowered halive hrun hseg hstaged =>
    ⟨fun hopen hf => ?_, fun hnear => ?_⟩⟩
  · exact (State.decideSetTime_of h hv).trans (if_pos (Option.isSome_iff_ne_none.mpr hstaged))
  · rw [State.decideSetTime_of h hv, hstaged]
    exact (if_neg (by simp)).trans (if_pos (by simp [hopen, hfar.mpr hf]))
  · rw [State.decideSetTime_of h hv, hstaged]
    exact (if_neg (by simp)).trans (if_neg (by simpa [hfar] using hnear))
  · have hcounter := (Backup.second_decided s.time.backup).1
    have hoffered := State.offered_mgmtRespond (s := s.unstaged s.time.backup.second) hseg hrun .setTime
      .none .refusedState .none
    have htime : ((s.unstaged s.time.backup.second).mgmtRespond rq .setTime .none .refusedState).time
        = (s.unstaged s.time.backup.second).time := by simp
    obtain ⟨htail, -, hgrows⟩ := State.windowsTail_keeps
      ((s.unstaged s.time.backup.second).mgmtRespond rq .setTime .none .refusedState)
    rw [exec_secondEvent_of hpowered, State.advanceCounter_discards hstaged halive ⟨hopen, hfar.mpr hf⟩]
    refine ⟨_, rfl, by rw [htail, htime]; rfl, fun h => ?_, offeredTo_of_grows hgrows hoffered⟩
    rw [State.now, htail, htime]
    exact (hcounter h).1
  · let w := s.unstaged (s.time.backup.taken v)
    have hoffered := State.offered_mgmtRespond (s := w.evaluateBand) hseg
      (w.evaluateBand_front_running.trans hrun) .setTime .none .ok (.time v)
    have hkeeps : (w.evaluateBand.mgmtRespond rq .setTime .none .ok (.time v)).time = w.evaluateBand.time
        ∧ (w.evaluateBand.mgmtRespond rq .setTime .none .ok (.time v)).mgmt = w.mgmt := by simp
    obtain ⟨htail, hmetrology, hgrows⟩ := State.windowsTail_keeps
      (w.evaluateBand.mgmtRespond rq .setTime .none .ok (.time v))
    rw [hkeeps.1, w.evaluateBand_time] at htail
    rw [hkeeps.2] at hmetrology
    rw [exec_secondEvent_of hpowered, State.advanceCounter_takes hstaged halive (by rwa [hfar])]
    exact ⟨_, rfl, by rw [htail]; rfl, by rw [State.now, htail]; rfl, by rw [htail]; rfl,
      by rw [htail, hmetrology]; rfl, offeredTo_of_grows hgrows hoffered⟩

end Sys2Proof.Machine
end

section
/-! ### The calendar (R47, R50 to R53) -/

namespace Sys2Proof.Machine

open Sys2Proof

/-! #### Dates -/

/-- Days of the first `n` months of a year. -/
def daysOfMonths (leap : Bool) (n : Nat) : Nat := ((List.range n).map fun i => monthDays leap (i + 1)).sum

/-- Days of the first `n` years from 2000 on. -/
def daysOfYears (n : Nat) : Nat := ((List.range n).map fun i => yearDays (2000 + i)).sum

theorem Date.daysBefore_eq (d : Date) :
    d.daysBefore = daysOfYears (d.year - 2000) + daysOfMonths (leapYear d.year) (d.month - 1)
      + (d.day - 1) := rfl

theorem daysOfMonths_succ (leap : Bool) (n : Nat) :
    daysOfMonths leap (n + 1) = daysOfMonths leap n + monthDays leap (n + 1) := by
  simp [daysOfMonths, List.range_succ]

theorem daysOfYears_succ (n : Nat) : daysOfYears (n + 1) = daysOfYears n + yearDays (2000 + n) := by
  simp [daysOfYears, List.range_succ]

/-- Twelve months make a year. -/
theorem daysOfMonths_twelve (y : Nat) : daysOfMonths (leapYear y) 12 = yearDays y := by
  unfold yearDays
  cases leapYear y <;> decide

theorem yearDays_ge (y : Nat) : 365 ≤ yearDays y := by
  unfold yearDays
  split <;> omega

/-- The month and day of a day of the year: as many days into the year, and inside its month. -/
theorem monthAndDay_decided {leap : Bool} (n : Nat) {m d : Nat} (hm : 1 ≤ m) (hn : m + n = 12)
    (hd : daysOfMonths leap (m - 1) + d < daysOfMonths leap 12) :
    let x := monthAndDay leap m d n
    1 ≤ x.1 ∧ x.1 ≤ 12 ∧ 1 ≤ x.2 ∧ x.2 ≤ monthDays leap x.1
      ∧ daysOfMonths leap (x.1 - 1) + (x.2 - 1) = daysOfMonths leap (m - 1) + d := by
  induction n generalizing m d with
  | zero =>
    obtain rfl : m = 12 := by omega
    have htwelve := daysOfMonths_succ leap 11
    refine ⟨by simp [monthAndDay], by simp [monthAndDay], by simp [monthAndDay], ?_, rfl⟩
    show d + 1 ≤ monthDays leap 12
    simp only [Nat.reduceAdd, Nat.reduceSub] at htwelve hd
    omega
  | succ n ih =>
    have hsucc := daysOfMonths_succ leap (m - 1)
    rw [Nat.sub_add_cancel hm] at hsucc
    by_cases hin : d < monthDays leap m
    · rw [monthAndDay, if_pos hin]
      exact ⟨hm, by omega, by simp, hin, rfl⟩
    · rw [monthAndDay, if_neg hin]
      obtain ⟨h1, h2, h3, h4, h5⟩ := ih (m := m + 1) (d := d - monthDays leap m) (by omega) (by omega)
        (by simp only [Nat.add_sub_cancel]; omega)
      refine ⟨h1, h2, h3, h4, h5.trans ?_⟩
      simp only [Nat.add_sub_cancel]
      omega

/-- The date of a day counted from the start of a year. -/
theorem dateFrom_decided (n : Nat) {j d : Nat} (hd : d < 365 * n) :
    let x := dateFrom (2000 + j) d n
    x.daysBefore = daysOfYears j + d ∧ 2000 ≤ x.year ∧ 1 ≤ x.month ∧ x.month ≤ 12 ∧ 1 ≤ x.day
      ∧ x.day ≤ monthDays (leapYear x.year) x.month := by
  induction n generalizing j d with
  | zero => omega
  | succ n ih =>
    by_cases hin : d < yearDays (2000 + j)
    · obtain ⟨h1, h2, h3, h4, h5⟩ := monthAndDay_decided (leap := leapYear (2000 + j)) 11 (m := 1) (d := d)
        (by decide) (by decide) (by rw [daysOfMonths_twelve]; simpa [daysOfMonths] using hin)
      rw [dateFrom, if_pos hin]
      refine ⟨?_, by simp, h1, h2, h3, h4⟩
      rw [Date.daysBefore_eq]
      simp only [Nat.add_sub_cancel_left]
      rw [Nat.add_assoc, h5]
      simp [daysOfMonths]
    · have hlong := yearDays_ge (2000 + j)
      obtain ⟨h1, h2, h3, h4, h5, h6⟩ := ih (j := j + 1) (d := d - yearDays (2000 + j)) (by omega)
      rw [dateFrom, if_neg hin]
      refine ⟨?_, h2, h3, h4, h5, h6⟩
      have hsucc := daysOfYears_succ j
      refine h1.trans ?_
      omega

theorem minuteOfDay_lt (c : Nat) : minuteOfDay c < 1440 := by
  simp only [minuteOfDay, dayNumber]
  omega

theorem weekdayType_eq (n : Nat) :
    weekdayType n = [DayType.mon, .tue, .wed, .thu, .fri, .sat, .sun].getD n .sun := by
  match n with
  | 0 | 1 | 2 | 3 | 4 | 5 | 6 => rfl
  | _ + 7 => rfl

/-- A holiday entry matches a date in its month and day, and in its year if it names one. -/
theorem holidayMatches_iff (h : Holiday) (d : Date) :
    holidayMatches h d = true ↔
      (h.year = none ∨ h.year = some d.year) ∧ h.month = d.month ∧ h.day = d.day := by
  cases hy : h.year <;> simp [holidayMatches, hy, and_assoc]

theorem TariffSet.dayType_holiday {ts : TariffSet} {c : Nat} {h : Holiday} (hmem : some h ∈ ts.holidays)
    (hmatch : holidayMatches h (dateOf c) = true) : ts.dayType c = .holiday :=
  if_pos (List.any_eq_true.mpr ⟨some h, hmem, hmatch⟩)

theorem TariffSet.dayType_weekday {ts : TariffSet} {c : Nat}
    (hnone : ∀ h, some h ∈ ts.holidays → ¬holidayMatches h (dateOf c) = true) :
    ts.dayType c = weekdayType (weekday c) := by
  refine if_neg fun hany => ?_
  obtain ⟨o, hmem, hmatch⟩ := List.any_eq_true.mp hany
  cases o with
  | none => simp at hmatch
  | some h => exact hnone h hmem hmatch

/-! #### The current band -/

theorem TariffSet.currentBand_some {ts : TariffSet} {c n : Nat} (h : ts.currentBand c = some n) :
    (∃ b, ts.bands[n - 1]? = some (some b) ∧ 1 ≤ n ∧ ts.bandMatches c b = true)
    ∧ ∀ m b, 1 ≤ m → m < n → ts.bands[m - 1]? = some (some b) → ts.bandMatches c b = false := by
  obtain ⟨i, hi, rfl⟩ := Option.map_eq_some_iff.mp h
  obtain ⟨hlt, hmatch, hbefore⟩ := List.findIdx?_eq_some_iff_getElem.mp hi
  refine ⟨?_, fun m b hm hmn hb => ?_⟩
  · cases hb : ts.bands[i] with
    | none => simp [hb] at hmatch
    | some b =>
      refine ⟨b, ?_, by omega, by simpa [hb] using hmatch⟩
      simp [List.getElem?_eq_getElem hlt, hb]
  · have hlt' : m - 1 < ts.bands.length := by omega
    have hno := hbefore (m - 1) (by omega)
    rw [List.getElem?_eq_getElem hlt'] at hb
    simpa [Option.some.inj hb] using hno

theorem TariffSet.currentBand_none {ts : TariffSet} {c : Nat} (h : ts.currentBand c = none) (b : Band)
    (hmem : some b ∈ ts.bands) : ts.bandMatches c b = false := by
  have hnone := List.findIdx?_eq_none_iff.mp (Option.map_eq_none_iff.mp h)
  simpa using hnone (some b) hmem

/-- Settles O31: the date by `dateFrom_decided`, the band by `currentBand`'s search. -/
theorem calendarFollowsCounter : Obligations.CalendarFollowsCounter := by
  refine ⟨fun c hc => ?_, fun s hpowered => ?_⟩
  · obtain ⟨hdays, hyear, hmonth, hmonth', hday, hday'⟩ := dateFrom_decided 140 (j := 0)
      (d := dayNumber c) (by simp only [dayNumber]; omega)
    refine ⟨hdays.trans (by simp [daysOfYears, dayNumber]), hyear, hmonth, hmonth', hday, hday',
      minuteOfDay_lt c, rfl, fun ts => ⟨?_, fun hnone => ?_⟩⟩
    · rintro ⟨h, hmem, hmatch⟩
      exact TariffSet.dayType_holiday hmem ((holidayMatches_iff h _).mpr hmatch)
    · rw [TariffSet.dayType_weekday fun h hmem hmatch =>
        hnone h hmem ((holidayMatches_iff h _).mp hmatch), weekdayType_eq]
  · let u : State := { s with distance := { s.distance with overrateMark := false } }
    have htime := u.evaluateBand_time
    refine ⟨u.evaluateBand, congrArg Host.Outcome.next (State.whenPowered_of _ hpowered), by simp [u],
      by rw [State.now, htime]; rfl, by rw [htime], fun n hn => ?_, fun hnone => ?_⟩
    · rw [htime] at hn
      exact TariffSet.currentBand_some hn
    · rw [htime] at hnone
      exact fun b hb => TariffSet.currentBand_none hnone b hb

end Sys2Proof.Machine
end

section
/-! ### Completed steps and the views (R75 to R79, R112, R113) -/

namespace Sys2Proof.Machine

open Sys2Proof

/-! #### A view that cannot be sent -/

/-- A try at a destination's view offers nothing: its hold-off runs, its role is not available, or its queue
takes nothing (R113). -/
def State.viewHeld (s : State) (d : ViewDest) : Prop :=
  (s.viewState d).holdoff = true ∨ s.available (viewRole d) = false
    ∨ s.accepts (roleSeg (viewRole d)) = false

/-- An offer to a role whose queue takes nothing is refused. -/
theorem State.offerRole_full {s : State} {r : Role} (c : Content) (h : s.accepts (roleSeg r) = false) :
    s.offerRole r c = (s, false) := by
  unfold State.offerRole
  cases hholder : s.holder r with
  | none => rfl
  | some a => simp [State.offer, State.offerFrame, State.holder_seg hholder, h]

theorem State.tryView_of_held {s : State} {d : ViewDest} (h : s.viewHeld d) : s.tryView d = s := by
  unfold State.tryView
  simp only
  rcases h with h | h | h
  · simp [h]
  · simp [h]
  · rw [State.offerRole_full _ h]
    exact ite_self _

/-- A role is available as before where the tables and the node tables are. -/
theorem State.available_congr {s t : State} (htables : t.tables = s.tables)
    (hstill : t.link.still = s.link.still) (r : Role) : t.available r = s.available r := by
  have hpresence : ∀ a, t.presence a = s.presence a := by
    intro a
    unfold State.presence
    have hnodes : (t.port a.seg).nodes = (s.port a.seg).nodes := by
      rw [State.port_of_still hstill]
    rw [hnodes]
  unfold State.available
  rw [State.rolePresence_congr htables hpresence]

/-- A queue that takes nothing still takes nothing after it has grown. -/
theorem State.accepts_of_grows {s t : State} (hstill : t.link.still = s.link.still) (hgrows : s.grows t)
    {seg : Seg} (h : s.accepts seg = false) : t.accepts seg = false := by
  have hrunning : (t.port seg).running = (s.port seg).running := by rw [State.port_of_still hstill]
  have hlength : (s.port seg).queue.length ≤ (t.port seg).queue.length := by
    cases seg
    · exact hgrows.1.length_le
    · exact hgrows.2.length_le
  unfold State.accepts at h ⊢
  rw [hrunning]
  rcases Bool.and_eq_false_iff.mp h with h | h
  · simp [h]
  · have hfull : ¬(s.port seg).queue.length < 24 := by simpa using h
    simp [show ¬(t.port seg).queue.length < 24 by omega]

/-- A view held is held after more has been offered. -/
theorem State.viewHeld_of_grows {s t : State} {d : ViewDest} (h : s.viewHeld d)
    (htables : t.tables = s.tables) (hstill : t.link.still = s.link.still) (hgrows : s.grows t)
    (hholdoff : (s.viewState d).holdoff = true → (t.viewState d).holdoff = true) : t.viewHeld d := by
  rcases h with h | h | h
  · exact .inl (hholdoff h)
  · exact .inr (.inl ((State.available_congr htables hstill _).trans h))
  · exact .inr (.inr (State.accepts_of_grows hstill hgrows h))

/-- A pending view has been sent, or is held, after a try. -/
theorem State.viewHeld_tryView {s : State} {d : ViewDest} (hmark : (s.viewState d).mark = true) :
    (s.tryView d).viewHeld d := by
  by_cases hheld : s.viewHeld d
  · rwa [State.tryView_of_held hheld]
  simp only [State.viewHeld, not_or, Bool.not_eq_true, Bool.not_eq_false] at hheld
  obtain ⟨hholdoff, havailable, haccepts⟩ := hheld
  obtain ⟨a, ha⟩ : ∃ a, s.holder (viewRole d) = some a := by
    cases h : s.holder (viewRole d) with
    | none => simp [State.available, State.rolePresence, h] at havailable
    | some a => exact ⟨a, rfl⟩
  refine .inl ?_
  unfold State.tryView
  simp only [hmark, hholdoff, havailable, State.offerRole, ha, State.offer, State.offerFrame,
    State.holder_seg ha, haccepts]
  cases d <;> rfl

/-- A try at one view leaves the other held. -/
theorem State.viewHeld_tryView_ne {s : State} {d e : ViewDest} (hne : e ≠ d) (h : s.viewHeld e) :
    (s.tryView d).viewHeld e :=
  State.viewHeld_of_grows h (by simp) (by simp) (s.tryView_grows d) fun hh => by
    rwa [State.tryView_viewState_of_ne s hne]

/-- Marked, both views have been sent or are held. -/
theorem State.viewHeld_markViews (s : State) (d : ViewDest) : s.markViews.viewHeld d := by
  have hmark : ∀ e, (s.setMarks.viewState e).mark = true := fun e => by rw [State.setMarks_viewState]
  unfold State.markViews
  cases d with
  | console => exact State.viewHeld_tryView_ne (by decide) (State.viewHeld_tryView (hmark .console))
  | paxDisplay =>
    refine State.viewHeld_tryView ?_
    rw [State.tryView_viewState_of_ne _ (by decide)]
    exact hmark .paxDisplay

theorem State.viewHeld_setMarks {s : State} {d : ViewDest} (h : s.viewHeld d) : s.setMarks.viewHeld d :=
  State.viewHeld_of_grows h (by simp) (by simp) (State.grows_of_link (by simp)) fun hh => by
    rwa [State.setMarks_viewState]

/-- Views that are held are left pending. -/
theorem State.markViews_of_held {s : State} (hc : s.viewHeld .console) (hp : s.viewHeld .paxDisplay) :
    s.markViews = s.setMarks := by
  rw [State.markViews, State.tryView_of_held (State.viewHeld_setMarks hc),
    State.tryView_of_held (State.viewHeld_setMarks hp)]

/-! #### Steps and the views -/

/-- A completed step before its report (R77). -/
def State.stepped (s : State) (r : TripRecord) : State :=
  { s with
    engine := { s.engine with fs := ((s.stepCount r).one s.engine.inc).fs }
    meter := { s.meter with trip := some (r.withSteps ((s.stepCount r).one s.engine.inc)) }
    acct :=
      { s.acct with
        totals := { s.acct.totals with steps := ((s.stepCount r).one s.engine.inc).total } } }

theorem State.stepped_fare (s : State) (r : TripRecord) :
    (s.stepped r).fare = ((s.stepCount r).one s.engine.inc).fare := rfl

theorem State.fare_of_trip {s : State} {r : TripRecord} (h : s.meter.trip = some r) : s.fare = r.fare := by
  simp [State.fare, h]

theorem State.fare_congr {s t : State} (h : t.meter.trip = s.meter.trip) : t.fare = s.fare := by
  simp [State.fare, h]

/-- A step that leaves the fare is not reported, and one that changes it marks both views (R79, R112). -/
theorem State.completeStep_of {s : State} {r : TripRecord} (h : s.meter.trip = some r) :
    ((s.stepped r).fare = s.fare ∧ s.completeStep = s.stepped r)
      ∨ ((s.stepped r).fare ≠ s.fare ∧ s.completeStep = (s.stepped r).markViews) := by
  have hstep : s.completeStep =
      if (s.stepped r).fare = s.fare then s.stepped r else (s.stepped r).markViews := by
    rw [State.fare_of_trip h, State.completeStep, h]
    rfl
  by_cases hfare : (s.stepped r).fare = s.fare
  · exact .inl ⟨hfare, hstep.trans (if_pos hfare)⟩
  · exact .inr ⟨hfare, hstep.trans (if_neg hfare)⟩

theorem State.stepped_viewState (s : State) (r : TripRecord) (d : ViewDest) :
    (s.stepped r).viewState d = s.viewState d := by
  cases d <;> rfl

theorem State.viewHeld_stepped {s : State} (r : TripRecord) {d : ViewDest} (h : s.viewHeld d) :
    (s.stepped r).viewHeld d :=
  State.viewHeld_of_grows h rfl rfl (State.grows_of_link rfl) fun hh => by rwa [State.stepped_viewState]

theorem State.completeStep_trip {s : State} {r : TripRecord} (h : s.meter.trip = some r) :
    ∃ r', s.completeStep.meter.trip = some r' := ⟨_, (State.completeStep_counts s r h).2.2.1⟩

/-- While both views are held, steps leave them as they are or pending. -/
theorem State.completeSteps_held (n : Nat) {s : State} {r : TripRecord} (h : s.meter.trip = some r)
    (hc : s.viewHeld .console) (hp : s.viewHeld .paxDisplay) (d : ViewDest) :
    ((s.completeSteps n).fare = s.fare ∧ (s.completeSteps n).viewState d = s.viewState d)
      ∨ ((s.completeSteps n).viewState d).mark = true := by
  induction n generalizing s r with
  | zero => exact .inl ⟨rfl, rfl⟩
  | succ n ih =>
    obtain ⟨r', hr'⟩ := State.completeStep_trip h
    have hc' := State.viewHeld_stepped r hc
    have hp' := State.viewHeld_stepped r hp
    rw [State.completeSteps]
    rcases State.completeStep_of h with ⟨hfare, hstep⟩ | ⟨-, hstep⟩ <;> rw [hstep] at hr' ⊢
    · rcases ih hr' hc' hp' with ⟨hsame, hview⟩ | hmark
      · exact .inl ⟨hsame.trans hfare, hview.trans (s.stepped_viewState r d)⟩
      · exact .inr hmark
    · rw [State.markViews_of_held hc' hp'] at hr' ⊢
      rcases ih hr' (State.viewHeld_setMarks hc') (State.viewHeld_setMarks hp') with ⟨-, hview⟩ | hmark
      · exact .inr (by rw [hview, State.setMarks_viewState])
      · exact .inr hmark

/-- Steps that change the fare leave each view marked: once at most it is sent. -/
theorem State.completeSteps_marked (n : Nat) {s : State} {r : TripRecord} (h : s.meter.trip = some r)
    (d : ViewDest) :
    ((s.completeSteps n).fare = s.fare ∧ (s.completeSteps n).viewState d = s.viewState d)
      ∨ s.viewMarked (s.completeSteps n) d := by
  induction n generalizing s r with
  | zero => exact .inl ⟨rfl, rfl⟩
  | succ n ih =>
    obtain ⟨r', hr'⟩ := State.completeStep_trip h
    rw [State.completeSteps]
    rcases State.completeStep_of h with ⟨hfare, hstep⟩ | ⟨-, hstep⟩ <;> rw [hstep] at hr' ⊢
    · rcases ih hr' with ⟨hsame, hview⟩ | hmarked
      · exact .inl ⟨hsame.trans hfare, hview.trans (s.stepped_viewState r d)⟩
      · exact .inr (State.viewMarked_congr (by rw [State.stepped_viewState]) hmarked)
    · have hmarked : s.viewMarked (s.stepped r).markViews d :=
        State.viewMarked_congr (by rw [State.stepped_viewState]) ((s.stepped r).markViews_viewMarked d)
      rcases State.completeSteps_held n hr' (State.viewHeld_markViews _ _) (State.viewHeld_markViews _ _) d
        with ⟨-, hview⟩ | hmark
      · exact .inr (State.viewMarked_congr_after hview hmarked)
      · exact .inr (.inl hmark)

/-! #### What `n` steps count -/

theorem addToFare_eq (fare : Nat) (sat : Bool) (inc : Nat) :
    addToFare fare sat inc = (min (fare + inc) 9999999, sat || decide (9999999 < fare + inc)) := by
  unfold addToFare fareMax
  split
  · next hover => simp [hover]; omega
  · next hover => simp [hover]; omega

theorem StepCount.many_fs (n : Nat) (c : StepCount) (inc : Nat) : (c.many inc n).fs = c.fs - n := by
  induction n generalizing c with
  | zero => rfl
  | succ n ih =>
    rw [StepCount.many, ih, StepCount.one]
    split
    · simp only
      omega
    · simp only
      omega

/-- The fare after steps: an increment for each beyond the free ones, up to FARE_MAX (R77, R79). -/
theorem StepCount.many_fare (n : Nat) (c : StepCount) (inc : Nat) (h : c.fare ≤ 9999999) :
    (c.many inc n).fare = min (c.fare + (n - c.fs) * inc) 9999999
      ∧ (c.many inc n).saturated
        = (c.saturated || decide (9999999 < c.fare + (n - c.fs) * inc)) := by
  induction n generalizing c with
  | zero => simp [StepCount.many]; omega
  | succ n ih =>
    rw [StepCount.many, StepCount.one]
    split
    · next hfree =>
      obtain ⟨hfare, hsat⟩ := ih { c with fs := c.fs - 1, free := count32 (c.free + 1) } h
      have hn : n - (c.fs - 1) = n + 1 - c.fs := by omega
      simp only [hn] at hfare hsat
      exact ⟨hfare, hsat⟩
    · next hfree =>
      rw [addToFare_eq]
      obtain ⟨hfare, hsat⟩ := ih
        { c with
          charged := count32 (c.charged + 1), total := satInc max32 c.total
          fare := min (c.fare + inc) 9999999
          saturated := c.saturated || decide (9999999 < c.fare + inc) } (Nat.min_le_right _ _)
      have hn : n - c.fs = n := by omega
      have hn' : n + 1 - c.fs = n + 1 := by omega
      simp only [hn] at hfare hsat
      simp only [hn', Nat.succ_mul]
      refine ⟨hfare.trans (by omega), hsat.trans ?_⟩
      rw [Bool.or_assoc, ← Bool.decide_or]
      congr 2
      rw [eq_iff_iff]
      omega

/-- The step counts, while none passes its largest value. -/
theorem StepCount.many_counts (n : Nat) (c : StepCount) (inc : Nat) (hcharged : c.charged + n ≤ 4294967295)
    (hfree : c.free + n ≤ 4294967295) (htotal : c.total + n ≤ 4294967295) :
    (c.many inc n).charged = c.charged + (n - c.fs) ∧ (c.many inc n).free = c.free + min n c.fs
      ∧ (c.many inc n).total = c.total + (n - c.fs) := by
  have hcount : ∀ x, x ≤ 4294967295 → count32 x = x := fun x hx => if_pos hx
  induction n generalizing c with
  | zero => simp [StepCount.many]
  | succ n ih =>
    rw [StepCount.many, StepCount.one]
    split
    · next hpos =>
      obtain ⟨h1, h2, h3⟩ := ih { c with fs := c.fs - 1, free := count32 (c.free + 1) }
        (by simp only; omega) (by simp only [hcount (c.free + 1) (by omega)]; omega) (by simp only; omega)
      simp only [hcount (c.free + 1) (by omega)] at h1 h2 h3 ⊢
      omega
    · next hzero =>
      have hinc : satInc max32 c.total = c.total + 1 := by
        simp only [satInc, max32]
        omega
      simp only [hinc, hcount (c.charged + 1) (by omega)]
      obtain ⟨h1, h2, h3⟩ := ih
        { c with
          charged := c.charged + 1, total := c.total + 1
          fare := (addToFare c.fare c.saturated inc).1, saturated := (addToFare c.fare c.saturated inc).2 }
        (by simp only; omega) (by simp only; omega) (by simp only; omega)
      simp only at h1 h2 h3
      omega

/-- A second change of the fare finds the views held, and leaves them pending. -/
theorem State.completeSteps_twice (n : Nat) {s : State} {r : TripRecord} (h : s.meter.trip = some r)
    (hs : r.segments ≠ []) (hinc : 0 < s.engine.inc) (hroom : r.fare + 2 * s.engine.inc ≤ 9999999)
    (hn : s.engine.fs + 2 ≤ n) (d : ViewDest) : ((s.completeSteps n).viewState d).mark = true := by
  induction n generalizing s r with
  | zero => omega
  | succ n ih =>
    obtain ⟨hengine, -, htrip, -⟩ := State.completeStep_counts s r h
    have hs' : (r.withSteps ((s.stepCount r).one s.engine.inc)).segments ≠ [] := by
      simpa [TripRecord.withSteps, TripRecord.modCurrent] using hs
    have hcount : (s.stepCount r).fs = s.engine.fs ∧ (s.stepCount r).fare = r.fare := ⟨rfl, rfl⟩
    rw [State.completeSteps]
    by_cases hfree : 0 < s.engine.fs
    · have hone : (s.stepCount r).one s.engine.inc =
          { s.stepCount r with
            fs := s.engine.fs - 1, free := count32 ((s.stepCount r).free + 1) } := if_pos hfree
      rw [hone] at hengine htrip hs'
      exact ih htrip hs' (by rw [hengine]; exact hinc) (by rw [hengine]; exact hroom)
        (by rw [hengine]; simp only; omega)
    · have hone : ((s.stepCount r).one s.engine.inc).fare = r.fare + s.engine.inc
          ∧ ((s.stepCount r).one s.engine.inc).fs = 0 := by
        rw [StepCount.one, if_neg (by rw [hcount.1]; exact hfree), addToFare_eq]
        simp only [hcount]
        omega
      have hchanged : s.completeStep.fare ≠ s.fare := by
        rw [State.fare_of_trip htrip, State.fare_of_trip h]
        simp only [TripRecord.withSteps, hone.1]
        omega
      have hmarked : s.completeStep = (s.stepped r).markViews := by
        rcases State.completeStep_of h with ⟨hfare, hstep⟩ | ⟨-, hstep⟩
        · exact absurd (hstep ▸ hfare) hchanged
        · exact hstep
      have hmany := (State.completeSteps_counts n s.completeStep _ htrip hs').2.2.1
      have hfare := (StepCount.many_fare n (s.completeStep.stepCount
        (r.withSteps ((s.stepCount r).one s.engine.inc))) s.completeStep.engine.inc (by
          show ((s.stepCount r).one s.engine.inc).fare ≤ 9999999
          rw [hone.1]; omega)).1
      have hfinal : (s.completeStep.completeSteps n).fare ≠ s.completeStep.fare := by
        rw [State.fare_of_trip hmany, State.fare_of_trip htrip]
        show (StepCount.many _ _ n).fare ≠ ((s.stepCount r).one s.engine.inc).fare
        have hstart : (s.completeStep.stepCount (r.withSteps ((s.stepCount r).one s.engine.inc))).fs = 0
            ∧ (s.completeStep.stepCount (r.withSteps ((s.stepCount r).one s.engine.inc))).fare
              = r.fare + s.engine.inc ∧ s.completeStep.engine.inc = s.engine.inc := by
          refine ⟨?_, hone.1, by rw [hengine]⟩
          show s.completeStep.engine.fs = 0
          rw [hengine]
          exact hone.2
        rw [hfare, hone.1, hstart.1, hstart.2.1, hstart.2.2]
        have hmul : s.engine.inc ≤ (n - 0) * s.engine.inc := Nat.le_mul_of_pos_left _ (by omega)
        omega
      have hheld := State.completeSteps_held n htrip (hmarked ▸ State.viewHeld_markViews _ _)
        (hmarked ▸ State.viewHeld_markViews _ _) d
      rcases hheld with ⟨hsame, -⟩ | hmark
      · exact absurd hsame hfinal
      · exact hmark

end Sys2Proof.Machine
end

section
/-! ### A meter interval of a HIRED trip (R61, R62, R75 to R79) -/

namespace Sys2Proof.Machine

open Sys2Proof

section
variable {s : State} {r : TripRecord} {l : List FareSegment} {g : FareSegment}

/-- A change of the current segment is one of the list's last. -/
theorem TripRecord.modCurrent_last (h : r.segments = l ++ [g]) (f : FareSegment → FareSegment) :
    r.modCurrent f = { r with segments := l ++ [f g] } := by
  simp [TripRecord.modCurrent, h, List.modify_eq_take_drop]

/-- Metres credited in HIRED go to the current segment (R62). -/
theorem State.credit_hired (m : Nat) (hstate : s.meter.state = .hired) (h : s.meter.trip = some r) :
    (s.credit m).meter =
        { s.meter with trip := some (r.modCurrent fun g => { g with metres := count32 (g.metres + m) }) }
      ∧ (s.credit m).acct.totals.steps = s.acct.totals.steps := by
  unfold State.credit
  simp only [hstate, if_true]
  exact ⟨by simp [State.modTrip, h, hstate], rfl⟩

/-- The state as an interval's steps find it: the progress kept, the interval counted (R75, R78). -/
def State.intervalled (s : State) (r : TripRecord) (b : Basis) (p : Nat) : State :=
  { s with
    engine := { s.engine with pa := (s.engine.pa + s.engine.addition b p) % s.engine.q }
    meter :=
      { s.meter with
        trip := some (r.modCurrent fun g => { g with intervals := count32 (g.intervals + 1) }) } }

theorem State.takeInterval_running {b : Basis} (p : Nat) (hmode : s.engine.mode = .running)
    (h : s.meter.trip = some r) (hbasis : s.activeTariff.bind (·.basis) = some b) :
    s.takeInterval p =
      (s.intervalled r b p).completeSteps ((s.engine.pa + s.engine.addition b p) / s.engine.q) := by
  unfold State.takeInterval
  rw [hmode, h, hbasis]
  rfl

theorem Engine.addition_eq (e : Engine) (b : Basis) (p : Nat) :
    e.addition b p = match b with
      | .max => if e.uT ≤ p * e.uD then p * e.uD else e.uT
      | .sum => p * e.uD + e.uT
      | .dist => p * e.uD
      | .time => e.uT := by
  cases b with
  | max =>
    show max (p * e.uD) e.uT = if e.uT ≤ p * e.uD then p * e.uD else e.uT
    split <;> omega
  | _ => rfl

end

/-- The steps of an interval: the engine, the fare and the counts of the current segment (R75 to R79). -/
theorem State.intervalSteps {s : State} {r : TripRecord} {l : List FareSegment} {g : FareSegment}
    (n : Nat) (h : s.meter.trip = some r) (hg : r.segments = l ++ [g]) (hfare : r.fare ≤ 9999999)
    (hcharged : g.charged + n ≤ 4294967295) (hfree : g.free + n ≤ 4294967295)
    (htotal : s.acct.totals.steps + n ≤ 4294967295) :
    ∃ r', (s.completeSteps n).meter.trip = some r'
      ∧ (s.completeSteps n).engine = { s.engine with fs := s.engine.fs - n }
      ∧ r'.fare = min (r.fare + (n - s.engine.fs) * s.engine.inc) 9999999
      ∧ r'.flags.saturated
        = (r.flags.saturated || decide (9999999 < r.fare + (n - s.engine.fs) * s.engine.inc))
      ∧ r'.segments = l ++
        [{ g with charged := g.charged + (n - s.engine.fs), free := g.free + min n s.engine.fs }]
      ∧ (s.completeSteps n).acct.totals.steps = s.acct.totals.steps + (n - s.engine.fs)
      ∧ (s.completeSteps n).meter.state = s.meter.state := by
  have hne : r.segments ≠ [] := by simp [hg]
  obtain ⟨hengine, hstate, htrip, hacct⟩ := State.completeSteps_counts n s r h hne
  have hcount : s.stepCount r =
      ⟨s.engine.fs, g.charged, g.free, s.acct.totals.steps, r.fare, r.flags.saturated⟩ := by
    simp [State.stepCount, hg]
  rw [hcount] at hengine htrip hacct
  obtain ⟨hcharged', hfree', htotal'⟩ := StepCount.many_counts n
    ⟨s.engine.fs, g.charged, g.free, s.acct.totals.steps, r.fare, r.flags.saturated⟩ s.engine.inc hcharged
    hfree htotal
  obtain ⟨hfare', hsat'⟩ := StepCount.many_fare n
    ⟨s.engine.fs, g.charged, g.free, s.acct.totals.steps, r.fare, r.flags.saturated⟩ s.engine.inc hfare
  refine ⟨_, htrip, by rw [hengine, StepCount.many_fs], hfare', hsat', ?_, by rw [hacct, htotal'], hstate⟩
  simp [TripRecord.withSteps, TripRecord.modCurrent_last hg, hcharged', hfree']

/-- A calibrated HIRED trip as the distance input hands it to the fare engine. -/
theorem State.credited_hired {s : State} {r : TripRecord} (hstate : s.meter.state = .hired)
    (h : s.meter.trip = some r) :
    s.credited.meter = { s.meter with
        trip := some (r.modCurrent fun g => { g with metres := count32 (g.metres + s.distance.metres) }) }
      ∧ s.credited.acct.totals.steps = s.acct.totals.steps ∧ s.credited.engine = s.engine
      ∧ s.credited.mgmt = s.mgmt := by
  have hnotice := State.noticeOverrate_sameBut { s with distance := s.distance.closeInterval }
    s.distance.count
  have hmeter : (State.noticeOverrate { s with distance := s.distance.closeInterval }
      s.distance.count).meter = s.meter := hnotice .meter (by decide)
  have hacct : (State.noticeOverrate { s with distance := s.distance.closeInterval }
      s.distance.count).acct = s.acct := hnotice .acct (by decide)
  obtain ⟨hcredit, hsteps⟩ := State.credit_hired s.distance.metres ((congrArg Meter.state hmeter).trans hstate)
    ((congrArg Meter.trip hmeter).trans h)
  exact ⟨hcredit.trans (by rw [hmeter]), hsteps.trans (by rw [hacct]),
    s.credited_sameBut .engine (by decide), s.credited_sameBut .mgmt (by decide)⟩

theorem State.activeTariff_congr {s t : State} (hengine : t.engine = s.engine) (hmgmt : t.mgmt = s.mgmt) :
    t.activeTariff = s.activeTariff := by
  have htariff : t.tariff = s.tariff := by
    funext n
    simp only [State.tariff, hmgmt]
  rw [State.activeTariff, State.activeTariff, htariff, hengine]

/-- A meter interval of a calibrated HIRED trip is the steps of a state whose trip has the interval and the
metres in its current segment. -/
theorem State.distanceInterval_hired {u : State} {r : TripRecord} {l : List FareSegment} {g : FareSegment}
    {tar : Tariff} {b : Basis} (hrun : u.distance.running = true) (hk : u.distance.k ≠ 0)
    (hstate : u.meter.state = .hired) (hmode : u.engine.mode = .running) (htrip : u.meter.trip = some r)
    (hg : r.segments = l ++ [g]) (htariff : u.activeTariff = some tar) (hbasis : tar.basis = some b)
    (hmetres : g.metres + u.distance.metres ≤ 4294967295) (hintervals : g.intervals < 4294967295) :
    let pa := u.engine.pa + u.engine.addition b u.distance.clamped
    ∃ w : State,
      u.distanceInterval =
        { w.completeSteps (pa / u.engine.q) with
          distance := (w.completeSteps (pa / u.engine.q)).distance.adopt }
      ∧ w.engine = { u.engine with pa := pa % u.engine.q }
      ∧ w.meter = { u.meter with
          trip := some { r with
            segments := l ++
              [{ g with metres := g.metres + u.distance.metres, intervals := g.intervals + 1 }] } }
      ∧ w.acct.totals.steps = u.acct.totals.steps := by
  intro pa
  obtain ⟨hcredit, hcreditSteps, hcreditEngine, hcreditMgmt⟩ := State.credited_hired hstate htrip
  have hactive : u.credited.activeTariff.bind (·.basis) = some b := by
    rw [State.activeTariff_congr hcreditEngine hcreditMgmt, htariff]
    exact hbasis
  have hcount : count32 (g.metres + u.distance.metres) = g.metres + u.distance.metres := if_pos hmetres
  have hcount' : count32 (g.intervals + 1) = g.intervals + 1 := if_pos (by simp only [max32]; omega)
  have hcredited : u.credited.meter.trip =
      some { r with segments := l ++ [{ g with metres := g.metres + u.distance.metres }] } := by
    rw [hcredit, TripRecord.modCurrent_last hg, hcount]
  have htaken := State.takeInterval_running u.distance.clamped (by rw [hcreditEngine]; exact hmode) hcredited
    hactive
  refine ⟨u.credited.intervalled
      { r with segments := l ++ [{ g with metres := g.metres + u.distance.metres }] } b u.distance.clamped,
    (State.distanceInterval_calibrated hrun hk).trans ?_, ?_, ?_, hcreditSteps⟩
  · rw [htaken, hcreditEngine]
  · show ({ u.credited.engine with pa := _ } : Engine) = _
    rw [hcreditEngine]
  · show ({ u.credited.meter with trip := some _ } : Meter) = _
    rw [TripRecord.modCurrent_last rfl, hcredit]
    simp only [hcount']

/-- Settles O32: the distance input by `distanceInterval_hired`, the counts by `intervalSteps`, the views by
the steps that change the fare. -/
theorem intervalChargesTrip : Obligations.IntervalChargesTrip := by
  intro s r l g tar b hpowered hrun hk hstate hmode hq htrip hg htariff hbasis hfare p add n m hcharged
    hfree hsteps hmetres hintervals
  obtain ⟨x, hexec, -, hacct, hengine⟩ := exec_meterInterval_of hpowered
  let u : State := { s with time := x }
  have hm : u.distance.metres = m := if_neg hk
  have hadd : u.engine.addition b u.distance.clamped = add := Engine.addition_eq ..
  obtain ⟨w, hinterval, hwengine, hwmeter, hwsteps⟩ := State.distanceInterval_hired (u := u) hrun hk hstate
    hmode htrip hg htariff hbasis (by rw [hm]; exact hmetres) hintervals
  rw [hadd] at hinterval hwengine
  have hopen := congrArg Meter.trip hwmeter
  obtain ⟨r', htrip', hengine', hfare', hsat', hsegments', hsteps', hstate'⟩ :=
    State.intervalSteps n hopen rfl hfare hcharged hfree (by rw [hwsteps]; exact hsteps)
  obtain ⟨htail, hsame⟩ := u.intervalTail_of_distanceInterval
  have hmeter : u.intervalTail.meter = { (w.completeSteps n).meter with
      correction := (w.completeSteps n).meter.correction - 1 } := by rw [htail, hinterval]
  have hview : ∀ d, u.intervalTail.viewState d = (w.completeSteps n).viewState d := fun d => by
    cases d <;> simp only [State.viewState, hmeter]
  have hseen : ∀ d, w.viewState d = s.viewState d := fun d => by
    cases d <;> simp only [State.viewState, hwmeter] <;> rfl
  rw [hinterval] at hacct hengine
  have hfs : w.engine.fs = s.engine.fs ∧ w.engine.inc = s.engine.inc := by
    rw [hwengine]
    exact ⟨rfl, rfl⟩
  rw [hfs.1, hfs.2] at hfare' hsat'
  rw [hfs.1] at hsegments' hsteps' hengine'
  refine ⟨_, r', hexec, (congrArg Meter.trip hmeter).trans htrip', ?_, hfare', hsat', ?_, ?_, ?_, ?_,
    fun hne => ?_, fun hinc hroom hn => ?_⟩
  · rw [hengine, hengine', hwengine]
  · rw [hsegments', hm]
  · rw [hacct, hsteps', hwsteps]
  · rw [congrArg Meter.state hmeter]
    exact hstate'.trans (by rw [hwmeter]; exact hstate)
  · exact (hsame .pay (by decide)).trans (u.distanceInterval_sameBut .pay (by decide))
  · have hmarked : ∀ d, s.viewMarked u.intervalTail d := fun d => by
      rcases State.completeSteps_marked n hopen d with ⟨hsame, -⟩ | hmarked
      · rw [State.fare_of_trip htrip', State.fare_of_trip hopen] at hsame
        exact absurd hsame hne
      · exact State.viewMarked_congr_after (hview d) (State.viewMarked_congr (by rw [hseen]) hmarked)
    exact ⟨hmarked .console, hmarked .paxDisplay⟩
  · have hmark : ∀ d, (u.intervalTail.viewState d).mark = true := fun d => by
      rw [hview]
      exact State.completeSteps_twice n hopen (by simp) (by rw [hfs.2]; exact hinc)
        (by rw [hfs.2]; exact hroom) (by rw [hfs.1]; exact hn) d
    exact ⟨hmark .console, hmark .paxDisplay⟩

end Sys2Proof.Machine
end

section
/-! ### Bands and segments (R83 to R87), and the requests that need RUN (R95) -/

namespace Sys2Proof.Machine

open Sys2Proof

/-! #### A trip that follows a band -/

section
variable {s : State} {cur : Tariff} {r : TripRecord} {band : Option Nat} {b : Band}

/-- A tariff that does not follow bands, or is the band's default, stays. -/
theorem State.followBand_stays (hcur : s.activeTariff = some cur)
    (h : ∀ b, s.bandEntry band = some b → cur.followBand = true → s.engine.active = some b.default) :
    (s.followBand band).1 = s := by
  unfold State.followBand
  rw [hcur]
  cases hb : s.bandEntry band with
  | none => rfl
  | some b =>
    cases htrip : s.meter.trip with
    | none => rfl
    | some r =>
      simp only
      rw [if_neg]
      rintro ⟨hfollow, hne⟩
      exact hne (h b hb hfollow).symm

/-- A full segment list takes SEGMENT_LIMIT (R85). -/
theorem State.followBand_full (hcur : s.activeTariff = some cur) (hb : s.bandEntry band = some b)
    (htrip : s.meter.trip = some r) (hfollow : cur.followBand = true)
    (hne : s.engine.active ≠ some b.default) (hfull : 4 ≤ r.segments.length) :
    (s.followBand band).1 = s.modTrip fun r => { r with flags := { r.flags with segmentLimit := true } } := by
  unfold State.followBand
  rw [hcur, hb, htrip]
  simp only
  rw [if_pos ⟨hfollow, Ne.symm hne⟩, if_neg (by omega)]

/-- A list with room takes a segment on the band's default tariff (R83, R84). -/
theorem State.followBand_opens {tar : Tariff} (hcur : s.activeTariff = some cur)
    (hb : s.bandEntry band = some b) (htrip : s.meter.trip = some r) (hfollow : cur.followBand = true)
    (hne : s.engine.active ≠ some b.default) (hroom : r.segments.length < 4)
    (htar : s.tariff b.default = some tar) :
    (s.followBand band).1 = s.openSegment b.default tar := by
  unfold State.followBand
  rw [hcur, hb, htrip]
  simp only
  rw [if_pos ⟨hfollow, Ne.symm hne⟩, if_pos hroom, htar]

end

/-- A band followed from a state whose trip and engine are the given ones does what `followsBand` says. -/
theorem State.followsBand_followBand {s v : State} {r : TripRecord} {e : Engine} (band : Option Nat)
    (htrip : v.meter.trip = some r) (hengine : v.engine = e) (hactive : e.active = s.engine.active)
    (hmgmt : v.mgmt = s.mgmt) (hk : v.distance.k = s.distance.k) (hnow : v.now = s.now) :
    s.followsBand (v.followBand band).1 band r e := by
  have htariff : v.tariff = s.tariff := by
    funext n
    simp only [State.tariff, hmgmt]
  have hbands : ∀ o, v.bandEntry o = s.bandEntry o := fun o => by simp only [State.bandEntry, hmgmt]
  have hactive' : v.engine.active = s.engine.active := by rw [hengine, hactive]
  intro cur hcur
  have hcur' : v.activeTariff = some cur := by
    rw [State.activeTariff, htariff, hactive']
    exact hcur
  refine ⟨fun hstays => ?_, fun b hb hfollow hne => ⟨fun hfull => ?_, fun tar hroom htar => ?_⟩⟩
  · rw [State.followBand_stays hcur' fun b hb hfollow => hactive'.trans (hstays b (hbands band ▸ hb) hfollow)]
    exact ⟨htrip, hengine⟩
  · rw [State.followBand_full hcur' ((hbands band).trans hb) htrip hfollow (by rwa [hactive']) hfull]
    exact ⟨by simp [State.modTrip, htrip], by simpa using hengine⟩
  · rw [State.followBand_opens hcur' ((hbands band).trans hb) htrip hfollow (by rwa [hactive']) hroom
      (by rwa [htariff])]
    refine ⟨by simp [State.openSegment, State.modTrip, htrip, hnow, FareSegment.opening], ?_⟩
    simp [State.openSegment, Engine.withConstants, State.modTrip, hengine, hk]

/-- `followsBand` reads the trip and the engine alone of the state after. -/
theorem State.followsBand_congr {s t t' : State} {band : Option Nat} {r : TripRecord} {e : Engine}
    (h : s.followsBand t band r e) (htrip : t'.meter.trip = t.meter.trip) (hengine : t'.engine = t.engine) :
    s.followsBand t' band r e := by
  unfold State.followsBand at h ⊢
  rwa [htrip, hengine]

/-! #### Minute events -/

theorem exec_minuteEvent_of {s : State} (h : s.powered = true) :
    exec .minuteEvent s =
      .next (State.evaluateBand { s with distance := { s.distance with overrateMark := false } }) :=
  congrArg Host.Outcome.next (State.whenPowered_of _ h)

/-- A band change at a minute event: the engine checks it in RUNNING alone, and both views are marked. -/
theorem minuteEvent_changed {s : State} (hpowered : s.powered = true)
    (hne : s.time.backup.keptBand ≠ s.mgmt.metrology.tariffSet.currentBand s.now) :
    let b := s.mgmt.metrology.tariffSet.currentBand s.now
    ∃ t, exec .minuteEvent s = .next t ∧ s.sameBut [.distance, .time, .engine, .meter, .link] t
      ∧ t.time = { s.time with band := b, backup := { s.time.backup with keptBand := b } }
      ∧ s.viewMarked t .console ∧ s.viewMarked t .paxDisplay ∧ t.meter.state = s.meter.state
      ∧ (s.engine.mode ≠ .running → t.meter.trip = s.meter.trip ∧ t.engine = s.engine)
      ∧ (∀ r, s.engine.mode = .running → s.meter.trip = some r → s.followsBand t b r s.engine) := by
  intro b
  let u : State := { s with distance := { s.distance with overrateMark := false } }
  let v : State := u.withBand b
  have hband : u.evaluateBand = (v.bandChange b).markViews := State.evaluateBand_of_ne hne
  obtain ⟨t, ht⟩ := v.bandChange_meter b
  have hmarked : ∀ d, s.viewMarked u.evaluateBand d := fun d => by
    rw [hband]
    refine State.viewMarked_congr ?_ (State.markViews_viewMarked _ d)
    cases d <;> simp only [State.viewState, ht] <;> rfl
  have htrip : (v.bandChange b).markViews.meter.trip = (v.bandChange b).meter.trip :=
    (State.markViews_trip _).1
  have hengine : (v.bandChange b).markViews.engine = (v.bandChange b).engine := by simp
  refine ⟨_, exec_minuteEvent_of hpowered, fun p hp => ?_, u.evaluateBand_time, hmarked .console,
    hmarked .paxDisplay, ?_, fun hmode => ?_, fun r hmode hr => ?_⟩
  · cases p <;> simp_all [Part.same]
  · rw [hband, (State.markViews_trip _).2, ht]
    rfl
  · have hstays : v.bandChange b = v := if_neg hmode
    rw [hband, htrip, hengine, hstays]
    exact ⟨rfl, rfl⟩
  · have hfollows : v.bandChange b = (v.followBand b).1 := if_pos hmode
    rw [hfollows] at htrip hengine
    rw [hband, hfollows]
    exact State.followsBand_congr (State.followsBand_followBand (v := v) b hr rfl rfl rfl rfl rfl) htrip
      hengine

/-! #### RESUME -/

section
variable {s : State} {rq : Req}

/-- A console request that needs RUN is what its decision makes of it. -/
theorem exec_console_of {c : Instr} {u : State} {k : State → State} (h : s.fromConsole rq)
    (hexec : exec c s = .next (s.whenConsole rq k)) (hk : k s = u) : exec c s = .next u :=
  hexec.trans (congrArg Host.Outcome.next ((State.whenConsole_of k h).trans hk))

/-- The state of a RESUME before the band is checked: HIRED's engine, RESUMED set (R105). -/
def State.resumed (s : State) : State :=
  { s with
    engine := { s.engine with mode := .running }
    meter :=
      { s.meter with
        trip := s.meter.trip.map fun r => { r with flags := { r.flags with resumed := true } }
        correction := 0, snapshot := none } }

theorem State.takeResume_eq (s : State) :
    s.takeResume = (s.resumed.followBand s.time.band).1.setMeterState .hired := rfl

theorem exec_resume_accepted (h : s.fromConsole rq) (hrun : s.power.state = .run)
    (hnone : s.resumeRefusal = none) :
    exec (.resume rq) s = .next (s.takeResume.consoleRespond rq .resume .accepted) := by
  refine exec_console_of h rfl ?_
  rw [State.decideResume, State.whenRun_of _ hrun, hnone]

/-- What an accepted RESUME leaves of the trip and the engine is what the band check leaves. -/
theorem State.takeResume_followed (s : State) :
    (s.takeResume.consoleRespond rq .resume .accepted).meter.trip
        = (s.resumed.followBand s.time.band).1.meter.trip
      ∧ (s.takeResume.consoleRespond rq .resume .accepted).engine
        = (s.resumed.followBand s.time.band).1.engine := by
  have hmeter := (s.resumed.followBand s.time.band).1.setMeterState_meter .hired
  rw [State.takeResume_eq]
  refine ⟨?_, by simp⟩
  rw [(State.consoleRespond_keeps ..).2.2.2.2.2.2.2.1, hmeter]

end

/-- Settles O33. -/
theorem newSegmentKeepsProgress : Obligations.NewSegmentKeepsProgress := by
  refine ⟨fun s hpowered => ?_, fun rq r s h hrun hstate hclosing hidle htenders hcorrection htrip => ?_,
    fun s n tar r htrip => ?_⟩
  · intro b
    exact ⟨fun hkept => (exec_minuteEvent_of hpowered).trans (congrArg _ (if_pos hkept)),
      fun hne => minuteEvent_changed hpowered hne⟩
  · have hnone : s.resumeRefusal = none := by
      simp [State.resumeRefusal, hstate, hclosing, hidle, htenders, hcorrection]
    obtain ⟨htrip', hengine'⟩ := s.takeResume_followed (rq := rq)
    refine ⟨_, exec_resume_accepted h hrun hnone, by simp [State.takeResume], ?_⟩
    exact State.followsBand_congr (State.followsBand_followBand (v := s.resumed) s.time.band
      (by simp [State.resumed, htrip]) rfl rfl rfl rfl rfl) htrip' hengine'
  · intro qNew
    refine ⟨{ r with segments := r.segments ++ [⟨n, s.now, 0, 0, 0, 0⟩] }, by
      simp [State.openSegment, State.modTrip, htrip, FareSegment.opening], rfl, rfl, rfl, fun hpa hq => ?_,
      fun p hp => by cases p <;> simp_all [Part.same]⟩
    exact Nat.div_lt_of_lt_mul (Nat.mul_lt_mul_of_pos_right hpa hq)

/-! #### RUN -/

theorem State.whenRun_refused {s : State} {rq : Req} (n : ConsoleName) (k : State → State)
    (h : s.power.state ≠ .run) : s.whenRun rq n k = s.consoleRespond rq n .power := if_neg h

/-- A console command whose decision is an answer. -/
theorem console_answered {s : State} {rq : Req} {c : Instr} {n : ConsoleName} {r : ConsoleResult}
    {k : State → State} (h : s.fromConsole rq) (hexec : exec c s = .next (s.whenConsole rq k))
    (hk : k s = s.consoleRespond rq n r) :
    ∃ t, exec c s = .next t ∧ s.sameBut [.link] t ∧ s.frontTook t (consoleAnswer rq n r) :=
  ⟨_, exec_console_of h hexec hk, State.refusal_consoleRespond h n r⟩

/-- Settles O34: each decision begins with the power check, a HIRE's after the range of its tariff. -/
theorem requestsNeedRun : Obligations.RequestsNeedRun := by
  intro c rq n s hrow h hrun
  have hrefused := fun n k => State.whenRun_refused (rq := rq) n k hrun
  cases c
  case hire rq' x =>
    cases x with
    | auto =>
      obtain ⟨rfl, rfl⟩ : rq' = rq ∧ ConsoleName.hire = n := by simpa [runRow] using hrow
      exact console_answered h rfl (by simp [State.decideHire, hrefused])
    | number i =>
      by_cases hin : within 1 8 i = true
      · obtain ⟨rfl, rfl⟩ : rq' = rq ∧ ConsoleName.hire = n := by simpa [runRow, hin] using hrow
        exact console_answered h rfl (by simp [State.decideHire, hrefused, hin])
      · simp [runRow, hin] at hrow
  all_goals
    simp only [runRow, reduceCtorEq, Option.some.injEq, Prod.mk.injEq] at hrow
  all_goals
    obtain ⟨rfl, rfl⟩ := hrow
    refine console_answered h rfl ?_
    simp only [State.decideOnDuty, State.decideOffDuty, State.decidePay, State.decideResume,
      State.decideExtra, State.decideEndUnpaid, State.decideShiftOpen, State.decideShiftClose, hrefused]

end Sys2Proof.Machine
end

section
/-! ### HIRE (R99, R100) -/

namespace Sys2Proof.Machine

open Sys2Proof

/-- A trigger changes the prompt queue or its drop counter alone (R147). -/
theorem State.trigger_eq (s : State) (t : Trigger) :
    ∃ q d, s.trigger t = { s with intercom := { s.intercom with queue := q, drops := d } } := by
  unfold State.trigger State.requestPrompt
  repeat' split
  all_goals exact ⟨_, _, rfl⟩

/-- A trigger leaves what `movedTo` speaks of. -/
theorem State.movedTo_trigger {s t : State} {m : MeterState} (h : s.movedTo t m) (x : Trigger) :
    s.movedTo (t.trigger x) m := by
  obtain ⟨q, d, hq⟩ := t.trigger_eq x
  rw [hq]
  exact h

/-- The meter's agreement with the state it is moved to reads the view numbers of the state before alone. -/
theorem State.movedTo_congr {s u t : State} {m : MeterState} (h : u.movedTo t m)
    (hviews : ∀ d, u.viewState d = s.viewState d) : s.movedTo t m := by
  obtain ⟨hstate, hack, hmode, hcheckpoint, hconsole, hpax⟩ := h
  exact ⟨hstate, hack, hmode, hcheckpoint, State.viewMarked_congr (by rw [hviews]) hconsole,
    State.viewMarked_congr (by rw [hviews]) hpax⟩

/-- A change of the meter state leaves the test of the speakers and of the sign. -/
theorem State.setMeterState_tests (s : State) (m : MeterState) :
    (s.setMeterState m).intercom.test = s.intercom.test ∧ (s.setMeterState m).sign.test = s.sign.test := by
  have hfollow : ∀ u : State, u.followMeter.intercom.test = u.intercom.test := by
    intro u
    simp only [State.followMeter]
    split <;> rfl
  unfold State.setMeterState
  simp only
  split
  · exact ⟨by simp [hfollow], by simp [State.recompose_sign]⟩
  · exact ⟨by simp [hfollow], by simp [State.recompose_sign]⟩

section
variable {s : State} {h : HireTariff}

/-- The tests of R99 in their order, as the statement writes them. -/
theorem State.hireRefusal_eq (s : State) (h : HireTariff) :
    s.hireRefusal h =
      if s.meter.state ≠ .vacant then some .refusedState
      else if s.pins.metrologyOpen = true then some .metrologyOpen
      else if s.mgmt.metrology.calibration.k = 0 then some .notCalibrated
      else if s.time.backup.timeInvalid = true then some .timeInvalid
      else match s.bandEntry s.time.band with
        | none => some .noBand
        | some b =>
          if (match h with
              | .auto => false
              | .number n => (s.tariff n).isNone || !b.allowed.contains n) = true then
            some .tariffNotAllowed
          else if 64 ≤ (unreported s.acct.reportedThrough s.store.log).length then some .logFull
          else if s.applying = true then some .busy else none := by
  have htariff : ∀ b, (s.hireTariff b h).2 = false ↔ (match h with
      | .auto => false
      | .number n => (s.tariff n).isNone || !b.allowed.contains n) = true := by
    intro b
    cases h with
    | auto => simp [State.hireTariff]
    | number n => cases hn : s.tariff n <;> simp [State.hireTariff, hn]
  have hlog : s.logHasSlot = false ↔ 64 ≤ (unreported s.acct.reportedThrough s.store.log).length := by
    simp [State.logHasSlot]
  unfold State.hireRefusal
  cases s.bandEntry s.time.band with
  | none => rfl
  | some b =>
    simp only [htariff, hlog]

end

section
variable {s : State} {rq : Req}

theorem State.decideHire_inRange {h : HireTariff} (hin : ∀ n, h = .number n → 1 ≤ n ∧ n ≤ 8)
    (hrun : s.power.state = .run) :
    (∀ r, s.hireRefusal h = some r → s.decideHire rq h = s.consoleRespond rq .hire r)
    ∧ ∀ b n tar, s.hireRefusal h = none → s.bandEntry s.time.band = some b → (s.hireTariff b h).1 = n →
      s.tariff n = some tar →
      s.decideHire rq h =
        State.trigger ((s.takeHire n tar).consoleRespond rq .hire .accepted
          (.trip (s.takeHire n tar).meter.lastAssigned n)) .hire := by
  have hrange : ∀ n, h = .number n → within 1 8 n = true := fun n hn => by
    obtain ⟨hlow, hhigh⟩ := hin n hn
    simp [within, hlow, hhigh]
  refine ⟨fun r hr => ?_, fun b n tar hnone hband hn htar => ?_⟩
  · cases h with
    | auto => simp [State.decideHire, State.whenRun_of _ hrun, hr]
    | number n => simp [State.decideHire, hrange n rfl, State.whenRun_of _ hrun, hr]
  · subst hn
    cases h with
    | auto => simp [State.decideHire, State.whenRun_of _ hrun, hnone, hband, htar]
    | number n => simp [State.decideHire, hrange n rfl, State.whenRun_of _ hrun, hnone, hband, htar]

/-- A HIRE before the meter state changes: the tests ended, the trip open, the engine running (R100). -/
def State.hireStarted (s : State) (n : Nat) (tar : Tariff) : State :=
  let u := s.endTest.abortSpeakerTest
  let number := count32 (s.meter.lastAssigned + 1)
  State.startTrip { u with meter := { u.meter with lastAssigned := number, trip := some (u.newTrip number) } }
    n tar

theorem State.takeHire_eq (s : State) (n : Nat) (tar : Tariff) :
    s.takeHire n tar = (s.hireStarted n tar).setMeterState .hired := by
  unfold State.takeHire State.hireStarted
  simp only [State.abortSpeakerTest_keeps, State.endTest_keeps]

theorem State.endTest_sign (s : State) :
    s.endTest.sign.test = none ∧ s.endTest.sign.emergency = s.sign.emergency := by
  unfold State.endTest
  split
  · exact ⟨rfl, rfl⟩
  · next h => exact ⟨h, rfl⟩

theorem State.abortSpeakerTest_test (s : State) : s.abortSpeakerTest.intercom.test = none := by
  unfold State.abortSpeakerTest State.endSpeakerTest
  split
  · rw [(State.mgmtRespond_keeps ..).2.2.2.2.2.2.2.2.2.1]
    rfl
  · next h => exact h

theorem State.abortSpeakerTest_grows (s : State) : s.grows s.abortSpeakerTest := by
  unfold State.abortSpeakerTest State.endSpeakerTest
  split
  · exact State.grows_after (t := s.withIntercom { s.intercom with test := none }) rfl
      (State.mgmtRespond_appends ..).1
  · exact s.grows_refl

/-- The answer of an aborted speaker test. -/
theorem State.abortSpeakerTest_offered {x : SpeakerTest} (hx : s.intercom.test = some x)
    (hseg : x.rq.src.seg = .front) (hrun : s.link.front.running = true) :
    offeredTo s.abortSpeakerTest.link.front.queue
      (mgmtAnswer x.rq .speakerTest .none .ok (.test .aborted 0 0)) := by
  unfold State.abortSpeakerTest State.endSpeakerTest
  rw [hx]
  exact State.offered_mgmtRespond (s := s.withIntercom { s.intercom with test := none }) hseg hrun ..

/-- What a HIRE has made before the meter state changes. -/
theorem State.hireStarted_keeps (s : State) (n : Nat) (tar : Tariff) :
    s.sameBut [.link, .sign, .intercom, .engine, .meter] (s.hireStarted n tar)
      ∧ (s.hireStarted n tar).link = s.endTest.abortSpeakerTest.link
      ∧ (s.hireStarted n tar).meter = { s.meter with
          lastAssigned := count32 (s.meter.lastAssigned + 1)
          trip := some { s.newTrip (count32 (s.meter.lastAssigned + 1)) with
            segments := [⟨n, s.now, 0, 0, 0, 0⟩], flagFall := tar.flagFall, fare := tar.flagFall } }
      ∧ (s.hireStarted n tar).engine =
          ⟨.running, some n, tar.stepDm * s.distance.k * tar.stepDs, 10000 * tar.stepDs,
            tar.stepDm * s.distance.k, tar.increment, 0, tar.included⟩
      ∧ (s.hireStarted n tar).sign.test = none ∧ (s.hireStarted n tar).intercom.test = none := by
  obtain ⟨hsign, hemergency⟩ := s.endTest_sign
  have htest := s.endTest.abortSpeakerTest_test
  refine ⟨fun p hp => ?_, rfl, ?_, ?_, ?_, htest⟩
  · cases p <;> simp_all [Part.same, State.hireStarted, State.startTrip]
  · simp [State.hireStarted, State.startTrip, State.modTrip, State.newTrip, hemergency, FareSegment.opening,
      State.now, TripFlags.clear]
  · simp [State.hireStarted, State.startTrip, Engine.withConstants]
  · simp [State.hireStarted, State.startTrip, hsign]

end

/-- Settles O36: the refusals of `hireRefusal`, and a HIRE taken whole. -/
theorem hireDecided : Obligations.HireDecided := by
  intro rq h s hfrom hrun hin refusal
  have hrefusal : s.hireRefusal h = refusal := s.hireRefusal_eq h
  obtain ⟨hrefused, haccepted⟩ := State.decideHire_inRange (rq := rq) hin hrun
  refine ⟨fun r hr => console_answered hfrom rfl (hrefused r (hrefusal.trans hr)),
    fun b n tar hnone hband hn htar hlast => ?_⟩
  have hn' : (s.hireTariff b h).1 = n := by
    rcases hn with ⟨rfl, rfl⟩ | rfl <;> rfl
  have hexec := exec_console_of (c := .hire rq h) hfrom rfl
    (haccepted b n tar (hrefusal.trans hnone) hband hn' htar)
  obtain ⟨hsame, hlink, hmeter, hengine, hsign, htest⟩ := s.hireStarted_keeps n tar
  have hnumber : count32 (s.meter.lastAssigned + 1) = s.meter.lastAssigned + 1 :=
    if_pos (by simp only [max32]; omega)
  rw [hnumber] at hmeter
  let w := s.hireStarted n tar
  have hwmeter := w.setMeterState_meter .hired
  rw [← s.takeHire_eq, hmeter] at hwmeter
  have hmoved : s.movedTo (s.takeHire n tar) .hired := by
    rw [s.takeHire_eq]
    refine State.movedTo_congr (State.setMeterState_movedTo w .hired) fun d => ?_
    cases d <;> simp only [State.viewState, w, hmeter]
  have hlastAssigned : (s.takeHire n tar).meter.lastAssigned = s.meter.lastAssigned + 1 := by rw [hwmeter]
  rw [hlastAssigned] at hexec
  have hconsole : (s.takeHire n tar).holder .console = some rq.src := by
    have htables : (s.takeHire n tar).tables = s.tables := by
      rw [s.takeHire_eq]
      exact (State.setMeterState_keeps w .hired).2.1.trans (hsame .tables (by decide))
    rw [State.holder_congr htables, hfrom.2]
  have hfront : (s.takeHire n tar).link.front.running = true := by
    have habort := congrArg (fun l : Link => l.front.running) s.endTest.abortSpeakerTest_still
    rw [s.takeHire_eq, State.setMeterState_front_running, hlink]
    exact habort.trans (by simpa [Link.still] using State.front_running_of_fromConsole hfrom)
  have hgrows : s.endTest.abortSpeakerTest.grows (s.takeHire n tar) := by
    rw [s.takeHire_eq]
    exact State.grows_after hlink (State.setMeterState_grows w .hired)
  have htests := State.setMeterState_tests w .hired
  rw [← s.takeHire_eq, htest, hsign] at htests
  have hpay : (s.takeHire n tar).pay = s.pay := by
    rw [s.takeHire_eq]
    exact (State.setMeterState_keeps w .hired).2.2.2.2.2.2.2.1.trans (hsame .pay (by decide))
  have hjoined := (State.consoleRespond_appends (s.takeHire n tar) rq .hire .accepted
    (.trip (s.meter.lastAssigned + 1) n)).1
  obtain ⟨q, d, hq⟩ := State.trigger_eq ((s.takeHire n tar).consoleRespond rq .hire .accepted
    (.trip (s.meter.lastAssigned + 1) n)) .hire
  rw [State.consoleRespond_front .hire .accepted _ hconsole hfront] at hq hexec hjoined
  rw [hq] at hexec
  have hrec : (s.takeHire n tar).meter.trip = some { s.newTrip (s.meter.lastAssigned + 1) with
      segments := [⟨n, s.now, 0, 0, 0, 0⟩], flagFall := tar.flagFall, fare := tar.flagFall } := by rw [hwmeter]
  refine ⟨_, _, hexec, hmoved, hrec, hlastAssigned, rfl, rfl, rfl, rfl, rfl, rfl, rfl, rfl, rfl, rfl, rfl,
    ?_, htests.2, htests.1, hpay, fun x hx hseg => ?_, offeredTo_joined ..⟩
  · exact (congrArg State.engine (s.takeHire_eq n tar)).trans
      ((State.setMeterState_keeps w .hired).2.2.2.2.2.2.1.trans hengine)
  · have hx' : s.endTest.intercom.test = some x := by simpa using hx
    have hrunning : s.endTest.link.front.running = true := by
      simpa using State.front_running_of_fromConsole hfrom
    exact offeredTo_of_grows hjoined (offeredTo_of_grows hgrows (State.abortSpeakerTest_offered hx' hseg hrunning))

end Sys2Proof.Machine
end

section
/-! ### PAY, RESUME and the views they leave (R102, R105) -/

namespace Sys2Proof.Machine

open Sys2Proof

/-! #### Views held beside what a close does -/

theorem State.viewHeld_of_same {s t : State} {d : ViewDest} (h : s.viewHeld d) (htables : t.tables = s.tables)
    (hstill : t.link.still = s.link.still) (hgrows : s.grows t) (hview : t.viewState d = s.viewState d) :
    t.viewHeld d :=
  State.viewHeld_of_grows h htables hstill hgrows fun hh => by rwa [hview]

/-- A change of the meter state has marked both views, and tried them. -/
theorem State.viewHeld_setMeterState (s : State) (m : MeterState) (d : ViewDest) :
    (s.setMeterState m).viewHeld d := by
  obtain ⟨u, hends, -, -, -⟩ := s.setMeterState_ends m
  rw [hends]
  exact State.viewHeld_markViews _ d

/-- The state of a close before its views: the closing mark set and the record completed (R109). -/
def State.closing (s : State) (r : TripRecord) : State :=
  State.recompose
    { s with meter := { s.meter with closing := true, stage := .updating, correction := 0, trip := some r } }

theorem State.beginClose_eq {s : State} {r : TripRecord} (u : Nat) (h : s.meter.trip = some r) :
    s.beginClose u =
      (s.closing { r with stop := s.now, tenders := s.pay.tenders, unpaid := u }).markViews.beginCloseUpdate
        { r with stop := s.now, tenders := s.pay.tenders, unpaid := u } := by
  simp [State.beginClose, h, State.closing]

theorem State.closing_meter (s : State) (r : TripRecord) :
    (s.closing r).meter =
      { s.meter with closing := true, stage := .updating, correction := 0, trip := some r } := by
  simp [State.closing]

theorem State.beginCloseUpdate_meter (s : State) (r : TripRecord) : (s.beginCloseUpdate r).meter = s.meter := by
  simp

/-- What the begin of a close leaves of the meter controller. -/
theorem State.beginClose_sameButViews {s : State} {r : TripRecord} (u : Nat) (h : s.meter.trip = some r) :
    Meter.sameButViews
      { s.meter with
        closing := true, stage := .updating, correction := 0
        trip := some { r with stop := s.now, tenders := s.pay.tenders, unpaid := u } }
      (s.beginClose u).meter := by
  rw [State.beginClose_eq u h, State.beginCloseUpdate_meter, ← State.closing_meter]
  exact State.markViews_meter _

/-- With both views held a close leaves them marked. -/
theorem State.beginClose_marked {s : State} {r : TripRecord} (u : Nat) (h : s.meter.trip = some r)
    (hheld : ∀ d, s.viewHeld d) (d : ViewDest) : ((s.beginClose u).viewState d).mark = true := by
  have hclosing : ∀ r' e, (s.closing r').viewHeld e := fun r' e =>
    State.viewHeld_of_same (hheld e) (by simp [State.closing]) (by simp [State.closing])
      (State.grows_of_link (by simp [State.closing])) (by cases e <;> simp [State.closing, State.viewState])
  have hview : ∀ (v : State) r', (v.beginCloseUpdate r').viewState d = v.viewState d := fun v r' => by
    cases d <;> simp [State.viewState]
  rw [State.beginClose_eq u h, hview, State.markViews_of_held (hclosing _ _) (hclosing _ _),
    State.setMarks_viewState]

/-- A close begun after a change of the meter state leaves what `movedTo` speaks of. -/
theorem State.movedTo_beginClose {s t : State} {m : MeterState} {r : TripRecord} (h : s.movedTo t m) (u : Nat)
    (htrip : t.meter.trip = some r) (hheld : ∀ d, t.viewHeld d) : s.movedTo (t.beginClose u) m := by
  obtain ⟨hstate, hack, hmode, ⟨r', a, c, o, hr, hmem⟩, -, -⟩ := h
  have hmeter := State.beginClose_sameButViews u htrip
  refine ⟨?_, ?_, ?_, ⟨r', a, c, o, hr, (t.beginClose_appends u).2.subset hmem⟩,
    .inl (State.beginClose_marked u htrip hheld _), .inl (State.beginClose_marked u htrip hheld _)⟩
  · rw [hmeter]
    exact hstate
  · rw [hmeter]
    exact hack
  · rw [(t.beginClose_keeps u).2.2.2.2.2.2.2.1]
    exact hmode

/-! #### PAY -/

section
variable {s : State} {rq : Req}

/-- The state of a PAY before the meter state changes: the engine held, the snapshot taken (R102). -/
def State.frozen (s : State) (r : TripRecord) : State :=
  { s with
    engine := { s.engine with mode := .held }
    meter :=
      { s.meter with
        snapshot := some r.fare, correction := 10 * s.mgmt.metrology.tariffSet.general.correction } }

theorem State.takePay_eq {r : TripRecord} (h : s.meter.trip = some r) :
    s.takePay = (s.frozen r).setMeterState .pay := by
  simp [State.takePay, State.fare, h, State.frozen]

/-- An accepted PAY before a close: the change of the meter state, the answer, the prompt. -/
def State.paid (s : State) (rq : Req) (r : TripRecord) : State :=
  State.trigger (s.takePay.consoleRespond rq .pay .accepted (.amount r.fare)) .pay

theorem exec_pay_of (h : s.fromConsole rq) (hrun : s.power.state = .run) (hstate : s.meter.state = .hired)
    {r : TripRecord} (hr : s.meter.trip = some r) :
    exec (.pay rq) s = .next (if r.fare = 0 then (s.paid rq r).beginClose 0 else s.paid rq r) := by
  refine exec_console_of h rfl ?_
  have hfare : s.fare = r.fare := by simp [State.fare, hr]
  simp only [State.decidePay, State.whenRun_of _ hrun, if_pos hstate, hfare]
  rfl

/-- What an accepted PAY has made before a close. -/
theorem State.paid_keeps (h : s.fromConsole rq) {r : TripRecord} (hr : s.meter.trip = some r) :
    s.movedTo (s.paid rq r) .pay ∧ (∀ d, (s.paid rq r).viewHeld d)
      ∧ Meter.sameButViews { (s.frozen r).meter with state := .pay, lastAck := none } (s.paid rq r).meter
      ∧ (s.paid rq r).engine = { s.engine with mode := .held } ∧ (s.paid rq r).pay = s.pay
      ∧ (s.paid rq r).time = s.time
      ∧ offeredTo (s.paid rq r).link.front.queue (consoleAnswer rq .pay .accepted (.amount r.fare)) := by
  have htake := s.takePay_eq hr
  have hconsole : s.takePay.holder .console = some rq.src := by
    rw [State.holder_congr (s := s) (by simp [State.takePay]), h.2]
  have hfront : s.takePay.link.front.running = true := by
    rw [htake, State.setMeterState_front_running]
    exact State.front_running_of_fromConsole h
  have hmoved : s.movedTo s.takePay .pay := by
    rw [htake]
    exact State.movedTo_congr (State.setMeterState_movedTo _ _) fun d => by cases d <;> rfl
  have hanswer := State.consoleRespond_front .pay .accepted (.amount r.fare) hconsole hfront
  have hheld : ∀ d, (s.takePay.consoleRespond rq .pay .accepted (.amount r.fare)).viewHeld d := fun d => by
    refine State.viewHeld_of_same (s := s.takePay) ?_ (by simp) (by simp) (State.consoleRespond_appends ..).1
      (by cases d <;> simp [State.viewState])
    rw [htake]
    exact State.viewHeld_setMeterState _ _ d
  refine ⟨State.movedTo_trigger (State.movedTo_consoleRespond hmoved ..) _, fun d => ?_, ?_, ?_, ?_, ?_, ?_⟩
  · exact State.viewHeld_of_same (hheld d) (by simp [State.paid]) (by simp [State.paid])
      (State.trigger_grows _ _) (by cases d <;> simp [State.viewState, State.paid])
  · have hmeter : (s.paid rq r).meter = s.takePay.meter := by simp [State.paid]
    rw [hmeter, htake]
    exact State.setMeterState_meter _ _
  · simp [State.paid, State.takePay]
  · simp [State.paid, State.takePay]
  · simp [State.paid, State.takePay]
  · refine offeredTo_of_grows (State.trigger_grows _ _) ?_
    rw [hanswer]
    exact offeredTo_joined ..

end

/-- Settles O37: PAY taken, and with a snapshot of 0 the close begun behind it. -/
theorem payFreezesFare : Obligations.PayFreezesFare := by
  intro rq s h hrun
  refine ⟨fun hstate => console_answered h rfl ?_, fun r hstate hr => ?_⟩
  · rw [State.decidePay, State.whenRun_of _ hrun, if_neg hstate]
  obtain ⟨hmoved, hheld, hmeter, hengine, hpay, htime, hoffered⟩ := State.paid_keeps h hr
  have htrip : (s.paid rq r).meter.trip = some r := by
    rw [hmeter]
    exact hr
  by_cases hfare : r.fare = 0
  · have hclose := State.beginClose_sameButViews 0 htrip
    refine ⟨_, (exec_pay_of h hrun hstate hr).trans (congrArg _ (if_pos hfare)),
      State.movedTo_beginClose hmoved 0 htrip hheld, ?_, by simp [hengine], by simp [hpay],
      offeredTo_of_grows (State.beginClose_grows _ _) hoffered, fun hne => absurd hfare hne, fun _ => ?_⟩
    · rw [hclose, hmeter]
      rfl
    · rw [hclose]
      refine ⟨rfl, rfl, ?_⟩
      have hnow : (s.paid rq r).now = s.now := by simp only [State.now, htime]
      rw [hnow, hpay]
  · refine ⟨_, (exec_pay_of h hrun hstate hr).trans (congrArg _ (if_neg hfare)), hmoved, ?_, hengine, hpay,
      hoffered, fun _ => ?_, fun heq => absurd heq hfare⟩
    · rw [hmeter]
      rfl
    · exact ⟨by rw [hmeter]; rfl, by rw [hmeter]; rfl, htrip⟩

/-! #### RESUME -/

section
variable {s : State} {r : TripRecord}

theorem State.modTrip_meter (h : s.meter.trip = some r) (f : TripRecord → TripRecord) :
    (s.modTrip f).meter = { s.meter with trip := some (f r) } := by
  simp [State.modTrip, h]

/-- What a band check in RUNNING leaves of the open trip and the engine (R83, R85). -/
theorem State.followBand_carries (h : s.meter.trip = some r) (b : Option Nat) :
    (s.followBand b).1.engine.mode = s.engine.mode ∧ (s.followBand b).1.engine.fs = s.engine.fs
      ∧ ∃ r', (s.followBand b).1.meter = { s.meter with trip := some r' } ∧ r'.fare = r.fare
        ∧ r'.number = r.number ∧ r'.flags.resumed = r.flags.resumed := by
  have hsame : s.meter = { s.meter with trip := some r } := by rw [← h]
  unfold State.followBand
  repeat' split
  · exact ⟨rfl, rfl, _, State.modTrip_meter h _, rfl, rfl, rfl⟩
  · exact ⟨rfl, rfl, r, hsame, rfl, rfl, rfl⟩
  · exact ⟨rfl, rfl, _, State.modTrip_meter h _, rfl, rfl, rfl⟩
  · exact ⟨rfl, rfl, r, hsame, rfl, rfl, rfl⟩
  · exact ⟨rfl, rfl, r, hsame, rfl, rfl, rfl⟩

end

/-- Settles O38: the refusals in the order of R105, a RESUME taken, and the expiry. -/
theorem resumeReturnsToHired : Obligations.ResumeReturnsToHired := by
  intro rq s h hrun refusal
  have hrefusal : s.resumeRefusal = refusal := rfl
  refine ⟨fun r hr => console_answered h rfl ?_, fun r hnone hr => ?_, ?_⟩
  · rw [State.decideResume, State.whenRun_of _ hrun, hrefusal.trans hr]
  · obtain ⟨hmode, hfs, r', hmeter, hfare, hnumber, hresumed⟩ :=
      State.followBand_carries (s := s.resumed) (r := { r with flags := { r.flags with resumed := true } })
        (by simp [State.resumed, hr]) s.time.band
    obtain ⟨htrip, hengine⟩ := s.takeResume_followed (rq := rq)
    have hset := (s.resumed.followBand s.time.band).1.setMeterState_meter .hired
    rw [hmeter, ← State.takeResume_eq] at hset
    have hconsole : s.takeResume.holder .console = some rq.src := by
      rw [State.holder_congr (s := s) (by simp [State.takeResume]), h.2]
    have hfront : s.takeResume.link.front.running = true := by
      have hlink : (s.resumed.followBand s.time.band).1.link = s.link :=
        (s.resumed.followBand_keeps s.time.band).2.1
      rw [State.takeResume_eq, State.setMeterState_front_running, hlink]
      exact State.front_running_of_fromConsole h
    have hanswered : (s.takeResume.consoleRespond rq .resume .accepted).meter = s.takeResume.meter := by simp
    refine ⟨_, r', exec_resume_accepted h hrun (hrefusal.trans hnone),
      State.movedTo_consoleRespond ?_ .., by rw [htrip, hmeter], hresumed, hfare, hnumber,
      by rw [hengine, hmode]; rfl, by rw [hengine, hfs]; rfl, by rw [hanswered, hset]; rfl,
      by rw [hanswered, hset]; rfl, ?_⟩
    · rw [State.takeResume_eq]
      refine State.movedTo_congr (State.setMeterState_movedTo _ _) fun d => ?_
      cases d <;> simp only [State.viewState, hmeter] <;> rfl
    · rw [State.consoleRespond_front _ _ _ hconsole hfront]
      exact offeredTo_joined ..
  · exact congrArg _ (State.whenPowered_of _ (State.powered_of_receives h.1))

end Sys2Proof.Machine
end

section
/-! ### EXTRA and END_UNPAID (R88, R89, R106, R107, R109) -/

namespace Sys2Proof.Machine

open Sys2Proof

/-! #### EXTRA -/

theorem addToFare_spec (fare : Nat) (sat : Bool) (amount : Nat) :
    addToFare fare sat amount = (min (fare + amount) 9999999, sat || decide (9999999 < fare + amount)) := by
  unfold addToFare fareMax
  by_cases h : 9999999 < fare + amount
  · simp [h, Nat.min_eq_right (Nat.le_of_lt h)]
  · simp [h, Nat.min_eq_left (Nat.not_lt.1 h)]

/-- The record that an EXTRA makes (R88, R89). -/
def TripRecord.withExtra (r : TripRecord) (code amount : Nat) : TripRecord :=
  { r with
    extras := addExtra r.extras code amount, fare := min (r.fare + amount) 9999999
    flags := { r.flags with saturated := r.flags.saturated || decide (9999999 < r.fare + amount) } }

/-- An EXTRA taken, before its views (R106). -/
def State.withExtra (s : State) (r : TripRecord) (code : Nat) : State :=
  { s with
    meter :=
      { s.meter with
        trip := some (r.withExtra code (s.extraAmount r code))
        snapshot :=
          if s.meter.state = .pay then some (min (r.fare + s.extraAmount r code) 9999999)
          else s.meter.snapshot } }

/-- A state with its views marked where something asks for it. -/
theorem State.markViews_if (s : State) (p : Prop) [Decidable p] :
    s.sameBut [.link, .meter] (if p then s else s.markViews)
      ∧ s.meter.sameButViews (if p then s else s.markViews).meter
      ∧ (if p then s else s.markViews).link.still = s.link.still
      ∧ s.grows (if p then s else s.markViews) := by
  split
  · exact ⟨fun q _ => by cases q <;> rfl, rfl, rfl, s.grows_refl⟩
  · refine ⟨fun q hq => ?_, s.markViews_meter, s.markViews_still, s.markViews_grows⟩
    cases q <;> simp [Part.same] at hq ⊢

section
variable {s : State} {rq : Req} {r : TripRecord} {code : Nat}

theorem State.takeExtra_eq (s : State) (r : TripRecord) (code : Nat) :
    s.takeExtra r code =
      if min (r.fare + s.extraAmount r code) 9999999 = r.fare then s.withExtra r code
      else (s.withExtra r code).markViews := by
  simp only [State.takeExtra, addToFare_spec]
  rfl

theorem State.withExtra_sameBut (s : State) (r : TripRecord) (code : Nat) :
    s.sameBut [.link, .meter] (s.withExtra r code) := fun p hp => by
  cases p <;> simp_all [Part.same, State.withExtra]

theorem addExtra_of_new {l : List ExtraRecord} {code : Nat} (amount : Nat)
    (h : l.find? (fun e => e.code == code) = none) : addExtra l code amount = l ++ [⟨code, 1, amount⟩] := by
  refine if_neg ?_
  rw [List.any_eq_true]
  rintro ⟨e, he, hcode⟩
  exact List.find?_eq_none.1 h e he hcode

theorem addExtra_of_held {l : List ExtraRecord} {code : Nat} {x : ExtraRecord} (amount : Nat)
    (h : l.find? (fun e => e.code == code) = some x) :
    addExtra l code amount = l.map fun e => if e.code = code then { e with count := e.count + 1 } else e := by
  have hany : (l.any fun e => e.code == code) = true :=
    List.any_eq_true.2 ⟨x, List.mem_of_find?_eq_some h, List.find?_some (p := fun e : ExtraRecord => e.code == code) h⟩
  simp only [addExtra, hany, if_true, beq_iff_eq]

/-- An extra is not permitted for the active tariff, or for no tariff (R88). -/
theorem notPermitted_iff (a : Option Nat) (l : List Nat) :
    (!(a.map l.contains).getD false) = true ↔ l.all (fun n => decide (a ≠ some n)) = true := by
  cases a with
  | none => simp
  | some n =>
    rw [List.all_eq_true]
    simp only [Option.map_some, Option.getD_some, Bool.not_eq_true', decide_eq_true_eq, ne_eq,
      Option.some.injEq, ← Bool.not_eq_true, List.contains_iff_mem]
    exact ⟨fun h x hx hnx => h (hnx ▸ hx), fun h hn => h n hn rfl⟩

/-- The tests of R88 in their order, with the code defined and held. -/
theorem State.extraRefusal_of_held {x : Extra} {e : ExtraRecord}
    (h : s.mgmt.metrology.tariffSet.extra code = some x)
    (hheld : r.extras.find? (fun e => e.code == code) = some e) :
    s.extraRefusal r code =
      if x.permitted.all (fun n => decide (s.engine.active ≠ some n)) = true then some .extraNotAllowed
      else if s.meter.state = .pay ∧ x.inPay = false then some .extraNotAllowed
      else if e.count = x.maxCount then some .extraLimit else none := by
  simp only [State.extraRefusal, h, notPermitted_iff, hheld]

/-- The tests of R88 in their order, with the code defined and not held. -/
theorem State.extraRefusal_of_new {x : Extra} (h : s.mgmt.metrology.tariffSet.extra code = some x)
    (hnew : r.extras.find? (fun e => e.code == code) = none) :
    s.extraRefusal r code =
      if x.permitted.all (fun n => decide (s.engine.active ≠ some n)) = true then some .extraNotAllowed
      else if s.meter.state = .pay ∧ x.inPay = false then some .extraNotAllowed
      else if 8 ≤ r.extras.length then some .full else none := by
  simp only [State.extraRefusal, h, notPermitted_iff, hnew]

/-- The amount of one unit of a code held (R89). -/
theorem State.extraAmount_of_held {e : ExtraRecord}
    (hheld : r.extras.find? (fun e => e.code == code) = some e) : s.extraAmount r code = e.amount := by
  simp only [State.extraAmount, hheld]

/-- The amount of one unit of a new code (R89). -/
theorem State.extraAmount_of_new {x : Extra} (h : s.mgmt.metrology.tariffSet.extra code = some x)
    (hnew : r.extras.find? (fun e => e.code == code) = none) : s.extraAmount r code = x.amount := by
  simp only [State.extraAmount, h, hnew, Option.map_some, Option.getD_some]

/-- An EXTRA that its refusals let through, decided (R106). -/
theorem State.decideExtra_of (hrun : s.power.state = .run) (hr : s.meter.trip = some r)
    (hopen : s.meter.state = .hired ∨
      s.meter.state = .pay ∧ s.meter.closing = false ∧ s.pay.session.state = .idle) :
    s.decideExtra rq code = match s.extraRefusal r code with
      | some e => s.consoleRespond rq .extra e
      | none => (s.takeExtra r code).consoleRespond rq .extra .accepted
          (.amount (s.takeExtra r code).fare) := by
  rw [State.decideExtra, State.whenRun_of _ hrun]
  rcases hopen with hstate | ⟨hstate, hclosing, hidle⟩
  · simp only [hstate, hr]
    exact if_neg (by simp)
  · simp only [hstate, hr]
    exact if_neg (by simp [State.payBusy, hclosing, hidle])

end

/-- What an EXTRA taken leaves, its answer included (R106). -/
theorem State.takeExtra_answered {s : State} {rq : Req} (h : s.fromConsole rq) (r : TripRecord) (code : Nat) :
    let t := (s.takeExtra r code).consoleRespond rq .extra .accepted (.amount (s.takeExtra r code).fare)
    s.sameBut [.link, .meter] t ∧ Meter.sameButViews (s.withExtra r code).meter t.meter
      ∧ offeredTo t.link.front.queue (consoleAnswer rq .extra .accepted
        (.amount (min (r.fare + s.extraAmount r code) 9999999))) := by
  intro t
  obtain ⟨hsame, hmeter, hstill, -⟩ := (s.withExtra r code).markViews_if
    (min (r.fare + s.extraAmount r code) 9999999 = r.fare)
  rw [← State.takeExtra_eq] at hsame hmeter hstill
  have htook : s.sameBut [.link, .meter] (s.takeExtra r code) :=
    State.sameBut_trans (s.withExtra_sameBut r code) hsame
  have hfare : (s.takeExtra r code).fare = min (r.fare + s.extraAmount r code) 9999999 := by
    rw [State.fare, hmeter]
    rfl
  have hconsole : (s.takeExtra r code).holder .console = some rq.src := by
    rw [State.holder_congr (htook .tables (by decide)), h.2]
  have hfront : (s.takeExtra r code).link.front.running = true :=
    (congrArg (fun l : Link => l.front.running) hstill).trans (State.front_running_of_fromConsole h)
  refine ⟨State.sameBut_trans htook fun p hp => ?_, ?_, ?_⟩
  · cases p <;> simp [Part.same, t] at hp ⊢
  · simpa [t] using hmeter
  · simp only [t, hfare]
    rw [State.consoleRespond_front _ _ _ hconsole hfront]
    exact offeredTo_joined ..

/-- Settles O39: the refusals before the engine's, the engine's in their order, and the unit taken. -/
theorem extraJoinsFare : Obligations.ExtraJoinsFare := by
  intro rq code s h hrun
  refine ⟨fun hstate => console_answered h rfl ?_, fun r hr => ⟨fun hpay hbusy => console_answered h rfl ?_,
    fun hopen => ?_⟩⟩
  · rw [State.decideExtra, State.whenRun_of _ hrun]
    rcases hstate with hstate | hstate <;> simp only [hstate]
  · rw [State.decideExtra, State.whenRun_of _ hrun]
    simp only [hpay, hr]
    exact if_pos ⟨trivial, by simpa [State.payBusy] using hbusy⟩
  · intro held refusal
    have hrefusal : s.extraRefusal r code = refusal := by
      cases hx : s.mgmt.metrology.tariffSet.extra code with
      | none => simp only [State.extraRefusal, refusal, hx]
      | some x =>
        cases hheld : r.extras.find? fun e => e.code == code with
        | none => simp only [State.extraRefusal_of_new hx hheld, refusal, held, hx, hheld]
        | some e => simp only [State.extraRefusal_of_held hx hheld, refusal, held, hx, hheld]
    have hdecide := State.decideExtra_of (rq := rq) (code := code) hrun hr hopen
    rw [hrefusal] at hdecide
    refine ⟨fun e he => console_answered h rfl (hdecide.trans (by rw [he])), fun x hnone hx => ?_⟩
    intro amount fare
    have hamount : s.extraAmount r code = amount := by
      cases hheld : r.extras.find? fun e => e.code == code with
      | none => simp only [State.extraAmount_of_new hx hheld, amount, held, hheld]
      | some e => simp only [State.extraAmount_of_held hheld, amount, held, hheld]
    obtain ⟨hsame, hmeter, hoffered⟩ := s.takeExtra_answered h r code
    rw [hamount] at hoffered
    refine ⟨_, r.withExtra code amount, exec_console_of h rfl (hdecide.trans (by rw [hnone])), hsame, ?_, rfl, rfl,
      ?_, fun hpay => ?_, ?_, ?_, hoffered⟩
    · rw [hmeter, ← hamount]
      rfl
    · show addExtra r.extras code amount = _
      cases hheld : held with
      | none => exact addExtra_of_new _ hheld
      | some e => exact addExtra_of_held _ hheld
    · rw [hmeter]
      exact (if_pos hpay).trans (by rw [hamount])
    · rw [hmeter]
      rfl
    · rw [hmeter]
      rfl

/-! #### END_UNPAID -/

section
variable {s : State} {rq : Req} {r : TripRecord}

/-- What the begin of a close leaves of the rest of the state, and the close update (R109, R186). -/
theorem State.beginClose_begins (u : Nat) (hr : s.meter.trip = some r) :
    let r' := { r with stop := s.now, tenders := s.pay.tenders, unpaid := u }
    let acct := { s.acct with entry := some r'.contribution }
    s.sameBut [.link, .meter, .sign, .acct, .writes] (s.beginClose u)
      ∧ (s.beginClose u).acct = { acct with unwritten := false }
      ∧ (s.beginClose u).writes = s.writes ++
        [.closeUpdate r' acct.carry acct.totalsNow s.now s.meter.lastAssigned] := by
  intro r' acct
  have hlast : ∀ v : State, v.markViews.meter.lastAssigned = v.meter.lastAssigned := fun v => by
    rw [v.markViews_meter]
  refine ⟨fun p hp => ?_, ?_, ?_⟩
  · cases p <;> simp [Part.same] at hp ⊢
  · rw [State.beginClose_eq u hr]
    simp [State.beginCloseUpdate, State.beginCarrying, State.begin, State.closing, acct, r']
  · rw [State.beginClose_eq u hr]
    simp [State.beginCloseUpdate, State.beginCarrying, State.begin, State.closing, hlast, acct, r', State.now]

end

/-- Settles O40: the refusals of R107, and a close with the remaining due as its unpaid remainder. -/
theorem endUnpaidBeginsClose : Obligations.EndUnpaidBeginsClose := by
  intro rq s h hrun
  have hdecide : s.decideEndUnpaid rq = _ := State.whenRun_of _ hrun
  refine ⟨fun hstate => console_answered h rfl (hdecide.trans (if_pos hstate)), fun hpay hbusy =>
    console_answered h rfl (hdecide.trans ?_), fun r hpay hclosing hidle hr => ?_⟩
  · exact (if_neg (by simp [hpay])).trans (if_pos (by simpa [State.payBusy] using hbusy))
  let v := s.modTrip fun r => { r with flags := { r.flags with unpaid := true } }
  let w := v.consoleRespond rq .endUnpaid .accepted (.amount s.remainingDue)
  have hv : v.meter = { s.meter with trip := some { r with flags := { r.flags with unpaid := true } } } :=
    State.modTrip_meter hr _
  have hw : w = { v with link := { v.link with front := { v.link.front with
      queue := joined v.link.front.queue
        (consoleAnswer rq .endUnpaid .accepted (.amount s.remainingDue)) } } } :=
    State.consoleRespond_front .endUnpaid .accepted _ h.2 (State.front_running_of_fromConsole h)
  have htrip : w.meter.trip = some { r with flags := { r.flags with unpaid := true } } := by
    rw [hw]
    exact congrArg Meter.trip hv
  have hmeter := State.beginClose_sameButViews s.remainingDue htrip
  obtain ⟨hsame, hacct, hwrites⟩ := State.beginClose_begins s.remainingDue htrip
  refine ⟨w.beginClose s.remainingDue, _, exec_console_of h rfl (hdecide.trans ?_), ?_, rfl, ?_, ?_, ?_, ?_,
    ⟨_, rfl, ?_, ?_⟩, ?_⟩
  · exact (if_neg (by simp [hpay])).trans (if_neg (by simp [State.payBusy, hclosing, hidle]))
  · refine State.sameBut_trans (fun p hp => ?_) hsame
    rw [hw]
    cases p <;> simp [Part.same, v] at hp ⊢
  · rw [hmeter]
    simp [hw, v, State.now]
  · rw [hmeter]
  · rw [hmeter]
  · rw [hmeter, hw]
    exact (congrArg Meter.state hv).trans hpay
  · rw [hacct]
    simp [hw, v, State.now]
  · rw [hwrites]
    simp [hw, v, State.now, hv]
  · refine offeredTo_of_grows (State.beginClose_grows _ _) ?_
    rw [hw]
    exact offeredTo_joined ..

end Sys2Proof.Machine
end

section
/-! ### The end of a close (R109), views and their acknowledgements (R113 to R115, R160) -/

namespace Sys2Proof.Machine

open Sys2Proof

/-! #### The release of the meter -/

/-- A checkpoint writes what a shift closed before a pin reset left unwritten. -/
theorem State.beginCheckpoint_acct (s : State) (o : Option Ref) :
    (s.beginCheckpoint o).acct = { s.acct with unwritten := false } := by
  unfold State.beginCheckpoint State.restartCheckpointTimer
  split <;> rfl

/-- A change of the meter state leaves of the accounting all but the mark of an unwritten shift. -/
theorem State.setMeterState_acct (s : State) (m : MeterState) :
    ∃ b, (s.setMeterState m).acct = { s.acct with unwritten := b } := by
  unfold State.setMeterState
  simp only [State.markViews_keeps, State.beginCheckpoint_acct]
  refine ⟨false, ?_⟩
  split <;> simp

/-- With no park timer waiting, the release is the change of the meter state and the prompt (R109, step 4). -/
theorem State.releaseClose_of {s : State} (h : s.power.park ≠ .waiting) :
    s.releaseClose =
      (s.withoutTrip.setMeterState (if s.acct.shift.limitSet then .offDuty else .vacant)).trigger
        .tripClosed := by
  rw [State.releaseClose_eq]
  obtain ⟨c, hc⟩ := s.withoutTrip.setMeterState_power (if s.acct.shift.limitSet then .offDuty else .vacant)
  exact State.parkCheck_of_park fun hpark => by
    simp only [State.trigger_keeps, hc] at hpark
    exact h hpark

/-- Settles O41: the close update is stored, its contributions are merged, and the meter is released. -/
theorem closeUpdateReleasesMeter : Obligations.CloseUpdateReleasesMeter := by
  intro r c totals time last rest e s hrun hw hreport hr hentry htariff hcalibration hpark hlog
  let v := (s.afterWrite (.closeUpdate r c totals time last) rest).merged
  have hsame := v.logNotices_sameBut
  have hmeter : v.logNotices.meter = s.meter := hsame .meter (by simp)
  have hacct : v.logNotices.acct = v.acct := hsame .acct (by simp)
  have hpower : v.logNotices.power = s.power := hsame .power (by simp)
  have hstore : v.logNotices.store = s.store.apply (.closeUpdate r c totals time last) := hsame .store (by simp)
  have hnext : v.logNotices.mgmt.slot.nextCopy = none := by
    rw [show v.logNotices.mgmt = s.mgmt from hsame .mgmt (by simp), PendingSlot.nextCopy, hcalibration, htariff]
  have hexec : exec .closeUpdateComplete s = .next v.logNotices.releaseClose := by
    rw [exec_closeUpdateComplete_of (by simp [State.powered, hrun]) hw hreport, State.closeStored_eq,
      State.continueClose_of (s := v.logNotices) (by simp [hpower, hrun]), State.goOnClose_none hnext]
  obtain ⟨htrip, -, hclosing, hsnapshot, hengine, -⟩ := v.logNotices.releaseClose_meter
  obtain ⟨-, -, hkept, -⟩ := v.logNotices.releaseClose_keeps
  have hrelease := State.releaseClose_of (s := v.logNotices) (by rwa [hpower])
  have hlimit : v.logNotices.acct.shift.limitSet = s.acct.shift.limitSet := by
    rw [hacct]
    simp [v, State.merged, State.afterWrite, Accounting.shiftNow, hentry]
  rw [hlimit] at hrelease
  obtain ⟨b, hb⟩ := v.logNotices.withoutTrip.setMeterState_acct
    (if s.acct.shift.limitSet then .offDuty else .vacant)
  have hacct' : v.logNotices.releaseClose.acct = { v.acct with unwritten := b } := by
    rw [hrelease, ← hacct]
    simpa [State.withoutTrip] using hb
  have hviews := v.logNotices.withoutTrip.setMeterState_meter
    (if s.acct.shift.limitSet then .offDuty else .vacant)
  refine ⟨_, hexec, ?_, by rw [hkept, hstore]; rfl, by rw [hkept, hstore]; rfl, by rw [hacct']; rfl, ?_, htrip,
    hsnapshot, hclosing, ?_, by rw [hengine]; rfl, by rw [hengine]; rfl, ?_, ?_⟩
  · rw [hkept, hstore]
    exact if_pos hlog
  · rw [hacct']
    simp [v, State.merged, State.afterWrite, Accounting.totalsNow, hentry]
  · rw [hrelease, (State.trigger_keeps _ _).2.2.2.2.2.2.2.2.1, hviews]
    simp [State.withoutTrip, hmeter, hr]
  · rw [hrelease]
    simp [State.withoutTrip]
  · rw [hrelease]
    refine State.movedTo_trigger (State.movedTo_congr (State.setMeterState_movedTo _ _) fun d => ?_) _
    cases d <;> simp [State.viewState, State.withoutTrip, hmeter]

/-! #### Views -/

section
variable {s : State} {a : NodeAddr}

/-- A row of the powered part is what it does there. -/
theorem exec_powered_of {c : Instr} {u : State} {k : State → State} (h : s.powered = true)
    (hexec : exec c s = .next (s.whenPowered k)) (hk : k s = u) : exec c s = .next u :=
  hexec.trans (congrArg _ ((State.whenPowered_of k h).trans hk))

/-- A frame of a role's holder is what its block makes of it. -/
theorem exec_role_of {c : Instr} {u : State} {r : Role} {src : NodeAddr} {k : State → State}
    (h : s.fromRole r src) (hexec : exec c s = .next (s.whenFrom r src k)) (hk : k s = u) :
    exec c s = .next u :=
  hexec.trans (congrArg _ ((State.whenFrom_of k h).trans hk))

/-- A present holder's role is available. -/
theorem State.available_of {r : Role} (h : s.holder r = some a) (hp : s.presence a = .present) :
    s.available r = true := by
  simp [State.available, State.rolePresence, h, hp]

/-- A view that is offered (R113). -/
theorem State.tryView_offered {d : ViewDest} (hmark : (s.viewState d).mark = true)
    (hholdoff : (s.viewState d).holdoff = false) (ha : s.holder (viewRole d) = some a)
    (hp : s.presence a = .present) (haccepts : s.accepts (roleSeg (viewRole d)) = true) :
    s.tryView d =
      State.modView (s.modPort (roleSeg (viewRole d)) fun p => { p with
        queue := p.queue ++
          [.own (roleSeg (viewRole d)) a (.fareView (s.buildView (s.viewState d)))] }) d
        fun v => ⟨false, true, wrap16 v.seq⟩ := by
  have hoffer : s.offerRole (viewRole d) (.fareView (s.buildView (s.viewState d)))
      = (s.modPort (roleSeg (viewRole d)) fun p => { p with
          queue := p.queue ++
            [.own (roleSeg (viewRole d)) a (.fareView (s.buildView (s.viewState d)))] }, true) := by
    simp [State.offerRole, ha, State.offer, State.offerFrame, State.holder_seg ha, haccepts]
  rw [State.tryView, hoffer]
  simp [hmark, hholdoff, State.available_of ha hp]

/-- A session that keeps its state and offer tells no view of it. -/
theorem State.setSession_same {x : Session} (hstate : s.pay.session.state = x.state)
    (hoffer : s.pay.session.offer = x.offer) :
    s.setSession x = { s with pay := { s.pay with session := x } } :=
  if_pos ⟨hstate, hoffer⟩

/-- A session whose state changes is told to both views. -/
theorem State.setSession_moved {x : Session} (h : s.pay.session.state ≠ x.state) :
    s.setSession x = State.markViews { s with pay := { s.pay with session := x } } :=
  if_neg fun hsame => h hsame.1

/-- The interlock complete: the session is PRESENTED, both views are marked and the prompt is asked for (R160). -/
theorem State.testInterlock_presented (hstate : s.pay.session.state = .offered)
    (hack : s.pay.session.offerAck = true)
    (hview : s.pay.session.viewMatch = true ∨ s.available .paxDisplay = false) :
    s.sameBut [.link, .meter, .pay, .intercom] s.testInterlock
      ∧ s.meter.sameButViews s.testInterlock.meter
      ∧ s.testInterlock.pay = { s.pay with session := { s.pay.session with state := .presented } }
      ∧ (∀ d, s.viewMarked s.testInterlock d) ∧ s.grows s.testInterlock := by
  have heq : s.testInterlock =
      State.trigger (State.markViews
        { s with pay := { s.pay with session := { s.pay.session with state := .presented } } })
        .offerPresented := by
    rw [State.testInterlock, if_pos ⟨hstate, hack, hview⟩, State.setSession_moved (by simp [hstate])]
  rw [heq]
  refine ⟨fun p hp => ?_, ?_, ?_, fun d => ?_, ?_⟩
  · cases p <;> simp [Part.same] at hp ⊢
  · rw [(State.trigger_keeps _ _).2.2.2.2.2.2.2.2.1]
    exact State.markViews_meter { s with pay := { s.pay with session := { s.pay.session with state := .presented } } }
  · simp
  · refine State.viewMarked_congr_after ?_ (State.viewMarked_congr ?_
      (State.markViews_viewMarked
        { s with pay := { s.pay with session := { s.pay.session with state := .presented } } } d))
    · cases d <;> simp [State.viewState]
    · cases d <;> rfl
  · exact State.grows_trans (State.grows_after
      (t := { s with pay := { s.pay with session := { s.pay.session with state := .presented } } }) rfl
      (State.markViews_grows _)) (State.trigger_grows _ _)

theorem State.testInterlock_waiting (h : s.pay.session.state ≠ .offered ∨ s.pay.session.offerAck = false
      ∨ s.pay.session.viewMatch = false ∧ s.available .paxDisplay = true) : s.testInterlock = s := by
  refine if_neg fun hall => ?_
  obtain ⟨hstate, hack, hview⟩ := hall
  rcases h with h | h | ⟨hmatch, hpax⟩
  · exact h hstate
  · simp [h] at hack
  · simp [hmatch, hpax] at hview

/-- The state with the view acknowledgement kept (R115). -/
def State.acknowledged (s : State) (seq fare : Nat) : State :=
  { s with meter := { s.meter with lastAck := some (seq, fare) } }

/-- The state with the view's match kept by the session (R160). -/
def State.matched (s : State) : State :=
  { s with pay := { s.pay with session := { s.pay.session with viewMatch := true } } }

variable {src : NodeAddr} {seq fare : Nat}

theorem exec_viewAck_idle (h : s.fromRole .paxDisplay src) (hstate : s.pay.session.state ≠ .offered) :
    exec (.viewAck src seq fare) s = .next (s.acknowledged seq fare) :=
  exec_role_of h rfl (if_neg hstate)

theorem exec_viewAck_matching (h : s.fromRole .paxDisplay src) (hstate : s.pay.session.state = .offered)
    (hfare : s.meter.snapshot = some fare) :
    exec (.viewAck src seq fare) s = .next (s.acknowledged seq fare).matched.testInterlock := by
  refine exec_role_of h rfl ((if_pos hstate).trans ?_)
  rw [if_pos hfare.symm]
  exact congrArg State.testInterlock (State.setSession_same (s := s.acknowledged seq fare) rfl rfl)

theorem exec_viewAck_other (h : s.fromRole .paxDisplay src) (hstate : s.pay.session.state = .offered)
    (hfare : s.meter.snapshot ≠ some fare) :
    exec (.viewAck src seq fare) s = .next (s.acknowledged seq fare).testInterlock := by
  refine exec_role_of h rfl ((if_pos hstate).trans ?_)
  rw [if_neg fun heq => hfare heq.symm]
  rfl

end

/-- Settles O42: a try at a view whose hold-off has ended, and the five ways of a VIEW_ACK. -/
theorem viewsAreOffered : Obligations.ViewsAreOffered := by
  intro s a src seq fare hpowered
  refine ⟨fun hmark ha hp haccepts => ?_, fun hmark => ?_, fun h hstate => exec_viewAck_idle h hstate,
    fun h hstate hack => ?_, fun h hstate hack hfare => ?_, fun h hstate hack hfare hmatch hpax => ?_⟩
  · have htry := State.tryView_offered (s := s.modView .console fun v => { v with holdoff := false })
      (d := .console) hmark rfl ha hp haccepts
    refine ⟨_, exec_powered_of hpowered rfl htry, fun p hp => ?_, rfl, rfl, rfl, rfl⟩
    cases p <;> simp [Part.same, State.modView, State.modPort, viewRole, roleSeg] at hp ⊢
  · have htry : State.tryView (s.modView .paxDisplay fun v => { v with holdoff := false }) .paxDisplay
        = s.modView .paxDisplay fun v => { v with holdoff := false } := by
      have hmark' : s.meter.pax.mark = false := hmark
      simp [State.tryView, State.modView, State.viewState, hmark']
    refine ⟨_, exec_powered_of hpowered rfl htry, fun p hp => ?_, rfl⟩
    cases p <;> simp [Part.same, State.modView] at hp ⊢
  · by_cases hfare : s.meter.snapshot = some fare
    · rw [exec_viewAck_matching h hstate hfare, State.testInterlock_waiting
        (s := (s.acknowledged seq fare).matched) (.inr (.inl hack))]
      simp [State.matched, State.acknowledged, hfare]
    · rw [exec_viewAck_other h hstate hfare, State.testInterlock_waiting
        (s := s.acknowledged seq fare) (.inr (.inl hack))]
      simp [State.acknowledged, hfare]
  · obtain ⟨hsame, hmeter, hpay, hmarked, -⟩ := State.testInterlock_presented
      (s := (s.acknowledged seq fare).matched) hstate hack (.inl rfl)
    refine ⟨_, exec_viewAck_matching h hstate hfare, State.sameBut_trans (fun p hp => ?_) hsame, by rw [hmeter]; rfl,
      hpay, hmarked _, hmarked _⟩
    cases p <;> simp [Part.same, State.acknowledged, State.matched] at hp ⊢
  · rw [exec_viewAck_other h hstate hfare, State.testInterlock_waiting
      (s := s.acknowledged seq fare) (.inr (.inr ⟨hmatch, hpax⟩))]
    rfl

end Sys2Proof.Machine
end

section
/-! ### Lamps, sign tests, the ambient level and the emergency (R124 to R133) -/

namespace Sys2Proof.Machine

open Sys2Proof

section
variable {s : State} {rq : Req}

/-! #### Lamps -/

/-- A lamp driven keeps its fault. -/
theorem State.driveChannel_fault (s : State) (i : Nat) (l : Lamp) : (s.driveChannel i l).fault = l.fault := by
  simp [State.driveChannel]

/-- A channel in SHORT is dark (R122). -/
theorem State.driveChannel_short {i : Nat} {l : Lamp} (h : l.fault = .short) :
    (s.driveChannel i l).lit = false := by
  have hcompose : s.composeChannel i l = (.off, false) := by
    simp [State.composeChannel, h]
  simp [State.driveChannel, hcompose, lightsIn]

theorem exec_lampCheck {n : Nat} (hlow : 1 ≤ n) (hhigh : n ≤ 6) (current : Nat) :
    exec (.lampCheck n current) s = .next (s.checkLamp (n - 1) current) :=
  congrArg _ (if_pos (by simp [within, hlow, hhigh]))

theorem State.checkLamp_dark {i current : Nat} {l : Lamp} (hl : s.sign.lamps[i]? = some l) (h : l.lit = false) :
    s.checkLamp i current = s := by
  simp [State.checkLamp, hl, h]

/-- A check of a lit channel (R130). -/
theorem State.checkLamp_lit {i current : Nat} {l : Lamp} (hl : s.sign.lamps[i]? = some l) (h : l.lit = true) :
    s.checkLamp i current =
      let u := s.modLamp i fun l => { l with current, check := .later }
      if (s.channel i).maxMa < current then
        ((u.modLamp i fun l => { l with fault := .short, lowChecks := 0 }).offerNotice
          (.lampShort (i + 1) (s.channel i).role current)).recompose
      else if current < (s.channel i).minMa then
        if l.fault = .ok then
          if 3 ≤ l.lowChecks + 1 then
            (u.modLamp i fun l => { l with fault := .opened, lowChecks := 3 }).offerNotice
              (.lampOpen (i + 1) (s.channel i).role current)
          else u.modLamp i fun l => { l with lowChecks := l.lowChecks + 1 }
        else u
      else u.modLamp i fun l => { l with fault := .ok, lowChecks := 0 } := by
  simp only [State.checkLamp, hl, h, if_true]

theorem State.modLamp_modLamp (s : State) (i : Nat) (f g : Lamp → Lamp) :
    (s.modLamp i f).modLamp i g = s.modLamp i (g ∘ f) := by
  simp [State.modLamp, List.modify_modify_eq]

theorem State.modLamp_getElem {i : Nat} {l : Lamp} (h : s.sign.lamps[i]? = some l) (f : Lamp → Lamp) :
    (s.modLamp i f).sign.lamps[i]? = some (f l) := by
  simp [State.modLamp, h]

/-- One channel's running state replaced. -/
theorem State.modLamp_eq_set {i : Nat} {l : Lamp} (h : s.sign.lamps[i]? = some l) (f : Lamp → Lamp) :
    (s.modLamp i f).sign = { s.sign with lamps := s.sign.lamps.set i (f l) } := by
  simp only [State.modLamp]
  rw [modify_eq_set f h]

/-- A lamp whose fault a CLEAR_LAMP names is OK after it (R131). -/
theorem State.clearLamps_fault {n i : Nat} {l : Lamp} (h : (s.clearLamps n).sign.lamps[i]? = some l)
    (hi : n = 0 ∨ i + 1 = n) : l.fault = .ok := by
  simp only [State.clearLamps, State.recompose, List.getElem?_mapIdx, Option.map_map, Option.map_eq_some_iff,
    Function.comp] at h
  obtain ⟨l', -, rfl⟩ := h
  rw [State.driveChannel_fault]
  split
  · rfl
  · next hok => exact Decidable.not_not.1 fun hne => hok ⟨hi, hne⟩

theorem State.noticesAlike_modLamp (s : State) (i : Nat) (f : Lamp → Lamp) : s.NoticesAlike (s.modLamp i f) :=
  ⟨rfl, rfl, rfl, rfl, rfl, rfl⟩

theorem State.modLamp_sameBut (s : State) (i : Nat) (f : Lamp → Lamp) : s.sameBut [.sign] (s.modLamp i f) :=
  fun p hp => by cases p <;> simp_all [Part.same]

theorem State.recompose_sameBut (s : State) : s.sameBut [.sign] s.recompose :=
  fun p hp => by cases p <;> simp_all [Part.same]

theorem State.offerNotice_sameBut (s : State) (n : Notice) : s.sameBut [.link, .notices] (s.offerNotice n) :=
  fun p hp => by cases p <;> simp_all [Part.same]

/-- One channel's fault written and noticed (R130). -/
theorem State.lampNoticed {i : Nat} {l : Lamp} (h : s.sign.lamps[i]? = some l) (f : Lamp → Lamp) (n : Notice) :
    let t := (s.modLamp i f).offerNotice n
    s.sameBut [.link, .notices, .sign] t ∧ t.sign.lamps[i]? = some (f l)
      ∧ t.notices.nextSeq = (s.notices.nextSeq + 1) % 65536 ∧ s.noticed t n := by
  intro t
  have hsign : t.sign = (s.modLamp i f).sign := by simp [t]
  exact ⟨State.sameBut_trans (State.sameBut_mono (s.modLamp_sameBut i f) (by decide))
      (State.sameBut_mono ((s.modLamp i f).offerNotice_sameBut n) (by decide)),
    by rw [hsign, State.modLamp_getElem h], by simp [t], State.noticed_offerNotice (s.noticesAlike_modLamp i f) n⟩

end

/-- Settles O43: the latch and the faults written, and the outcomes of a lamp check. -/
theorem lampsAreSetAndChecked : Obligations.LampsAreSetAndChecked := by
  refine ⟨fun rq s => ⟨fun n v h hlow hhigh => ?_, fun n v h hout => console_answered h rfl ?_, fun n h hn => ?_,
    fun n h hn => ?_⟩, fun n current l s hlow hhigh hl => ?_⟩
  · have hanswer := State.consoleRespond_front
      (s := (s.modLamp (n - 1) fun l => { l with latch := v }).recompose) (rq := rq) .auxLamp .accepted .none h.2
      (State.front_running_of_fromConsole h)
    refine ⟨_, exec_console_of h rfl ((if_pos ?_).trans hanswer), fun p hp => ?_, rfl, rfl⟩
    · simp [within, hlow, hhigh]
    · cases p <;> simp [Part.same] at hp ⊢
  · exact if_neg (by simp [within]; omega)
  · have hdecide : s.decideClearLamp rq n = (s.clearLamps n).mgmtRespond rq .clearLamp .none .ok :=
      (State.whenAllowed_of _ _ h.2.2).trans (if_neg (by omega))
    rw [State.mgmtRespond_front (s := s.clearLamps n) _ _ _ _ h.2.1 (State.front_running_of_fromMgmt h)] at hdecide
    refine ⟨_, exec_mgmt_of h rfl hdecide, fun p hp => ?_, fun i l hl hi => ?_, rfl, rfl⟩
    · cases p <;> simp [Part.same, State.clearLamps] at hp ⊢
    · exact State.clearLamps_fault hl hi
  · have hdecide : s.decideClearLamp rq n = s.mgmtRespond rq .clearLamp .none .badValue :=
      (State.whenAllowed_of _ _ h.2.2).trans (if_pos hn)
    obtain ⟨t, ht, hsame, -, htook⟩ := answered_after (c := .clearLamp rq n) (u := s) (l := []) h
      (exec_mgmt_of h rfl hdecide) (State.sameBut_refl _ s) rfl
    exact ⟨t, ht, hsame, htook⟩
  · intro c
    rw [exec_lampCheck hlow hhigh current]
    have hplace : n - 1 + 1 = n := by omega
    refine ⟨fun hdark => by rw [State.checkLamp_dark hl hdark], fun hlit hover => ?_,
      fun hlit hmax hmin hok hlow => ?_, fun hlit hmax hmin hok hlow => ?_, fun hlit hmax hmin => ?_⟩
    · have hcheck := (State.checkLamp_lit (current := current) hl hlit).trans (if_pos hover)
      rw [State.modLamp_modLamp, hplace] at hcheck
      rw [hcheck]
      obtain ⟨hsame, hlamp, -, hnoticed⟩ := State.lampNoticed hl
        ((fun l : Lamp => { l with fault := .short, lowChecks := 0 }) ∘
          fun l => { l with current, check := .later }) (.lampShort n (s.channel (n - 1)).role current)
      refine ⟨_, _, rfl, State.sameBut_trans hsame (State.sameBut_mono (State.recompose_sameBut _) (by decide)),
        (List.getElem?_mapIdx ..).trans (congrArg _ hlamp), State.driveChannel_fault .., State.driveChannel_short rfl,
        rfl, by simp, State.noticed_of_grows hnoticed (by simp) (State.grows_of_link (by simp))⟩
    · have hcheck := (State.checkLamp_lit (current := current) hl hlit).trans
        ((if_neg (Nat.not_lt.2 hmax)).trans ((if_pos hmin).trans ((if_pos hok).trans (if_pos (by omega)))))
      rw [State.modLamp_modLamp, hplace] at hcheck
      rw [hcheck]
      obtain ⟨hsame, hlamp, hseq, hnoticed⟩ := State.lampNoticed hl
        ((fun l : Lamp => { l with fault := .opened, lowChecks := 3 }) ∘
          fun l => { l with current, check := .later }) (.lampOpen n (s.channel (n - 1)).role current)
      exact ⟨_, _, rfl, hsame, hlamp, rfl, hlit, hseq, hnoticed⟩
    · have hcheck := (State.checkLamp_lit (current := current) hl hlit).trans
        ((if_neg (Nat.not_lt.2 hmax)).trans ((if_pos hmin).trans ((if_pos hok).trans (if_neg (by omega)))))
      rw [State.modLamp_modLamp] at hcheck
      rw [hcheck]
      exact ⟨_, rfl, State.modLamp_sameBut _ _ _, State.modLamp_eq_set hl _⟩
    · have hcheck := (State.checkLamp_lit (current := current) hl hlit).trans
        ((if_neg (Nat.not_lt.2 hmax)).trans (if_neg (Nat.not_lt.2 hmin)))
      rw [State.modLamp_modLamp] at hcheck
      rw [hcheck]
      exact ⟨_, rfl, State.modLamp_sameBut _ _ _, State.modLamp_eq_set hl _⟩

/-! #### Tests and the ambient level -/

section
variable {s : State} {rq : Req}

theorem Ambient.take_same {a : Ambient} {b : Brightness} {x : Nat} (h : indicated b x = a.level) :
    a.take b x = { a with sample := x, count := 0 } := if_pos h

/-- The eighth sample in a row that indicates another level changes it (R128). -/
theorem Ambient.take_eighth {a : Ambient} {b : Brightness} {x : Nat} (h : indicated b x ≠ a.level)
    (hcand : indicated b x = a.candidate) (hcount : a.count = 7) :
    a.take b x = ⟨indicated b x, x, indicated b x, 0⟩ := by
  simp [Ambient.take, h, ← hcand, hcount]

/-- An earlier one is counted. -/
theorem Ambient.take_counted {a : Ambient} {b : Brightness} {x : Nat} (h : indicated b x ≠ a.level)
    (hcand : indicated b x = a.candidate) (hcount : a.count < 7) :
    a.take b x = ⟨a.level, x, indicated b x, a.count + 1⟩ := by
  have hne : a.count ≠ 7 := Nat.ne_of_lt hcount
  simp [Ambient.take, h, ← hcand, hne]

/-- A sample that indicates a new level begins the count. -/
theorem Ambient.take_first {a : Ambient} {b : Brightness} {x : Nat} (h : indicated b x ≠ a.level)
    (hcand : indicated b x ≠ a.candidate) : a.take b x = ⟨a.level, x, indicated b x, 1⟩ := by
  simp [Ambient.take, h, hcand]

theorem Ambient.take_sample (a : Ambient) (b : Brightness) (x : Nat) : (a.take b x).sample = x := by
  unfold Ambient.take
  dsimp only
  repeat' split
  all_goals rfl

theorem State.decideSignTest_of (h : s.fromMgmt .signTest rq) {d : Nat} (v : Pattern) (hd : d ≤ 60) :
    s.decideSignTest rq d (some v) =
      if s.meter.state = .hired ∨ s.meter.state = .pay then s.mgmtRespond rq .signTest .none .refusedState
      else if d = 0 then s.endTest.mgmtRespond rq .signTest .none .ok
      else
        (State.recompose { s with sign := { s.sign with test := some ⟨v, 10 * d⟩ } }).mgmtRespond
          rq .signTest .none .ok :=
  (State.whenAllowed_of _ _ h.2.2).trans (if_neg (Nat.not_lt.2 hd))

theorem State.endTest_sameBut (s : State) : s.sameBut [.sign] s.endTest := fun p hp => by
  cases p <;> simp_all [Part.same]

end

/-- Settles O44: a test begun, refused and ended, and a sample by the level it indicates. -/
theorem testsAndAmbientRun : Obligations.TestsAndAmbientRun := by
  intro rq s
  refine ⟨fun d v h htrip hlow hhigh => ?_, fun d v h htrip hhigh => ?_, fun hpowered =>
    ⟨_, exec_powered_of hpowered rfl rfl, s.endTest_sameBut, s.endTest_sign.1⟩, fun x hpower => ?_⟩
  · have hclosed : ¬(s.meter.state = .hired ∨ s.meter.state = .pay) := by
      rw [← State.tripOpen_iff, htrip]
      decide
    have hdecide := (State.decideSignTest_of h v hhigh).trans ((if_neg hclosed).trans (if_neg (by omega)))
    rw [State.mgmtRespond_front
      (s := State.recompose { s with sign := { s.sign with test := some ⟨v, 10 * d⟩ } }) _ _ _ _ h.2.1
      (State.front_running_of_fromMgmt h)] at hdecide
    refine ⟨_, exec_mgmt_of h rfl hdecide, fun p hp => ?_, rfl, rfl, rfl⟩
    cases p <;> simp [Part.same] at hp ⊢
  · have hdecide := (State.decideSignTest_of h v hhigh).trans (if_pos ((State.tripOpen_iff s).1 htrip))
    obtain ⟨t, ht, hsame, -, htook⟩ := answered_after (c := .signTest rq d (some v)) (u := s) (l := []) h
      (exec_mgmt_of h rfl hdecide) (State.sameBut_refl _ s) rfl
    exact ⟨t, ht, hsame, htook⟩
  · intro i
    have hexec : exec (.ambientSample x) s = .next (State.recompose
        { s with sign := { s.sign with ambient := s.sign.ambient.take s.tables.brightness x } }) :=
      congrArg _ (if_neg (by rcases hpower with h | h <;> simp [h]))
    refine ⟨_, hexec, fun p hp => ?_, Ambient.take_sample .., rfl, fun hsame => ?_, fun hne hcand hcount => ?_,
      fun hne hcand hcount => ?_, fun hne hcand => ?_⟩
    · cases p <;> simp [Part.same] at hp ⊢
    · have htake := Ambient.take_same (a := s.sign.ambient) (b := s.tables.brightness) (x := x) hsame
      exact ⟨(congrArg Ambient.level htake).trans hsame.symm, congrArg Ambient.count htake⟩
    · exact congrArg Ambient.level (Ambient.take_eighth (a := s.sign.ambient) hne hcand hcount)
    · have htake := Ambient.take_counted (a := s.sign.ambient) (b := s.tables.brightness) (x := x) hne hcand hcount
      exact ⟨(congrArg Ambient.level htake).trans rfl, (congrArg Ambient.count htake).trans rfl⟩
    · have htake := Ambient.take_first (a := s.sign.ambient) (b := s.tables.brightness) (x := x) hne hcand
      exact ⟨(congrArg Ambient.level htake).trans rfl, (congrArg Ambient.count htake).trans rfl⟩

/-! #### The emergency -/

section
variable {s : State} {rq : Req}

/-- The emergency activated: its notice, the trip's flag, the shift's count and the monitor (R133). -/
theorem State.activateEmergency_does (s : State) :
    let t := s.activateEmergency
    t.sign.hold = s.sign.hold ∧ t.sign.emergency = ⟨true, s.now⟩
      ∧ t.notices.nextSeq = (s.notices.nextSeq + 1) % 65536
      ∧ s.noticed t (.emergencyOn s.now ((s.meter.trip.map (·.number)).getD 0))
      ∧ t.meter = { s.meter with
          trip := s.meter.trip.map fun r => { r with flags := { r.flags with emergency := true } } }
      ∧ t.acct.shift.record.map (·.emergencies)
        = s.acct.shift.record.map (fun r => min (r.emergencies + 1) 65535)
      ∧ t.intercom.monitor.state ≠ .off := by
  intro t
  have hnotice := State.noticed_offerNotice
    (u := State.recompose { s with sign := { s.sign with emergency := ⟨true, s.now⟩ } })
    (s := s) ⟨rfl, rfl, rfl, rfl, rfl, rfl⟩ (.emergencyOn s.now ((s.meter.trip.map (·.number)).getD 0))
  refine ⟨?_, ?_, ?_, ?_, ?_, ?_, ?_⟩
  · simp [t, State.activateEmergency, State.recompose_sign]
  · simp [t, State.activateEmergency, State.recompose_sign]
  · simp [t, State.activateEmergency]
  · refine State.noticed_of_grows hnotice ?_ (State.grows_of_link ?_) <;>
      simp [t, State.activateEmergency, State.now]
  · simp [t, State.activateEmergency, State.modTrip]
  · simp only [t, State.activateEmergency, State.beginCheckpoint_acct, State.monitorOn_keeps, State.modShift,
      State.modTrip_keeps, State.offerNotice_keeps, State.recompose_keeps, Option.map_map]
    rfl
  · simp only [t, State.activateEmergency, State.beginCheckpoint_keeps, State.monitorOn]
    split <;> simp

/-- The emergency cleared (R133). -/
theorem State.clearEmergency_does (s : State) (c : ClearCause) :
    let t := s.clearEmergency c
    t.sign.hold = s.sign.hold ∧ t.sign.emergency = ⟨false, s.now⟩ ∧ t.intercom.monitor.state = .off
      ∧ t.notices.nextSeq = (s.notices.nextSeq + 1) % 65536 ∧ s.noticed t (.emergencyOff s.now c) := by
  intro t
  have hnotice := State.noticed_offerNotice
    (u := State.recompose { s with sign := { s.sign with emergency := ⟨false, s.now⟩ } })
    (s := s) ⟨rfl, rfl, rfl, rfl, rfl, rfl⟩ (.emergencyOff s.now c)
  refine ⟨?_, ?_, ?_, ?_, State.noticed_of_grows hnotice ?_ (State.grows_of_link ?_)⟩
  · simp [t, State.clearEmergency, State.recompose_sign]
  · simp [t, State.clearEmergency, State.recompose_sign]
  · simp [t, State.clearEmergency, State.monitorOff, Monitor.off]
  · simp [t, State.clearEmergency]
  · simp [t, State.clearEmergency, State.now]
  · simp [t, State.clearEmergency, State.now]

end

theorem State.watchesSwitch_of_run {s : State} (h : s.power.state = .run) : s.watchesSwitch = true := by
  simp [State.watchesSwitch, h]

/-- A hold that runs out in RUN is spent (R132). -/
theorem exec_emergencyHoldExpiry_of {s : State} {n : Nat} (hrun : s.power.state = .run)
    (hhold : s.sign.hold = .timing n) :
    exec .emergencyHoldExpiry s =
      .next (let u := { s with sign := { s.sign with hold := .spent } }
        if n = 2 ∧ u.sign.emergency.active = false then u.activateEmergency
        else if n = 10 ∧ u.sign.emergency.active then u.clearEmergency .switch else u) := by
  refine congrArg Host.Outcome.next ((if_pos (State.watchesSwitch_of_run hrun)).trans ?_)
  rw [State.holdExpires, hhold]

/-- Settles O45: the switch's two moves, the two expiries of its hold, and EMERGENCY_CLEAR. -/
theorem emergencyFollowsSwitch : Obligations.EmergencyFollowsSwitch := by
  intro rq s
  have hspent : s.NoticesAlike { s with sign := { s.sign with hold := .spent } } := ⟨rfl, rfl, rfl, rfl, rfl, rfl⟩
  refine ⟨fun hrun hopen hhold => ?_, fun hrun => ?_, fun hrun hhold hactive => ?_, fun hrun hhold hactive => ?_,
    fun h hactive => ?_, fun h hactive => ?_⟩
  · have hwatch : (s.watchesSwitch && !s.pins.emergencyClosed) = true := by
      rw [State.watchesSwitch_of_run hrun, hopen]
      rfl
    have hexec : exec .emergencySwitchClose s = .next { s with
        pins := { s.pins with emergencyClosed := true }
        sign := { s.sign with hold := .timing (if s.sign.emergency.active then 10 else 2) } } := by
      refine congrArg Host.Outcome.next ((if_pos hwatch).trans ?_)
      simp [State.holdClose, hhold, State.wakeBy, hrun]
    refine ⟨_, hexec, fun p hp => ?_, rfl, rfl⟩
    cases p <;> simp [Part.same] at hp ⊢
  · have hexec : exec .emergencySwitchOpen s = .next { s with
        pins := { s.pins with emergencyClosed := false }, sign := { s.sign with hold := .released } } :=
      congrArg Host.Outcome.next (if_pos (State.watchesSwitch_of_run hrun))
    refine ⟨_, hexec, fun p hp => ?_, rfl, rfl⟩
    cases p <;> simp [Part.same] at hp ⊢
  · obtain ⟨hheld, hemergency, hseq, hnoticed, hmeter, hcount, hmonitor⟩ :=
      State.activateEmergency_does { s with sign := { s.sign with hold := .spent } }
    have hoffer := hspent.offerNotice (.emergencyOn s.now ((s.meter.trip.map (·.number)).getD 0))
    refine ⟨_, (exec_emergencyHoldExpiry_of hrun hhold).trans (congrArg _ (if_pos ⟨rfl, hactive⟩)), hheld, hemergency,
      hseq, ⟨hnoticed.1.trans hoffer.notices, hoffer.queue ▸ hnoticed.2⟩, by rw [hmeter], hcount, hmonitor,
      by rw [hmeter]⟩
  · obtain ⟨hheld, hemergency, hmonitor, hseq, hnoticed⟩ :=
      State.clearEmergency_does { s with sign := { s.sign with hold := .spent } } .switch
    have hoffer := hspent.offerNotice (.emergencyOff s.now .switch)
    exact ⟨_, (exec_emergencyHoldExpiry_of hrun hhold).trans
      (congrArg _ ((if_neg (by simp)).trans (if_pos ⟨rfl, hactive⟩))), hheld, hemergency, hmonitor, hseq,
      ⟨hnoticed.1.trans hoffer.notices, hoffer.queue ▸ hnoticed.2⟩⟩
  · have hdecide : s.decideEmergencyClear rq = _ := State.whenAllowed_of _ _ h.2.2
    obtain ⟨hheld, hemergency, hmonitor, -, hnoticed⟩ := s.clearEmergency_does (.requester rq.src)
    have hlink : (s.clearEmergency (.requester rq.src)).link.front.running = true := by
      have hstill := congrArg (fun l : Link => l.front.running)
        (State.clearEmergency_still s (.requester rq.src))
      exact hstill.trans (State.front_running_of_fromMgmt h)
    refine ⟨_, exec_mgmt_of h rfl (hdecide.trans (if_pos hactive)), by simpa using hemergency, by simpa using hheld,
      by simpa using hmonitor, State.noticed_of_grows hnoticed (by simp) (State.mgmtRespond_appends ..).1,
      State.offered_mgmtRespond h.2.1 hlink ..⟩
  · have hdecide : s.decideEmergencyClear rq = s.mgmtRespond rq .emergencyClear .none .refusedState :=
      (State.whenAllowed_of _ _ h.2.2).trans (if_neg (by simp [hactive]))
    obtain ⟨t, ht, hsame, -, htook⟩ := answered_after (c := .emergencyClear rq) (u := s) (l := []) h
      (exec_mgmt_of h rfl hdecide) (State.sameBut_refl _ s) rfl
    exact ⟨t, ht, hsame, htook⟩

end Sys2Proof.Machine
end

section
/-! ### A codec frame, the monitor and the prompts (R138, R146 to R150) -/

namespace Sys2Proof.Machine

open Sys2Proof

section
variable {s : State}

/-! #### The parts of a codec frame -/

/-- A codec frame after its prompt and test samples: both paths worked, the samples heard (R138, R149). -/
def State.worked (s : State) (toDrv toPax d p : Int) : State :=
  let i := s.intercom
  let dMic := if i.drv.stuck then 0 else d
  let pMic := if i.pax.stuck then 0 else p
  let d2p := i.d2p.frame s.tables.intercom.gainD2P dMic toPax
  let p2d := i.p2d.frame s.tables.intercom.gainP2D pMic toDrv
  { s with
    intercom :=
      { i with
        d2p := d2p.1, paxSpk := d2p.2, p2d := p2d.1, drvSpk := p2d.2
        drv := i.drv.hear d, pax := i.pax.hear p, position := i.position + 1
        monitor :=
          if i.monitor.state = .running then
            { i.monitor with samples := i.monitor.samples ++ [monitorSample dMic pMic] }
          else i.monitor } }

theorem State.runFrame_eq (s : State) (d p : Int) :
    s.runFrame d p =
      (s.blockBoundary.endPrompt.startPrompt.makeTones.1).worked
        s.blockBoundary.endPrompt.startPrompt.makeTones.2.1
        s.blockBoundary.endPrompt.startPrompt.makeTones.2.2 d p := rfl

theorem State.worked_sameBut (s : State) (a b d p : Int) : s.sameBut [.intercom] (s.worked a b d p) :=
  fun q hq => by cases q <;> simp_all [Part.same, State.worked]

theorem State.blockBoundary_of_lt (h : s.intercom.position < 128) : s.blockBoundary = s := if_pos h

theorem State.endPrompt_of_none (h : s.intercom.playing = none) : s.endPrompt = s := by
  rw [State.endPrompt, h]

theorem State.endPrompt_of_left {x : Playing} (h : s.intercom.playing = some x) (hx : x.left ≠ 0) :
    s.endPrompt = s := by
  simp [State.endPrompt, h, Playing.ended, hx]

theorem State.endPrompt_of_ended {x : Playing} (h : s.intercom.playing = some x) (hx : x.left = 0) :
    s.endPrompt = s.withIntercom { s.intercom with playing := none } := by
  simp [State.endPrompt, h, Playing.ended, hx]

theorem State.startPrompt_of_playing {x : Playing} (h : s.intercom.playing = some x) : s.startPrompt = s := by
  simp [State.startPrompt, h]

theorem State.startPrompt_of_test {x : SpeakerTest} (h : s.intercom.test = some x) : s.startPrompt = s := by
  cases hplaying : s.intercom.playing <;> simp [State.startPrompt, h, hplaying]

theorem State.startPrompt_of_empty (h : s.intercom.queue = []) : s.startPrompt = s := by
  have hsame : { s with intercom := { s.intercom with queue := [] } } = s := by rw [← h]
  unfold State.startPrompt
  rw [h]
  split
  · exact hsame
  · rfl

/-- The defined head of the prompt queue starts playing (R148). -/
theorem State.startPrompt_of_head {i : Nat} {e : PromptEntry} {rest : List Nat}
    (hplaying : s.intercom.playing = none) (htest : s.intercom.test = none)
    (hqueue : s.intercom.queue = i :: rest) (he : s.promptEntry i = some e) :
    s.startPrompt = s.withIntercom { s.intercom with
      queue := rest, playing := some ⟨i, e, 0, ((e.tones[0]?).map (·.ms)).getD 0 * 8, 0⟩ } := by
  simp [State.startPrompt, hplaying, htest, hqueue, State.nextPrompt, he]

/-- Without a prompt and a test in its tone a frame makes no sample of its own. -/
theorem State.makeTones_of_none (hplaying : s.intercom.playing = none) (htest : s.intercom.test = none) :
    s.makeTones = (s, 0, 0) := by
  simp [State.makeTones, hplaying, htest]

/-- A frame of a playing prompt (R146). -/
theorem State.makeTones_of_playing {x : Playing} (h : s.intercom.playing = some x) :
    s.sameBut [.intercom] s.makeTones.1 ∧ s.makeTones.1.intercom.playing = some x.advance
      ∧ s.makeTones.1.intercom.queue = s.intercom.queue := by
  unfold State.makeTones
  rw [h]
  dsimp only
  split
  · exact ⟨fun q hq => by cases q <;> simp_all [Part.same], rfl, rfl⟩
  · exact ⟨fun q hq => by cases q <;> simp_all [Part.same], rfl, rfl⟩

/-! #### A codec frame -/

/-- In RUNNING, with no test that has had its whole tone, a codec frame works its samples. -/
theorem exec_codecFrame_of (hrun : s.intercom.run = .running)
    (htest : s.intercom.test.any (·.toneMade) = false) (d p : BitVec 16) :
    exec (.codecFrame d p) s = .next (s.runFrame d.toInt p.toInt) := by
  have hend : s.takeTestEnd = s := if_neg (by simp [htest])
  show Host.Outcome.next (State.exchangeFrame (if s.intercom.run = .running then s.takeTestEnd else s)
    d.toInt p.toInt) = _
  rw [if_pos hrun, hend, State.exchangeFrame, hrun]

theorem sat16_of_pathOutput (x : Int) (gain a : Nat) : sat16 (pathOutput x gain a + 0) = pathOutput x gain a := by
  simp only [pathOutput, sat16, sat]
  omega

end

/-- Settles O46: the three run states of the intercom, and the monitor's frame. -/
theorem codecFrameWorksPaths : Obligations.CodecFrameWorksPaths := by
  intro d p s
  refine ⟨fun hrun => ?_, fun hrun => ?_, fun hrun hposition hplaying hqueue htest hdrv hpax => ?_,
    fun a hpowered hmonitor hsamples ha hroom => ?_⟩
  · show Host.Outcome.next (State.exchangeFrame (if s.intercom.run = .running then s.takeTestEnd else s)
      d.toInt p.toInt) = _
    rw [if_neg (by simp [hrun]), State.exchangeFrame, hrun]
  · show Host.Outcome.next (State.exchangeFrame (if s.intercom.run = .running then s.takeTestEnd else s)
      d.toInt p.toInt) = _
    rw [if_neg (by simp [hrun]), State.exchangeFrame, hrun]
  · have hframe : s.runFrame d.toInt p.toInt = s.worked 0 0 d.toInt p.toInt := by
      rw [State.runFrame_eq, State.blockBoundary_of_lt hposition, State.endPrompt_of_none hplaying,
        State.startPrompt_of_empty hqueue, State.makeTones_of_none hplaying htest]
    refine ⟨_, (exec_codecFrame_of hrun (by simp [htest]) d p).trans (congrArg _ hframe), s.worked_sameBut 0 0 _ _, rfl, rfl,
      ?_, ?_, rfl, rfl, rfl, rfl, rfl⟩
    · simp only [State.worked, hdrv]
      exact sat16_of_pathOutput ..
    · simp only [State.worked, hpax]
      exact sat16_of_pathOutput ..
  · have hframe : s.completeMonitorFrame =
        { s with
          link := s.link.audio (.own .front a (.audio s.intercom.monitor.seq s.intercom.monitor.startMark
            (s.intercom.monitor.samples.take 40)))
          intercom :=
            { s.intercom with
              monitor := ⟨.running, s.intercom.monitor.samples.drop 40, wrap16 s.intercom.monitor.seq, false⟩ } } := by
      simp [State.completeMonitorFrame, hmonitor, hsamples, ha]
    refine ⟨_, exec_powered_of hpowered rfl hframe, fun q hq => ?_, if_pos hroom, rfl, rfl⟩
    cases q <;> simp [Part.same] at hq ⊢

/-! #### Prompts -/

section
variable {s : State} {rq : Req} {i : Nat}

theorem State.requestPrompt_waiting (h : i ∈ s.intercom.queue) :
    s.requestPrompt i = (s, some .alreadyWaiting) := by
  simp [State.requestPrompt, h]

theorem State.requestPrompt_queued (h : i ∉ s.intercom.queue) (hroom : s.intercom.queue.length < 8) :
    s.requestPrompt i =
      ({ s with intercom := { s.intercom with queue := s.intercom.queue ++ [i] } }, some .queued) := by
  simp [State.requestPrompt, h, hroom]

theorem State.requestPrompt_full (h : i ∉ s.intercom.queue) (hfull : 8 ≤ s.intercom.queue.length) :
    s.requestPrompt i =
      ({ s with intercom := { s.intercom with drops := min (s.intercom.drops + 1) 65535 } }, none) := by
  simp [State.requestPrompt, h, Nat.not_lt.2 hfull, satInc, max16]

/-- The answer to a PROMPT after a change of the intercom alone. -/
theorem console_answered_intercom {c : Instr} {x : Intercom} {n : ConsoleName} {r : ConsoleResult}
    {d : ConsoleData} {k : State → State} (h : s.fromConsole rq) (hexec : exec c s = .next (s.whenConsole rq k))
    (hk : k s = State.consoleRespond { s with intercom := x } rq n r d) :
    ∃ t, exec c s = .next t ∧ s.sameBut [.link, .intercom] t ∧ t.intercom = x
      ∧ s.frontTook t (consoleAnswer rq n r d) := by
  rw [State.consoleRespond_front (s := { s with intercom := x }) n r d h.2 (State.front_running_of_fromConsole h)]
    at hk
  refine ⟨_, exec_console_of h hexec hk, fun p hp => ?_, rfl, rfl⟩
  cases p <;> simp [Part.same] at hp ⊢

/-- One sample of a prompt: within its segment, into its next, and its last (R146, R148). -/
theorem Playing.advance_does (x : Playing) :
    x.advance.index = x.index ∧ x.advance.entry = x.entry
      ∧ (1 < x.left → x.advance.segment = x.segment ∧ x.advance.left = x.left - 1)
      ∧ (∀ tone, x.left = 1 → x.entry.tones[x.segment + 1]? = some tone →
        x.advance.segment = x.segment + 1 ∧ x.advance.left = tone.ms * 8)
      ∧ (x.left = 1 → x.entry.tones[x.segment + 1]? = none → x.advance.left = 0) := by
  refine ⟨?_, ?_, fun h => ?_, fun tone h htone => ?_, fun h htone => ?_⟩
  · unfold Playing.advance
    repeat' split
    all_goals rfl
  · unfold Playing.advance
    repeat' split
    all_goals rfl
  · simp [Playing.advance, h]
  · simp [Playing.advance, h, htone]
  · simp [Playing.advance, h, htone]

end

/-- Settles O47: a PROMPT by what the queue makes of it, and the player by what it plays. -/
theorem promptsWaitAndPlay : Obligations.PromptsWaitAndPlay := by
  intro rq i s
  refine ⟨fun h hnone => console_answered h rfl ?_, fun e h he => ?_, fun x hpowered hx => ?_, fun hnone => ?_,
    fun x d p hrun hposition hx hleft htest => ?_,
    fun e rest tone tones d p hrun hposition hplaying htest hqueue he htones hms => ?_⟩
  · exact if_neg (by simp [State.promptEntry, hnone])
  · have hdecide : s.decidePrompt rq i = _ := if_pos (by simp [State.promptEntry, he])
    refine ⟨fun hmem => ?_, fun hnew hroom => ?_, fun hnew hfull => ?_⟩
    · rw [State.requestPrompt_waiting hmem] at hdecide
      have hanswer := hdecide.trans (State.consoleRespond_front .prompt .accepted (.disposition .alreadyWaiting) h.2
        (State.front_running_of_fromConsole h))
      refine ⟨_, exec_console_of h rfl hanswer, fun p hp => ?_, rfl⟩
      cases p <;> simp [Part.same] at hp ⊢
    · rw [State.requestPrompt_queued hnew hroom] at hdecide
      exact console_answered_intercom h rfl hdecide
    · rw [State.requestPrompt_full hnew hfull] at hdecide
      exact console_answered_intercom h rfl hdecide
  · refine ⟨fun hended => ?_, fun hleft => exec_powered_of hpowered rfl (State.endPrompt_of_left hx hleft)⟩
    refine ⟨_, exec_powered_of hpowered rfl (State.endPrompt_of_ended hx hended), fun q hq => ?_, rfl, rfl, rfl⟩
    cases q <;> simp_all [Part.same]
  · refine congrArg Host.Outcome.next ?_
    show (if s.powered then s.endPrompt else s) = s
    rw [State.endPrompt_of_none hnone, ite_self]
  · have hmade : s.intercom.test.any (·.toneMade) = false := by
      cases hx : s.intercom.test with
      | none => rfl
      | some y =>
        have : y.started = false := by simpa [hx] using htest
        simp [SpeakerTest.toneMade, this]
    obtain ⟨hsame, hplaying, hqueue⟩ := State.makeTones_of_playing hx
    have hframe := s.runFrame_eq d.toInt p.toInt
    rw [State.blockBoundary_of_lt hposition, State.endPrompt_of_left hx hleft, State.startPrompt_of_playing hx]
      at hframe
    exact ⟨_, x.advance, (exec_codecFrame_of hrun hmade d p).trans (congrArg _ hframe),
      State.sameBut_trans hsame (State.worked_sameBut _ _ _ _ _), hplaying, hqueue, x.advance_does⟩
  · have hstart := State.startPrompt_of_head hplaying htest hqueue he
    obtain ⟨hsame, hmade, hrest⟩ := State.makeTones_of_playing (s := s.startPrompt)
      (x := ⟨i, e, 0, ((e.tones[0]?).map (·.ms)).getD 0 * 8, 0⟩) (by rw [hstart]; rfl)
    have hframe := s.runFrame_eq d.toInt p.toInt
    rw [State.blockBoundary_of_lt hposition, State.endPrompt_of_none hplaying] at hframe
    have hstarted : s.sameBut [.intercom] s.startPrompt := fun q hq => by
      rw [hstart]
      cases q <;> simp_all [Part.same]
    refine ⟨_, (exec_codecFrame_of hrun (by simp [htest]) d p).trans (congrArg _ hframe),
      State.sameBut_trans hstarted (State.sameBut_trans hsame (State.worked_sameBut _ _ _ _ _)),
      hrest.trans (by rw [hstart]; rfl), (congrArg _ hmade).trans ?_⟩
    obtain ⟨hindex, -, hwithin, -⟩ := Playing.advance_does ⟨i, e, 0, ((e.tones[0]?).map (·.ms)).getD 0 * 8, 0⟩
    have hlong : ((e.tones[0]?).map (·.ms)).getD 0 = tone.ms := by simp [htones]
    rw [hlong] at hwithin hindex ⊢
    obtain ⟨hsegment, hleft⟩ := hwithin (show 1 < tone.ms * 8 by omega)
    simp only [Option.map_some, hindex, hsegment, hleft]

end Sys2Proof.Machine
end

section
/-! ### Block boundaries and the speaker test (R140 to R143, R151, R152) -/

namespace Sys2Proof.Machine

open Sys2Proof

/-! #### Detectors -/

section
variable (d : Detector) (set : IntercomSettings)

/-- The block is speech (R140), as a proposition. -/
def Detector.isSpeech : Prop :=
  d.stuck = false ∧ ∃ n ∈ d.floor, n * set.margin / 4 < d.sum / 128 ∧ set.eMin ≤ d.sum / 128

theorem Detector.speech_iff : d.speech set = true ↔ d.isSpeech set := by
  unfold Detector.speech Detector.isSpeech
  cases d.floor <;> cases d.stuck <;> simp

theorem Detector.speech_eq_false (h : ¬d.isSpeech set) : d.speech set = false :=
  Bool.eq_false_iff.2 fun hs => h ((d.speech_iff set).1 hs)

/-- What a block boundary decides of one microphone (R140 to R142). -/
theorem Detector.decideBlock_decides :
    let d' := d.decideBlock set
    let e := d.sum / 128
    (d.floor = none → d'.floor = some e)
      ∧ (∀ n, d.floor = some n → d.stuck = true → d'.floor = some n)
      ∧ (∀ n, d.floor = some n → d.stuck = false →
        d'.floor = some (if e < n then e else n + n / 64 + 1))
      ∧ (d.isSpeech set → d'.active = true ∧ d'.hangover = 0)
      ∧ (¬d.isSpeech set → d.active = true → d.hangover + 1 < set.hangover →
        d'.active = true ∧ d'.hangover = d.hangover + 1)
      ∧ (¬d.isSpeech set → (d.active = false ∨ set.hangover ≤ d.hangover + 1) → d'.active = false)
      ∧ (4 < d.peak → d'.stuckCount = 0 ∧ d'.stuck = false)
      ∧ (d.peak ≤ 4 → d'.stuckCount = min (d.stuckCount + 1) 313
        ∧ d'.stuck = decide (312 ≤ d.stuckCount))
      ∧ d'.sum = 0 ∧ d'.peak = 0 ∧ d'.energies = (e :: d.energies).take 16 := by
  intro d' e
  refine ⟨fun h => ?_, fun n h hs => ?_, fun n h hs => ?_, fun h => ?_, fun h ha hh => ?_, fun h hor => ?_,
    fun h => ?_, fun h => ?_, rfl, rfl, rfl⟩
  · simp [d', e, Detector.decideBlock, Detector.newFloor, h]
  · simp [d', Detector.decideBlock, Detector.newFloor, h, hs]
  · simp only [d', e, Detector.decideBlock, Detector.newFloor, h, hs]
    split <;> rfl
  · have hspeech := (d.speech_iff set).2 h
    simp [d', Detector.decideBlock, hspeech]
  · have hspeech := d.speech_eq_false set h
    simp [d', Detector.decideBlock, hspeech, ha, hh]
  · have hspeech := d.speech_eq_false set h
    rcases hor with ha | hh
    · simp [d', Detector.decideBlock, hspeech, ha]
    · simp [d', Detector.decideBlock, hspeech, hh]
  · simp [d', Detector.decideBlock, Detector.newStuckCount, Nat.not_le.2 h]
  · simp only [d', Detector.decideBlock, Detector.newStuckCount, h, if_true, true_and]
    by_cases hc : 312 ≤ d.stuckCount
    · simp [hc]
    · simp [hc]

/-- A microphone becomes STUCK at a block boundary (R142). -/
def Detector.becomesStuck : Prop := d.stuck = false ∧ d.peak ≤ 4 ∧ 312 ≤ d.stuckCount

theorem Detector.becomesStuck_iff :
    ((d.decideBlock set).stuck && !d.stuck) = true ↔ d.becomesStuck := by
  unfold Detector.becomesStuck Detector.decideBlock Detector.newStuckCount
  by_cases hpeak : d.peak ≤ 4
  · cases d.stuck <;> simp [hpeak]
  · simp [hpeak]

end

section
variable {s : State}

/-- A side's detector replaced. -/
def State.withMic (s : State) (side : Side) (d : Detector) : State :=
  match side with
  | .drv => { s with intercom := { s.intercom with drv := d } }
  | .pax => { s with intercom := { s.intercom with pax := d } }

theorem State.decideMic_eq (s : State) (side : Side) :
    s.decideMic side =
      let d := s.intercom.mic side
      let u := s.withMic side (d.decideBlock s.tables.intercom)
      if (d.decideBlock s.tables.intercom).stuck && !d.stuck then u.offerNotice (.micStuck side) else u := by
  cases side <;> rfl

/-- A microphone's block decided, without a notice or with it (R142). -/
theorem State.decideMic_cases (s : State) (side : Side) :
    (¬(s.intercom.mic side).becomesStuck →
      s.decideMic side = s.withMic side ((s.intercom.mic side).decideBlock s.tables.intercom))
    ∧ ((s.intercom.mic side).becomesStuck →
      s.decideMic side =
        (s.withMic side ((s.intercom.mic side).decideBlock s.tables.intercom)).offerNotice (.micStuck side)) := by
  rw [State.decideMic_eq]
  refine ⟨fun h => if_neg fun hs => h ?_, fun h => if_pos ?_⟩
  · exact (Detector.becomesStuck_iff ..).1 hs
  · exact (Detector.becomesStuck_iff ..).2 h

theorem State.noticesAlike_withMic (s : State) (side : Side) (d : Detector) : s.NoticesAlike (s.withMic side d) := by
  cases side <;> exact ⟨rfl, rfl, rfl, rfl, rfl, rfl⟩

/-- A decided block changes no more of the intercom than its detector. -/
theorem State.decideMic_intercom (s : State) (side : Side) :
    (s.decideMic side).intercom =
      (s.withMic side ((s.intercom.mic side).decideBlock s.tables.intercom)).intercom := by
  by_cases h : (s.intercom.mic side).becomesStuck
  · rw [(s.decideMic_cases side).2 h]
    exact (State.offerNotice_keeps _ _).2.2.2.2.2.2.2.2.1
  · rw [(s.decideMic_cases side).1 h]

/-- A decided block neither starts nor stops the front port. -/
theorem State.decideMic_front_running (s : State) (side : Side) :
    (s.decideMic side).link.front.running = s.link.front.running := by
  by_cases h : (s.intercom.mic side).becomesStuck
  · rw [(s.decideMic_cases side).2 h]
    have hstill := congrArg (fun l : Link => l.front.running) (State.offerNotice_still
      (s.withMic side ((s.intercom.mic side).decideBlock s.tables.intercom)) (.micStuck side))
    exact hstill.trans (s.noticesAlike_withMic side _).running
  · rw [(s.decideMic_cases side).1 h]
    exact (s.noticesAlike_withMic side _).running

/-- Both blocks decided, before the arbiter (R140 to R142). -/
def State.blocksDecided (s : State) : State :=
  (State.decideMic { s with intercom := { s.intercom with position := 0 } } .drv).decideMic .pax

theorem State.blockBoundary_full (h : s.intercom.position = 128) :
    s.blockBoundary = s.blocksDecided.evaluateArbiter.startTone :=
  if_neg (by simp [blockLength, h])

theorem State.blocksDecided_intercom (s : State) :
    s.blocksDecided.intercom =
      { s.intercom with
        position := 0, drv := s.intercom.drv.decideBlock s.tables.intercom
        pax := s.intercom.pax.decideBlock s.tables.intercom } := by
  unfold State.blocksDecided
  rw [State.decideMic_intercom]
  have hdrv := State.decideMic_intercom { s with intercom := { s.intercom with position := 0 } } .drv
  simp only [State.withMic, Intercom.mic, hdrv, State.decideMic_keeps]

theorem State.blocksDecided_tables (s : State) : s.blocksDecided.tables = s.tables := by
  simp [State.blocksDecided]

/-- The driver's block decided, at the start of a new block (R140). -/
def State.drvDecided (s : State) : State :=
  State.decideMic { s with intercom := { s.intercom with position := 0 } } .drv

/-- The driver's detector replaced at the start of a new block. -/
def State.drvReplaced (s : State) : State :=
  State.withMic { s with intercom := { s.intercom with position := 0 } } .drv
    (s.intercom.drv.decideBlock s.tables.intercom)

theorem State.drvDecided_of_quiet (h : ¬s.intercom.drv.becomesStuck) : s.drvDecided = s.drvReplaced :=
  (State.decideMic_cases { s with intercom := { s.intercom with position := 0 } } .drv).1 h

theorem State.drvDecided_of_stuck (h : s.intercom.drv.becomesStuck) :
    s.drvDecided = s.drvReplaced.offerNotice (.micStuck .drv) :=
  (State.decideMic_cases { s with intercom := { s.intercom with position := 0 } } .drv).2 h

theorem State.drvDecided_pax (s : State) : s.drvDecided.intercom.pax = s.intercom.pax := by
  rw [State.drvDecided, State.decideMic_intercom]
  rfl

theorem State.noticesAlike_drvReplaced (s : State) : s.NoticesAlike s.drvReplaced :=
  ⟨rfl, rfl, rfl, rfl, rfl, rfl⟩

/-- The passenger's block decided after the driver's, quiet and not. -/
theorem State.blocksDecided_of_quiet (h : ¬s.intercom.pax.becomesStuck) :
    ∃ d, s.blocksDecided = s.drvDecided.withMic .pax d :=
  ⟨_, (s.drvDecided.decideMic_cases .pax).1 (by rwa [← s.drvDecided_pax] at h)⟩

theorem State.blocksDecided_of_stuck (h : s.intercom.pax.becomesStuck) :
    ∃ d, s.blocksDecided = (s.drvDecided.withMic .pax d).offerNotice (.micStuck .pax) :=
  ⟨_, (s.drvDecided.decideMic_cases .pax).2 (by rwa [← s.drvDecided_pax] at h)⟩

/-- Neither microphone becomes STUCK: no notice. -/
theorem State.blocksDecided_quiet (hdrv : ¬s.intercom.drv.becomesStuck) (hpax : ¬s.intercom.pax.becomesStuck) :
    s.blocksDecided.notices = s.notices ∧ s.blocksDecided.link = s.link := by
  obtain ⟨d, hd⟩ := State.blocksDecided_of_quiet hpax
  rw [hd, State.drvDecided_of_quiet hdrv]
  exact ⟨rfl, rfl⟩

/-- The notices of the microphones that become STUCK, the driver's first (R142). -/
theorem State.blocksDecided_noticed (s : State) :
    (s.intercom.drv.becomesStuck → ¬s.intercom.pax.becomesStuck → s.noticed s.blocksDecided (.micStuck .drv))
    ∧ (¬s.intercom.drv.becomesStuck → s.intercom.pax.becomesStuck → s.noticed s.blocksDecided (.micStuck .pax))
    ∧ (s.intercom.drv.becomesStuck → s.intercom.pax.becomesStuck →
      (s.offerNotice (.micStuck .drv)).noticed s.blocksDecided (.micStuck .pax)) := by
  refine ⟨fun hdrv hpax => ?_, fun hdrv hpax => ?_, fun hdrv hpax => ?_⟩
  · obtain ⟨d, hd⟩ := State.blocksDecided_of_quiet hpax
    rw [hd, State.drvDecided_of_stuck hdrv]
    exact State.noticed_of_grows (State.noticed_offerNotice s.noticesAlike_drvReplaced _) rfl
      (State.grows_of_link rfl)
  · obtain ⟨d, hd⟩ := State.blocksDecided_of_stuck hpax
    rw [hd, State.drvDecided_of_quiet hdrv]
    exact State.noticed_offerNotice (s.noticesAlike_drvReplaced.trans (State.noticesAlike_withMic _ .pax d)) _
  · obtain ⟨d, hd⟩ := State.blocksDecided_of_stuck hpax
    rw [hd, State.drvDecided_of_stuck hdrv]
    exact State.noticed_offerNotice ((s.noticesAlike_drvReplaced.offerNotice _).trans
      (State.noticesAlike_withMic _ .pax d)) _

/-! #### The arbiter and the start of a test's tone -/

/-- The arbiter by its state and the two activities (R143). -/
theorem nextArbiter_eq (set : IntercomSettings) (a : Arbiter) (drv pax : Bool) :
    nextArbiter set a drv pax =
      match a, drv, pax with
      | .idle, true, true => if set.tie = .drv then .driver else .passenger
      | .idle, true, false => .driver
      | .idle, false, true => .passenger
      | .idle, false, false => .idle
      | .driver, d, _ => if d then .driver else .idle
      | .passenger, d, p => if d && set.driverPriority then .driver else if p then .passenger else .idle := by
  cases a with
  | idle => cases drv <;> cases pax <;> rfl
  | driver => rfl
  | passenger => rfl

/-- What an evaluation of the arbiter leaves of the intercom (R143). -/
theorem State.evaluateArbiter_intercom (s : State) :
    let i := s.evaluateArbiter.intercom
    i.drv = s.intercom.drv ∧ i.pax = s.intercom.pax ∧ i.position = s.intercom.position
      ∧ i.mode = s.intercom.mode ∧ i.playing = s.intercom.playing ∧ i.test = s.intercom.test
      ∧ (s.intercom.mode = .closed → i.arbiter = s.intercom.arbiter)
      ∧ (s.intercom.mode = .arbiter → i.arbiter =
        nextArbiter s.tables.intercom s.intercom.arbiter s.intercom.drv.active s.intercom.pax.active) := by
  intro i
  by_cases h : s.intercom.mode = .arbiter
  · have hi : i = (s.withIntercom { s.intercom with
        arbiter := nextArbiter s.tables.intercom s.intercom.arbiter s.intercom.drv.active
          s.intercom.pax.active }).intercom := congrArg State.intercom (if_pos h)
    rw [hi]
    exact ⟨rfl, rfl, rfl, rfl, rfl, rfl, fun hclosed => absurd (h.symm.trans hclosed) (by decide), fun _ => rfl⟩
  · have hi : i = s.intercom := congrArg State.intercom (if_neg h)
    rw [hi]
    exact ⟨rfl, rfl, rfl, rfl, rfl, rfl, fun _ => rfl, fun harbiter => absurd harbiter h⟩

/-- What the start of a test's tone leaves of the intercom (R152). -/
theorem State.startTone_intercom (s : State) :
    let i := s.startTone.intercom
    i.drv = s.intercom.drv ∧ i.pax = s.intercom.pax ∧ i.position = s.intercom.position
      ∧ i.mode = s.intercom.mode ∧ i.arbiter = s.intercom.arbiter
      ∧ (s.intercom.test = none → i.playing = s.intercom.playing)
      ∧ (∀ x, s.intercom.test = some x → i.test = some { x with started := true }
        ∧ (x.started = false → i.playing = none)) := by
  intro i
  cases htest : s.intercom.test with
  | none =>
    have hi : i = s.intercom := by simp only [i, State.startTone, htest]
    rw [hi]
    exact ⟨rfl, rfl, rfl, rfl, rfl, fun _ => rfl, fun x hx => by simp at hx⟩
  | some y =>
    by_cases hstarted : y.started = true
    · have hi : i = s.intercom := by simp only [i, State.startTone, htest, hstarted, if_true]
      rw [hi]
      refine ⟨rfl, rfl, rfl, rfl, rfl, fun h => by simp at h, fun x hx => ?_⟩
      obtain rfl : y = x := by simpa using hx
      exact ⟨by rw [htest, ← hstarted], fun h => by simp [hstarted] at h⟩
    · have hi : i = (s.withIntercom { s.intercom with
          playing := none, test := some { y with started := true } }).intercom := by
        simp only [i, State.startTone, htest, if_neg hstarted]
      rw [hi]
      refine ⟨rfl, rfl, rfl, rfl, rfl, fun h => by simp at h, fun x hx => ?_⟩
      obtain rfl : y = x := by simpa using hx
      exact ⟨rfl, fun _ => rfl⟩

end

/-- Settles O48: both blocks decided, their notices, the arbiter, and the start of a test's tone. -/
theorem blockDecidesSpeech : Obligations.BlockDecidesSpeech := by
  refine ⟨fun s h => ?_, fun s hrun hposition => ?_⟩
  · refine congrArg Host.Outcome.next ?_
    rcases h with h | h
    · exact if_neg h
    · rw [State.blockBoundary_of_lt h, ite_self]
  intro set becomesStuck
  have hexec : exec .blockBoundary s = .next s.blocksDecided.evaluateArbiter.startTone :=
    congrArg Host.Outcome.next ((if_pos hrun).trans (State.blockBoundary_full hposition))
  obtain ⟨hdrv, hpax, hplace, hmode, harbiter, hplaying, htest⟩ := s.blocksDecided.evaluateArbiter.startTone_intercom
  obtain ⟨hdrv', hpax', hplace', hmode', hplaying', htest', hclosed, hevaluated⟩ :=
    s.blocksDecided.evaluateArbiter_intercom
  have hdecided := s.blocksDecided_intercom
  have hlink : ∀ u : State, u.evaluateArbiter.startTone.link = u.link := fun u => by simp
  have hnotices : ∀ u : State, u.evaluateArbiter.startTone.notices = u.notices := fun u => by simp
  have hafter : ∀ u n, State.noticed u s.blocksDecided n →
      u.noticed s.blocksDecided.evaluateArbiter.startTone n := fun u n h =>
    State.noticed_of_grows h (hnotices _) (State.grows_of_link (hlink _))
  obtain ⟨hnotedDrv, hnotedPax, hnotedBoth⟩ := s.blocksDecided_noticed
  refine ⟨_, hexec, fun side => ?_, fun h h' => ?_, fun h h' => hafter _ _ (hnotedDrv h h'),
    fun h h' => hafter _ _ (hnotedPax h h'), fun h h' => hafter _ _ (hnotedBoth h h'), ?_, ?_, fun h => ?_,
    fun h => ?_, fun h => ?_, fun x hx => ?_, ?_, ?_, ?_⟩
  · have hmic : s.blocksDecided.evaluateArbiter.startTone.intercom.mic side =
        (s.intercom.mic side).decideBlock s.tables.intercom := by
      cases side <;> simp only [Intercom.mic, hdrv, hpax, hdrv', hpax', hdecided]
    dsimp only
    rw [hmic]
    exact Detector.decideBlock_decides _ _
  · obtain ⟨hquiet, hstill⟩ := State.blocksDecided_quiet h h'
    exact ⟨(hnotices _).trans hquiet, (hlink _).trans hstill⟩
  · rw [hplace, hplace', hdecided]
  · rw [hmode, hmode', hdecided]
  · rw [harbiter, hclosed (by rw [hdecided]; exact h), hdecided]
  · rw [harbiter, hevaluated (by rw [hdecided]; exact h), hdrv, hpax, hdrv', hpax', State.blocksDecided_tables,
      show s.blocksDecided.intercom.arbiter = s.intercom.arbiter by rw [hdecided]]
    exact nextArbiter_eq ..
  · rw [hplaying (by rw [htest', hdecided]; exact h), hplaying', hdecided]
  · exact htest x (by rw [htest', hdecided]; exact hx)
  · rw [hlink, State.blocksDecided, State.decideMic_front_running, State.decideMic_front_running]
  · simp [State.blocksDecided]
  · simp [State.blocksDecided]

/-! #### The speaker test -/

section
variable {s : State} {rq : Req} {x : SpeakerTest}

theorem State.decideSpeakerTest_of (h : s.fromMgmt .speakerTest rq) (side : Side) :
    s.decideSpeakerTest rq (some side) =
      if s.meter.state = .hired ∨ s.meter.state = .pay then
        s.mgmtRespond rq .speakerTest .none .refusedState
      else if s.intercom.test.isSome then s.mgmtRespond rq .speakerTest .none .busy
      else
        { s with
          intercom :=
            { s.intercom with
              test :=
                some ⟨side, rq, false, 0, 0, s.tables.intercom.testLevel,
                  s.tables.intercom.testThreshold⟩ } } :=
  State.whenAllowed_of _ _ h.2.2

theorem SpeakerTest.toneMade_eq_false (h : x.started = false ∨ x.played < 4000) : x.toneMade = false := by
  rcases h with h | h
  · simp [SpeakerTest.toneMade, h]
  · have hshort : ¬4000 ≤ x.played := Nat.not_le.2 h
    simp [SpeakerTest.toneMade, testLength, hshort]

theorem SpeakerTest.toneMade_of (hstarted : x.started = true) (hplayed : 4000 ≤ x.played) : x.toneMade = true := by
  simp [SpeakerTest.toneMade, testLength, hstarted, hplayed]

theorem State.takeTestEnd_waiting (h : s.intercom.test.any (·.toneMade) = false) : s.takeTestEnd = s :=
  if_neg (by simp [h])

theorem State.takeTestEnd_made (h : s.intercom.test = some x) (hmade : x.toneMade = true) :
    s.takeTestEnd = s.measureTest.parkCheck :=
  if_pos (by simp [h, hmade])

/-- One sample of a test's tone: the tone on its side, and what a frame leaves of the intercom (R152). -/
theorem State.makeTones_of_test (hplaying : s.intercom.playing = none) (htest : s.intercom.test = some x)
    (hstarted : x.started = true) (hplayed : x.played < 4000) :
    let t := s.makeTones.1
    let tone := (x.level : Int) * sine (x.phase / 256 % 256) / 32767
    s.sameBut [.intercom] t
      ∧ t.intercom.test = some { x with played := x.played + 1, phase := (x.phase + 8192) % 65536 }
      ∧ t.intercom.playing = none ∧ t.intercom.queue = s.intercom.queue ∧ t.intercom.drv = s.intercom.drv
      ∧ t.intercom.pax = s.intercom.pax
      ∧ s.makeTones.2 = (if x.side = .drv then tone else 0, if x.side = .pax then tone else 0) := by
  have hmaking : (x.started && !x.toneMade) = true := by
    rw [hstarted, SpeakerTest.toneMade_eq_false (.inr hplayed)]
    rfl
  unfold State.makeTones
  rw [hplaying, htest]
  simp only [hmaking, if_true]
  split
  · exact ⟨fun q hq => by cases q <;> simp_all [Part.same], rfl, hplaying, rfl, rfl, rfl, rfl⟩
  · exact ⟨fun q hq => by cases q <;> simp_all [Part.same], rfl, hplaying, rfl, rfl, rfl, rfl⟩

/-- A measured test is answered, and none is in flight (R152). -/
theorem State.measureTest_eq (h : s.intercom.test = some x) :
    s.measureTest =
      (s.withIntercom { s.intercom with test := none }).mgmtRespond x.rq .speakerTest .none .ok
        (.test (if x.threshold ≤ s.intercom.average x.side then .passed else .failed)
          (s.intercom.average x.side) x.threshold) := by
  simp only [State.measureTest, h, State.endSpeakerTest]

theorem State.measureTest_test (h : s.intercom.test = some x) : s.measureTest.intercom.test = none := by
  rw [State.measureTest_eq h, (State.mgmtRespond_keeps ..).2.2.2.2.2.2.2.2.2.1]
  rfl

/-- No test is in flight after the intercom has been stopped (R153). -/
theorem State.stopIntercom_test (s : State) (r : RunState) : (s.stopIntercom r).intercom.test = none := by
  have h := s.abortSpeakerTest_test
  unfold State.stopIntercom
  dsimp only
  split
  · exact h
  · exact h

/-- A park check begins no test. -/
theorem State.parkCheck_test (h : s.intercom.test = none) : s.parkCheck.intercom.test = none := by
  unfold State.parkCheck
  split
  · simp only [State.enterParked, State.resetViews_keeps, State.recompose_keeps, State.endTest_keeps]
    exact State.stopIntercom_test _ _
  · exact h

end

/-- Settles O49: SPEAKER_TEST decided, a frame of its tone, and its end by its row or by the next frame. -/
theorem speakerTestMeasures : Obligations.SpeakerTestMeasures := by
  intro rq side s
  refine ⟨fun h htrip => ?_, fun h htrip htest => ?_, fun h htrip htest => ?_, fun x hpowered hx hwait => ?_,
    fun htest => ?_, fun x d p hrun hposition hplaying hx hstarted hplayed => ?_,
    fun x d p hpowered hrun hx hstarted hplayed => ?_,
    fun x hpowered hrun hseg hpark hx hstarted hplayed hrq hside => ?_⟩
  · have hdecide := (State.decideSpeakerTest_of h side).trans (if_pos ((State.tripOpen_iff s).1 htrip))
    obtain ⟨t, ht, hsame, -, htook⟩ := answered_after (c := .speakerTest rq (some side)) (u := s) (l := []) h
      (exec_mgmt_of h rfl hdecide) (State.sameBut_refl _ s) rfl
    exact ⟨t, ht, hsame, htook⟩
  · have hclosed : ¬(s.meter.state = .hired ∨ s.meter.state = .pay) := by
      rw [← State.tripOpen_iff, htrip]
      decide
    have hdecide := (State.decideSpeakerTest_of h side).trans
      ((if_neg hclosed).trans (if_pos (Option.isSome_iff_ne_none.2 htest)))
    obtain ⟨t, ht, hsame, -, htook⟩ := answered_after (c := .speakerTest rq (some side)) (u := s) (l := []) h
      (exec_mgmt_of h rfl hdecide) (State.sameBut_refl _ s) rfl
    exact ⟨t, ht, hsame, htook⟩
  · have hclosed : ¬(s.meter.state = .hired ∨ s.meter.state = .pay) := by
      rw [← State.tripOpen_iff, htrip]
      decide
    have hdecide := (State.decideSpeakerTest_of h side).trans
      ((if_neg hclosed).trans (if_neg (by simp [htest])))
    refine ⟨_, exec_mgmt_of h rfl hdecide, fun q hq => ?_, rfl⟩
    cases q <;> simp [Part.same] at hq ⊢
  · exact exec_powered_of hpowered rfl
      (State.takeTestEnd_waiting (by simp [hx, SpeakerTest.toneMade_eq_false hwait]))
  · refine congrArg Host.Outcome.next ?_
    show (if s.powered then s.takeTestEnd else s) = s
    rw [State.takeTestEnd_waiting (by simp [htest]), ite_self]
  · obtain ⟨hsame, htest, hnone, hqueue, hdrv, hpax, hout⟩ :=
      State.makeTones_of_test hplaying hx hstarted hplayed
    have hframe := s.runFrame_eq d.toInt p.toInt
    rw [State.blockBoundary_of_lt hposition, State.endPrompt_of_none hplaying, State.startPrompt_of_test hx] at hframe
    have htables : s.makeTones.1.tables = s.tables := hsame .tables (by decide)
    refine ⟨_, (exec_codecFrame_of hrun (by simp [hx, SpeakerTest.toneMade_eq_false (.inr hplayed)]) d p).trans
      (congrArg _ hframe), State.sameBut_trans hsame (State.worked_sameBut _ _ _ _ _), htest, hnone, hqueue, fun z => ?_,
      fun hsd hsp => ?_⟩
    · cases z
      · exact (congrArg Detector.energies hdrv.symm).trans rfl
      · exact (congrArg Detector.energies hpax.symm).trans rfl
    · have hd : s.makeTones.1.intercom.drv.stuck = false := by rw [hdrv, hsd]
      have hp : s.makeTones.1.intercom.pax.stuck = false := by rw [hpax, hsp]
      simp only [State.worked, Path.frame, htables, hd, hp, hout]
      exact ⟨rfl, rfl⟩
  · have hend := State.takeTestEnd_made hx (SpeakerTest.toneMade_of hstarted hplayed)
    have hnone : s.takeTestEnd.intercom.test = none := by
      rw [hend]
      exact State.parkCheck_test (State.measureTest_test hx)
    refine ⟨s.takeTestEnd, s.takeTestEnd.exchangeFrame d.toInt p.toInt, exec_powered_of hpowered rfl rfl, ?_, ?_,
      hnone⟩
    · have hsame := State.takeTestEnd_waiting (s := s.takeTestEnd) (by simp [hnone])
      show Host.Outcome.next (State.exchangeFrame
        (if s.takeTestEnd.intercom.run = .running then s.takeTestEnd.takeTestEnd else s.takeTestEnd)
        d.toInt p.toInt) = _
      rw [hsame, ite_self]
    · show Host.Outcome.next (State.exchangeFrame
        (if s.intercom.run = .running then s.takeTestEnd else s) d.toInt p.toInt) = _
      rw [if_pos hrun]
  · have hmeasured := State.measureTest_eq hx
    rw [hrq, State.mgmtRespond_front (s := s.withIntercom { s.intercom with test := none }) _ _ _ _ hseg hrun]
      at hmeasured
    have hend := State.takeTestEnd_made hx (SpeakerTest.toneMade_of hstarted hplayed)
    rw [State.parkCheck_of_park (by rw [hmeasured]; exact hpark), hmeasured] at hend
    subst hside
    refine ⟨_, _, exec_powered_of hpowered rfl hend, fun q hq => ?_, rfl, rfl, rfl⟩
    cases q <;> simp [Part.same] at hq ⊢

end Sys2Proof.Machine
end

section
/-! ### The payment controller: sessions, the advice queue, offline decisions (R156 to R175) -/

namespace Sys2Proof.Machine

open Sys2Proof

/-! #### What the operations leave of the payment controller -/

/-- Two payment controllers that differ in the advice queue with its timer and in the counters alone. -/
def Payment.queueAside (p p' : Payment) : Prop :=
  p' = { p with advice := p'.advice, ackTimer := p'.ackTimer, counters := p'.counters }

theorem Payment.queueAside_refl (p : Payment) : p.queueAside p := rfl

theorem Payment.queueAside_trans {p p' p'' : Payment} (h : p.queueAside p') (h' : p'.queueAside p'') :
    p.queueAside p'' := by
  unfold Payment.queueAside at *
  rw [h', h]

/-- The references and kinds of an advice queue. -/
def adviceKeys (l : List AdviceRecord) : List (Ref × AdviceKind) := l.map fun r => (r.ref, r.kind)

/-- The controller after the end of a session (R156). -/
def Payment.ended (p : Payment) : Payment :=
  { p with held := none, auth := .stopped, authExpired := false, session := .idle }

theorem Payment.queueAside_ended {p p' : Payment} (h : p.queueAside p') : p.ended.queueAside p'.ended := by
  unfold Payment.queueAside Payment.ended at *
  rw [h]

section
variable {s : State}

theorem State.setSession_pay (s : State) (x : Session) : (s.setSession x).pay = { s.pay with session := x } := by
  unfold State.setSession
  dsimp only
  split <;> simp

theorem State.offerRole_pay {s s' : State} {r : Role} {c : Content} {b : Bool}
    (h : s.offerRole r c = (s', b)) : s'.pay = s.pay := by
  have hkeeps := (s.offerRole_keeps r c).2.2.2.2.2.2.2.2.2.2.1
  rw [h] at hkeeps
  exact hkeeps

/-- A try of the sender marks its head in flight, or does nothing to the payment controller (R174). -/
theorem State.tryAdvice_pay (s : State) :
    s.tryAdvice.pay = s.pay ∨ ∃ r rest, s.pay.advice = r :: rest
      ∧ s.tryAdvice.pay =
        { s.pay with advice := { r with inFlight := true } :: rest, ackTimer := .running 10 } := by
  unfold State.tryAdvice
  split
  · exact .inl rfl
  · next r rest hadvice =>
    split
    · split
      · next s' hoffer =>
        refine .inr ⟨r, rest, hadvice, ?_⟩
        rw [State.offerRole_pay hoffer]
      · next s' hoffer => exact .inl (State.offerRole_pay hoffer)
    · exact .inl rfl

theorem State.tryAdvice_queueAside (s : State) : s.pay.queueAside s.tryAdvice.pay := by
  rcases s.tryAdvice_pay with h | ⟨r, rest, -, h⟩ <;> rw [h] <;> rfl

theorem State.tryAdvice_keys (s : State) : adviceKeys s.tryAdvice.pay.advice = adviceKeys s.pay.advice := by
  rcases s.tryAdvice_pay with h | ⟨r, rest, hadvice, h⟩
  · rw [h]
  · rw [h, hadvice]
    rfl

theorem State.replyReader_queueAside (s : State) (i : Nat) (r : ReaderResult) (t : Option ReplyTender) :
    s.pay.queueAside (s.replyReader i r t).pay := by
  unfold State.replyReader
  split
  · next s' hoffer =>
    rw [State.offerRole_pay hoffer]
    rfl
  · next s' hoffer =>
    simp only [State.modCounters, State.offerRole_pay hoffer]
    rfl

theorem State.endSession_queueAside (s : State) : s.pay.ended.queueAside s.endSession.pay := by
  unfold State.endSession
  dsimp only
  split
  · have h := State.tryAdvice_queueAside (State.setSession
      { s with pay := { s.pay with held := none, auth := .stopped, authExpired := false } } .idle)
    rwa [State.setSession_pay] at h
  · rw [State.setSession_pay]
    rfl

/-- The last steps of a card tender's decision end the session, and leave the tender list (R163). -/
theorem State.finishCard_queueAside (s : State) (t : Tender) (f : CardFields) (r : ReaderResult) (tr : Trigger) :
    s.pay.ended.queueAside (s.finishCard t f r tr).pay := by
  have hend := State.endSession_queueAside
    ((s.replyReader f.requestId r (some ⟨f.ref, t.amount, t.tip, f.authCode⟩)).trigger tr)
  rw [(State.trigger_keeps _ _).2.2.2.2.2.2.2.2.2.2.1] at hend
  have hreply := Payment.queueAside_ended
    (s.replyReader_queueAside f.requestId r (some ⟨f.ref, t.amount, t.tip, f.authCode⟩))
  unfold State.finishCard
  dsimp only
  split
  · rw [(State.reportDue_keeps _).2.2.2.2.2.2.2.2.1]
    exact Payment.queueAside_trans hreply hend
  · exact Payment.queueAside_trans hreply hend

/-! #### An advice offered to the queue -/

/-- The state with a record at the queue's tail and its store write begun, and ADVICE_FULL where it is due. -/
def State.advised (s : State) (r : AdviceRecord) : State :=
  let u := State.begin { s with pay := { s.pay with advice := s.pay.advice ++ [r] } } (.adviceSet r)
  if u.adviceFree < 4 then u.offerNotice (.adviceFull r.ref u.adviceFree) else u

theorem State.advised_pay (s : State) (r : AdviceRecord) :
    (s.advised r).pay = { s.pay with advice := s.pay.advice ++ [r] } := by
  unfold State.advised
  dsimp only
  split
  · simp [State.begin]
  · rfl

theorem State.joinAdvice_joins {r : AdviceRecord} (h : s.canJoin r.ref = true) :
    s.joinAdvice r = (s.advised r).tryAdvice := if_pos h

theorem State.joinAdvice_full {r : AdviceRecord} (h : 32 ≤ s.pay.advice.length) :
    s.joinAdvice r = s.offerNotice (.adviceFull r.ref 0) := by
  have hcan : ¬s.canJoin r.ref = true := by
    simp [State.canJoin, Nat.not_lt.2 h]
  exact (if_neg hcan).trans (if_neg (Nat.not_lt.2 h))

theorem State.joinAdvice_keys {r : AdviceRecord} (h : s.canJoin r.ref = true) :
    adviceKeys (s.joinAdvice r).pay.advice = adviceKeys s.pay.advice ++ [(r.ref, r.kind)] := by
  rw [State.joinAdvice_joins h, State.tryAdvice_keys, State.advised_pay]
  simp [adviceKeys]

theorem State.joinAdvice_queueAside (s : State) (r : AdviceRecord) : s.pay.queueAside (s.joinAdvice r).pay := by
  by_cases h : s.canJoin r.ref = true
  · rw [State.joinAdvice_joins h]
    refine Payment.queueAside_trans ?_ (State.tryAdvice_queueAside _)
    rw [State.advised_pay]
    rfl
  · unfold State.joinAdvice
    rw [if_neg h]
    split
    · rfl
    · rw [(State.offerNotice_keeps _ _).2.2.2.2.2.2.2.2.2.1]
      rfl

/-! #### The offline decision (R169) -/

theorem addLate_getLast (l : List LateEntry) (e : LateEntry) : (addLate l e).getLast? = some e := by
  unfold addLate
  split <;> simp

theorem State.waitingTender_of {t : Tender} (hindex : 1 ≤ s.pay.session.index)
    (h : s.pay.tenders[s.pay.session.index - 1]? = some t) : s.waitingTender = some t :=
  (if_neg (by omega)).trans h

/-- The tender that an offline decision leaves (R169). -/
def Tender.offline (t : Tender) (accepted : Bool) : Tender :=
  if accepted then { t with status := .offlineAccepted, advice := .queued }
  else { t with status := .declined, reason := some .offlineRefused }

/-- The state of an offline decision with its tender changed and its late entry added (R169, R170). -/
def State.offlineKept (s : State) (t : Tender) (f : CardFields) : State :=
  let u := (s.modTender t.index fun _ => t.offline (s.acceptsOffline t f)).beginCheckpoint
  { u with
    pay :=
      { u.pay with
        late := addLate u.pay.late ⟨f.ref, t.amount, t.tip, f.cardClass, s.acceptsOffline t f, s.tripShift⟩ } }

theorem State.decideOffline_eq {t : Tender} {f : CardFields} (h : s.waitingTender = some t)
    (hf : t.card = some f) :
    s.decideOffline =
      if s.acceptsOffline t f then
        State.finishCard ((s.offlineKept t f).joinAdvice
          ⟨.offline, f.ref, s.tripShift, t.amount, t.tip, f.cardClass, (s.offlineKept t f).now, false⟩)
          (t.offline true) f .approvedOffline .approvedOffline
      else (s.offlineKept t f).finishCard (t.offline false) f .declined .declined := by
  simp only [State.decideOffline, h, hf]
  cases haccepts : s.acceptsOffline t f <;>
    simp only [State.offlineKept, hf, haccepts, if_true, Tender.offline, Bool.false_eq_true, if_false]

/-- What an offline decision leaves of the payment controller (R169, R170). -/
theorem State.decideOffline_pay {t : Tender} {f : CardFields} (h : s.waitingTender = some t)
    (hf : t.card = some f) :
    Payment.queueAside
      { s.pay.ended with
        tenders := s.pay.tenders.modify (t.index - 1) fun _ => t.offline (s.acceptsOffline t f)
        late := addLate s.pay.late ⟨f.ref, t.amount, t.tip, f.cardClass, s.acceptsOffline t f, s.tripShift⟩ }
      s.decideOffline.pay := by
  have hkept : (s.offlineKept t f).pay =
      { s.pay with
        tenders := s.pay.tenders.modify (t.index - 1) fun _ => t.offline (s.acceptsOffline t f)
        late := addLate s.pay.late
          ⟨f.ref, t.amount, t.tip, f.cardClass, s.acceptsOffline t f, s.tripShift⟩ } := by
    simp [State.offlineKept, State.modTender]
  rw [State.decideOffline_eq h hf]
  split
  · refine Payment.queueAside_trans ?_ (State.finishCard_queueAside _ _ _ _ _)
    have hjoin := Payment.queueAside_ended (State.joinAdvice_queueAside (s.offlineKept t f)
      ⟨.offline, f.ref, s.tripShift, t.amount, t.tip, f.cardClass, (s.offlineKept t f).now, false⟩)
    rwa [hkept] at hjoin
  · have hfinish := State.finishCard_queueAside (s.offlineKept t f) (t.offline false) f .declined .declined
    rwa [hkept] at hfinish

theorem State.acceptsOffline_iff (s : State) (t : Tender) (f : CardFields) :
    s.acceptsOffline t f = true ↔
      t.amount ≤ s.tables.payLimits.floors.getD f.cardClass 0
        ∧ s.exposure + t.amount ≤ s.tables.payLimits.offlineCap ∧ s.pay.advice.length + 2 ≤ 32 := by
  have hfree : 2 ≤ s.adviceFree ↔ s.pay.advice.length + 2 ≤ 32 := by
    unfold State.adviceFree
    omega
  simp only [State.acceptsOffline, Bool.and_eq_true, decide_eq_true_eq, and_assoc, hfree]

end

/-- Settles O53: the expiry waits in HOLDUP, and else the tender is decided offline. -/
theorem expiryDecidesOffline : Obligations.ExpiryDecidesOffline := by
  intro n tn f s hstate hauth
  have hexec : s.powered = true → exec .authTimerExpiry s = .next s.authExpires := fun h =>
    exec_powered_of h rfl rfl
  have hexpires : s.authExpires = if s.power.state = .holdup then
      { s with pay := { s.pay with auth := .stopped, authExpired := true } } else s.decideOffline := by
    rw [State.authExpires, hstate, hauth]
  refine ⟨fun hholdup => ?_, fun hrun hlow htn hindex hf => ?_⟩
  · rw [hexec (by simp [State.powered, hholdup]), hexpires, if_pos hholdup]
  · have hpay := State.decideOffline_pay (State.waitingTender_of hlow htn) hf
    refine ⟨_, (hexec (by simp [State.powered, hrun])).trans
      (congrArg _ (hexpires.trans (if_neg (by simp [hrun])))), by rw [hpay]; rfl, by rw [hpay]; rfl, ?_, ?_⟩
    · rw [hpay]
      show s.pay.tenders.modify (tn.index - 1) (fun _ => tn.offline (s.acceptsOffline tn f)) = _
      rw [hindex, modify_eq_set _ htn]
      congr 1
      exact if_congr (s.acceptsOffline_iff tn f) (by rw [hindex]) (by rw [hindex])
    · rw [hpay]
      exact ⟨_, addLate_getLast _ _, rfl, rfl⟩

end Sys2Proof.Machine
end

section
/-! ### Offers (R159 to R161) and the advice sender (R174, R175) -/

namespace Sys2Proof.Machine

open Sys2Proof

section
variable {s : State} {rq : Req}

/-! #### The interlock -/

/-- A test of the interlock changes no more of the payment controller than the session's state. -/
theorem State.testInterlock_pay (s : State) :
    ∃ st, s.testInterlock.pay = { s.pay with session := { s.pay.session with state := st } } := by
  unfold State.testInterlock
  dsimp only
  split
  · refine ⟨.presented, ?_⟩
    rw [(State.trigger_keeps _ _).2.2.2.2.2.2.2.2.2.2.1, State.setSession_pay]
  · exact ⟨s.pay.session.state, rfl⟩

/-- The state with the offer acknowledged (R160). -/
def State.offerAcked (s : State) : State :=
  { s with pay := { s.pay with session := { s.pay.session with offerAck := true } } }

theorem exec_offerAck_of {src : NodeAddr} {r : TripRecord} (h : s.fromRole .reader src)
    (hstate : s.pay.session.state = .offered) (hr : s.meter.trip = some r) :
    exec (.offerAck src r.number s.pay.session.index) s = .next s.offerAcked.testInterlock := by
  refine exec_role_of h rfl ((if_pos ⟨hstate, by rw [hr]; rfl, rfl⟩).trans ?_)
  exact congrArg State.testInterlock (State.setSession_same (s := s) rfl rfl)

/-! #### PAY_CARD and PAY_CANCEL -/

/-- The answer to a console request stands in the front queue after what its decision has done. -/
theorem State.offeredTo_consoleRespond {t : State} (h : s.fromConsole rq) (htables : t.tables = s.tables)
    (hstill : t.link.still = s.link.still) (n : ConsoleName) (r : ConsoleResult) (d : ConsoleData) :
    offeredTo (t.consoleRespond rq n r d).link.front.queue (consoleAnswer rq n r d) := by
  have hfront : t.link.front.running = true :=
    (congrArg (fun l : Link => l.front.running) hstill).trans (State.front_running_of_fromConsole h)
  rw [State.consoleRespond_front n r d (by rw [State.holder_congr htables, h.2]) hfront]
  exact offeredTo_joined ..

theorem State.whenNotClosing_of (n : ConsoleName) (k : State → State) (h : s.meter.closing = false) :
    s.whenNotClosing rq n k = k s := if_neg (by simp [h])

/-- A role's holder is offered a frame where its queue takes it. -/
theorem State.offerRole_of {r : Role} {a : NodeAddr} (c : Content) (ha : s.holder r = some a)
    (haccepts : s.accepts (roleSeg r) = true) :
    s.offerRole r c =
      (s.modPort (roleSeg r) fun p => { p with queue := p.queue ++ [.own (roleSeg r) a c] }, true) := by
  simp [State.offerRole, ha, State.offer, State.offerFrame, State.holder_seg ha, haccepts]

theorem State.payCardRefusal_none {amount : Option Nat} {a : NodeAddr} (hpay : s.meter.state = .pay)
    (hidle : s.pay.session.state = .idle) (hamount : amount ≠ some 0) (hdue : s.remainingDue ≠ 0)
    (ha : s.holder .reader = some a) (hp : s.presence a = .present) (hroom : s.pay.tenders.length < 6) :
    s.payCardRefusal amount = none := by
  simp [State.payCardRefusal, hpay, hidle, hamount, hdue, State.available_of ha hp, Nat.not_le.2 hroom]

/-- The offer of a PAY_CARD: the smaller of the amount and the remaining due (R159). -/
theorem offer_eq (amount : Option Nat) (due : Nat) :
    min (amount.getD due) due = match amount with | some n => if n ≤ due then n else due | none => due := by
  cases amount with
  | none => exact Nat.min_self due
  | some n => exact Nat.min_def ..

/-- The state with an offer at the reader and the session OFFERED (R159). -/
def State.offering (s : State) (a : NodeAddr) (offer cap : Nat) : State :=
  State.setSession
    (s.modPort .rear fun p => { p with
      queue := p.queue ++ [.own .rear a
        (.payOffer offer cap ((s.meter.trip.map (·.number)).getD 0) (s.pay.tenders.length + 1))] })
    ⟨.offered, offer, cap, s.pay.tenders.length + 1, false, false⟩

theorem State.decidePayCard_of {amount : Option Nat} {a : NodeAddr} (hclosing : s.meter.closing = false)
    (hpay : s.meter.state = .pay) (hidle : s.pay.session.state = .idle) (hamount : amount ≠ some 0)
    (hdue : s.remainingDue ≠ 0) (ha : s.holder .reader = some a) (hp : s.presence a = .present)
    (hroom : s.pay.tenders.length < 6) (haccepts : s.accepts .rear = true) {offer : Nat}
    (hoffer : min (amount.getD s.remainingDue) s.remainingDue = offer) :
    s.decidePayCard rq amount =
      (s.offering a offer (offer * s.tables.payLimits.tipPercent / 100)).consoleRespond rq .payCard .accepted
        (.offer offer (offer * s.tables.payLimits.tipPercent / 100)) := by
  have hfront : ∀ c, s.offerRole .reader c =
      (s.modPort .rear fun p => { p with queue := p.queue ++ [.own .rear a c] }, true) := fun c =>
    State.offerRole_of c ha haccepts
  unfold State.decidePayCard
  rw [State.whenNotClosing_of _ _ hclosing]
  simp only [State.payCardRefusal_none hpay hidle hamount hdue ha hp hroom, hoffer, hfront, State.offering]

/-- What an offer leaves, its answer included. -/
theorem State.offering_does (h : s.fromConsole rq) (hidle : s.pay.session.state = .idle) (a : NodeAddr)
    (offer cap : Nat) :
    let t := (s.offering a offer cap).consoleRespond rq .payCard .accepted (.offer offer cap)
    s.sameBut [.link, .meter, .pay] t
      ∧ t.pay = { s.pay with session := ⟨.offered, offer, cap, s.pay.tenders.length + 1, false, false⟩ }
      ∧ s.meter.sameButViews t.meter
      ∧ .own .rear a (.payOffer offer cap ((s.meter.trip.map (·.number)).getD 0) (s.pay.tenders.length + 1))
        ∈ t.link.rear.queue
      ∧ offeredTo t.link.front.queue (consoleAnswer rq .payCard .accepted (.offer offer cap)) := by
  intro t
  let u := s.modPort .rear fun p => { p with
    queue := p.queue ++ [.own .rear a
      (.payOffer offer cap ((s.meter.trip.map (·.number)).getD 0) (s.pay.tenders.length + 1))] }
  have hsession : s.offering a offer cap = State.markViews { u with
      pay := { u.pay with session := ⟨.offered, offer, cap, s.pay.tenders.length + 1, false, false⟩ } } :=
    State.setSession_moved (by simp [State.modPort, hidle])
  have hmeter : t.meter = (s.offering a offer cap).meter := by simp [t]
  refine ⟨fun p hp => ?_, ?_, ?_, ?_, ?_⟩
  · cases p <;> simp [Part.same, t, State.offering] at hp ⊢
  · simp [t, hsession, u]
  · rw [hmeter, hsession]
    exact State.markViews_meter { u with
      pay := { u.pay with session := ⟨.offered, offer, cap, s.pay.tenders.length + 1, false, false⟩ } }
  · have hgrows := State.grows_trans (State.markViews_grows { u with
      pay := { u.pay with session := ⟨.offered, offer, cap, s.pay.tenders.length + 1, false, false⟩ } })
      (u := t) (by rw [← hsession]; exact (State.consoleRespond_appends _ rq .payCard .accepted _).1)
    exact hgrows.2.subset (List.mem_append_right _ (List.mem_singleton_self _))
  · exact State.offeredTo_consoleRespond h (by simp [State.offering]) (by rw [hsession, State.markViews_still]; rfl)
      .payCard .accepted _

/-- A withdrawal offered to the reader, counted where its queue refuses it (R161). -/
def State.withdrawal (s : State) : State :=
  let o := s.offerRole .reader (.payWithdraw ((s.meter.trip.map (·.number)).getD 0) s.pay.session.index)
  if o.2 then o.1 else o.1.modCounters fun c => { c with replyOverflow := satInc max16 c.replyOverflow }

theorem State.withdrawal_keeps (s : State) :
    s.sameBut [.link, .pay] s.withdrawal ∧ s.withdrawal.link.still = s.link.still
      ∧ s.pay.queueAside s.withdrawal.pay := by
  unfold State.withdrawal
  dsimp only
  split
  · refine ⟨fun p hp => ?_, State.offerRole_still .., by simp [Payment.queueAside]⟩
    cases p <;> simp_all [Part.same]
  · refine ⟨fun p hp => ?_, by simp, by simp [Payment.queueAside, State.modCounters]⟩
    cases p <;> simp_all [Part.same]

theorem State.setSession_meter (s : State) (x : Session) : s.meter.sameButViews (s.setSession x).meter := by
  unfold State.setSession
  dsimp only
  split
  · rfl
  · exact State.markViews_meter { s with pay := { s.pay with session := x } }

theorem State.endSession_meter (s : State) : s.meter.sameButViews s.endSession.meter := by
  have h := State.setSession_meter
    { s with pay := { s.pay with held := none, auth := .stopped, authExpired := false } } .idle
  unfold State.endSession
  dsimp only
  split
  · rw [(State.tryAdvice_keeps _).2.2.2.2.2.2.2.1]
    exact h
  · exact h

theorem State.decidePayCancel_offered (hclosing : s.meter.closing = false) (hpay : s.meter.state = .pay)
    (h : s.pay.session.state = .offered ∨ s.pay.session.state = .presented) :
    s.decidePayCancel rq = s.withdrawal.endSession.consoleRespond rq .payCancel .accepted := by
  unfold State.decidePayCancel
  rw [State.whenNotClosing_of _ _ hclosing]
  unfold State.withdrawal
  cases hoffer : s.offerRole .reader
      (.payWithdraw ((s.meter.trip.map (·.number)).getD 0) s.pay.session.index) with
  | mk u b =>
    rcases h with h | h <;> cases b <;> simp [hpay, h, hoffer]

theorem State.decidePayCancel_waiting (hclosing : s.meter.closing = false) (hpay : s.meter.state = .pay)
    (h : s.pay.session.state = .authWait) :
    s.decidePayCancel rq = s.consoleRespond rq .payCancel .busy := by
  unfold State.decidePayCancel
  rw [State.whenNotClosing_of _ _ hclosing]
  simp only [hpay, h]

end

/-- Settles O50: an offer made, acknowledged, matched by its view, and withdrawn. -/
theorem offersRunTheSession : Obligations.OffersRunTheSession := by
  intro rq s
  refine ⟨fun amount a h hclosing hpay hidle hamount hdue ha hp hroom haccepts => ?_, fun src r h hstate hr => ?_,
    fun src seq h hstate => ?_, fun h hclosing hpay hstate => ?_, fun h hclosing hpay hstate =>
    console_answered h rfl (State.decidePayCancel_waiting hclosing hpay hstate)⟩
  · intro offer cap
    have hdecide := State.decidePayCard_of (rq := rq) hclosing hpay hidle hamount hdue ha hp hroom haccepts
      (offer := offer) (offer_eq amount s.remainingDue)
    obtain ⟨hsame, hsession, hmeter, hmem, hoffered⟩ := State.offering_does h hidle a offer cap
    exact ⟨_, exec_console_of h rfl hdecide, hsame, hsession, by rw [hmeter]; exact hpay, by rw [hmeter], hmem,
      hoffered⟩
  · have hexec := exec_offerAck_of h hstate hr
    obtain ⟨st, hpay⟩ := s.offerAcked.testInterlock_pay
    refine ⟨_, hexec, by rw [hpay]; rfl, by rw [hpay]; rfl, fun hmatch => ?_, fun hmatch hpax => ?_⟩
    · obtain ⟨-, -, hpresented, -⟩ := State.testInterlock_presented (s := s.offerAcked) hstate rfl (.inl hmatch)
      rw [hpresented]
    · rw [State.testInterlock_waiting (s := s.offerAcked) (.inr (.inr ⟨hmatch, hpax⟩))]
      exact hstate
  · by_cases hsnapshot : s.meter.snapshot = none
    · have hexec := exec_viewAck_other (seq := seq) (fare := s.meter.snapshot.getD 0) h hstate (by simp [hsnapshot])
      obtain ⟨st, hpay⟩ := (s.acknowledged seq (s.meter.snapshot.getD 0)).testInterlock_pay
      refine ⟨_, hexec, fun hne => absurd hsnapshot hne, fun hne => absurd hsnapshot hne, fun hack => ?_,
        by rw [hpay]; rfl, by rw [hpay]; rfl, by rw [hpay]; rfl⟩
      rw [State.testInterlock_waiting (s := s.acknowledged seq (s.meter.snapshot.getD 0)) (.inr (.inl hack))]
      exact hstate
    · obtain ⟨fare, hfare⟩ := Option.ne_none_iff_exists'.1 hsnapshot
      have hget : s.meter.snapshot.getD 0 = fare := by rw [hfare]; rfl
      rw [hget]
      have hexec := exec_viewAck_matching (seq := seq) h hstate hfare
      obtain ⟨st, hpay⟩ := (s.acknowledged seq fare).matched.testInterlock_pay
      refine ⟨_, hexec, fun _ => by rw [hpay]; rfl, fun _ hack => ?_, fun hack => ?_, by rw [hpay]; rfl,
        by rw [hpay]; rfl, by rw [hpay]; rfl⟩
      · obtain ⟨-, -, hpresented, -⟩ := State.testInterlock_presented (s := (s.acknowledged seq fare).matched)
          hstate hack (.inl rfl)
        rw [hpresented]
      · rw [State.testInterlock_waiting (s := (s.acknowledged seq fare).matched) (.inr (.inl hack))]
        exact hstate
  · obtain ⟨hsame, hstill, haside⟩ := s.withdrawal_keeps
    have hpay' := Payment.queueAside_trans (Payment.queueAside_ended haside) s.withdrawal.endSession_queueAside
    have hmeter := s.withdrawal.endSession_meter
    rw [show s.withdrawal.meter = s.meter from hsame .meter (by decide)] at hmeter
    have hanswered : ∀ t : State, (t.consoleRespond rq .payCancel .accepted).pay = t.pay ∧
        (t.consoleRespond rq .payCancel .accepted).meter = t.meter := fun t => by simp
    refine ⟨_, exec_console_of h rfl (State.decidePayCancel_offered hclosing hpay hstate), ?_, ?_, ?_, ?_, ?_⟩
    · refine State.sameBut_trans (State.sameBut_mono hsame (by decide)) fun p hp => ?_
      cases p <;> simp [Part.same] at hp ⊢
    · rw [(hanswered _).1, hpay']
      rfl
    · rw [(hanswered _).1, hpay']
      rfl
    · rw [(hanswered _).2, hmeter]
      exact hpay
    · exact State.offeredTo_consoleRespond h
        ((State.endSession_keeps _).2.1.trans (hsame .tables (by decide))) (by simpa using hstill) .payCancel .accepted .none

end Sys2Proof.Machine
end

section
/-! ### The advice sender and ADVICE_ACK (R174, R175) -/

namespace Sys2Proof.Machine

open Sys2Proof

section
variable {s : State} {ref : Ref} {k : AdviceKind} {r : AdviceRecord}

/-- The sender tries nothing without the modem, in AUTH_WAIT, and with no room in the queue (R174). -/
theorem State.tryAdvice_held (h : s.available .modem = false ∨ s.pay.session.state = .authWait
      ∨ s.accepts .front = false) : s.tryAdvice = s := by
  unfold State.tryAdvice
  split
  · rfl
  · rcases h with h | h | h
    · simp [h]
    · simp [h]
    · rw [State.offerRole_full _ h]
      exact ite_self _

/-- The sender sends the head of its queue (R174). -/
theorem State.tryAdvice_sends {rest : List AdviceRecord} {m : NodeAddr} (hadvice : s.pay.advice = r :: rest)
    (hflight : ∀ x ∈ s.pay.advice, x.inFlight = false) (hm : s.holder .modem = some m)
    (hp : s.presence m = .present) (hstate : s.pay.session.state ≠ .authWait)
    (haccepts : s.accepts .front = true) :
    s.tryAdvice =
      { s with
        link := { s.link with
          front := { s.link.front with queue := s.link.front.queue ++ [.own .front m (.advice r)] } }
        pay := { s.pay with
          advice := { r with inFlight := true } :: rest, ackTimer := .running 10 } } := by
  have hall : (s.pay.advice.all fun x => !x.inFlight) = true :=
    List.all_eq_true.2 fun x hx => by simp [hflight x hx]
  have hrunning : s.link.front.running = true := (Bool.and_eq_true_iff.1 haccepts).1
  have hoffer := State.offerRole_of (.advice r) hm haccepts
  rw [hadvice] at hall
  unfold State.tryAdvice
  rw [hadvice]
  simp [hoffer, hall, State.available_of hm hp, hstate, hrunning, State.modPort, roleSeg]

/-- The state with no record in flight and the acknowledgement timer stopped (R174). -/
def State.recalled (s : State) : State :=
  { s with
    pay :=
      { s.pay with advice := s.pay.advice.map fun r => { r with inFlight := false }, ackTimer := .stopped } }

theorem exec_adviceAckTimeout_of {n : Nat} (hpowered : s.powered = true) (h : s.pay.ackTimer = .running n) :
    exec .adviceAckTimeout s = .next s.recalled.tryAdvice := by
  refine exec_powered_of hpowered rfl ?_
  simp only [h]
  rfl

theorem State.recalled_flight (s : State) : ∀ x ∈ s.recalled.pay.advice, x.inFlight = false := by
  intro x hx
  obtain ⟨y, -, rfl⟩ := List.mem_map.1 hx
  rfl

/-! #### ADVICE_ACK -/

theorem State.findAdvice_some (h : s.findAdvice ref k = some r) : r ∈ s.pay.advice ∧ r.ref = ref ∧ r.kind = k := by
  refine ⟨List.mem_of_find?_eq_some h, ?_⟩
  have hr := List.find?_some (p := fun r : AdviceRecord => r.ref == ref && r.kind == k) h
  simpa using hr

theorem State.findAdvice_isSome (h : ∃ r ∈ s.pay.advice, r.ref = ref ∧ r.kind = k) :
    ∃ r, s.findAdvice ref k = some r := by
  obtain ⟨r, hr, hkey⟩ := h
  exact Option.isSome_iff_exists.1 (List.find?_isSome.2 ⟨r, hr, by simp [hkey]⟩)

theorem State.findAdvice_none (h : ∀ r ∈ s.pay.advice, ¬(r.ref = ref ∧ r.kind = k)) : s.findAdvice ref k = none :=
  List.find?_eq_none.2 fun r hr => by simpa using h r hr

/-- A record removed from the queue and the store, before the sender's try (R171, R175). -/
def State.removed (s : State) (r : AdviceRecord) : State :=
  State.begin
    { s with
      pay :=
        { s.pay with
          advice := s.pay.advice.filter (·.ref != r.ref)
          ackTimer := timerWithout r.inFlight s.pay.ackTimer } }
    (.adviceRemove r.ref)

theorem State.removeAdvice_eq (s : State) (r : AdviceRecord) : s.removeAdvice r = (s.removed r).tryAdvice := rfl

/-- A removal leaves of the payment controller all but the queue and its timer (R171). -/
theorem State.removeAdvice_does (s : State) (r : AdviceRecord) :
    s.pay.queueAside (s.removeAdvice r).pay
      ∧ adviceKeys (s.removeAdvice r).pay.advice = (adviceKeys s.pay.advice).filter (fun k => k.1 != r.ref)
      ∧ .adviceRemove r.ref ∈ (s.removeAdvice r).writes := by
  refine ⟨Payment.queueAside_trans (p' := (s.removed r).pay) rfl (State.tryAdvice_queueAside (s.removed r)), ?_, ?_⟩
  · rw [State.removeAdvice_eq, State.tryAdvice_keys]
    simp only [adviceKeys, List.filter_map]
    rfl
  · rw [State.removeAdvice_eq, (State.tryAdvice_keeps _).2.2.2.2.2.2.2.2.2.2.2.2.2.2.1]
    simp [State.removed, State.begin]

/-- A tender amended, with its checkpoint, or nothing (R157). -/
theorem State.amendTender_does (s : State) (t : Option Tender) (f : Tender → Tender) :
    s.sameBut [.pay, .acct, .power, .writes] (s.amendTender t f)
      ∧ (s.amendTender t f).pay = { s.pay with tenders := (s.amendTender t f).pay.tenders }
      ∧ (t = none → s.amendTender t f = s)
      ∧ (∀ x, t = some x → (s.amendTender t f).pay.tenders = s.pay.tenders.modify (x.index - 1) f)
      ∧ (s.amendTender t f).acct.shift = s.acct.shift ∧ (s.amendTender t f).acct.last = s.acct.last := by
  cases t with
  | none => exact ⟨fun p _ => by cases p <;> rfl, rfl, fun _ => rfl, fun x hx => by simp at hx, rfl, rfl⟩
  | some x =>
    simp only [State.amendTender]
    refine ⟨fun p hp => ?_, by simp [State.modTender], fun h => by simp at h, fun y hy => ?_, ?_, ?_⟩
    · cases p <;> simp_all [Part.same]
    · obtain rfl : x = y := by simpa using hy
      simp [State.modTender]
    · rw [State.beginCheckpoint_acct]
      simp
    · rw [State.beginCheckpoint_acct]
      simp

/-- An acknowledgement of a record in the queue (R175). -/
theorem exec_adviceAck_of {src : NodeAddr} (h : s.fromRole .modem src) (hr : s.findAdvice ref k = some r) :
    exec (.adviceAck src ref (some k)) s =
      .next ((s.amendTender (s.tripTender ref) fun x => { x with advice := .acknowledged }).removeAdvice r) := by
  refine exec_role_of h rfl ?_
  simp [State.takeAdviceAck, hr]

end

/-- Settles O54: the sender's tries after the timer's expiry and after an acknowledgement. -/
theorem adviceIsAcknowledged : Obligations.AdviceIsAcknowledged := by
  intro s src ref k
  refine ⟨fun n hpowered htimer hheld => ?_, fun n r rest m hpowered htimer hadvice hm hp hstate haccepts => ?_,
    fun htimer => ?_, fun r next rest h hadvice href hkind hothers hp hstate haccepts => ?_, fun tn h hmem htn => ?_,
    fun h hmem => ?_, fun h hnone => ?_⟩
  · rw [exec_adviceAckTimeout_of hpowered htimer, State.tryAdvice_held (s := s.recalled) hheld]
    rfl
  · have hsend := State.tryAdvice_sends (s := s.recalled) (r := { r with inFlight := false })
      (rest := rest.map fun x => { x with inFlight := false }) (by simp [State.recalled, hadvice]) s.recalled_flight hm
      hp hstate haccepts
    refine ⟨_, (exec_adviceAckTimeout_of hpowered htimer).trans (congrArg _ hsend), fun p hp => ?_, rfl, rfl⟩
    cases p <;> simp [Part.same, State.recalled] at hp ⊢
  · refine congrArg Host.Outcome.next ?_
    by_cases hpowered : s.powered = true
    · exact (State.whenPowered_of _ hpowered).trans (by simp only [htimer])
    · exact if_neg hpowered
  · have hfind : s.findAdvice ref k = some r := by simp [State.findAdvice, hadvice, href, hkind]
    have hexec := exec_adviceAck_of h hfind
    obtain ⟨hsame, hpay, -⟩ := s.amendTender_does (s.tripTender ref) fun x => { x with advice := .acknowledged }
    let u := s.amendTender (s.tripTender ref) fun x => { x with advice := .acknowledged }
    have hrest : (u.removed r).pay.advice = next :: rest := by
      have hkeep : (next :: rest).filter (·.ref != r.ref) = next :: rest :=
        List.filter_eq_self.2 fun x hx => by simpa [href] using (hothers x hx).1
      have hadvice' : u.pay.advice = r :: next :: rest := by
        rw [show u.pay.advice = s.pay.advice by rw [hpay], hadvice]
      show u.pay.advice.filter (·.ref != r.ref) = _
      rw [hadvice', List.filter_cons_of_neg (by simp), hkeep]
    have hlink : u.link = s.link := hsame .link (by decide)
    have hsend := State.tryAdvice_sends (s := u.removed r) (m := src) hrest (fun x hx => ?_)
      ((State.holder_congr (s := s) (hsame .tables (by decide)) _).trans h.2) ?_ ?_ ?_
    · refine ⟨_, hexec.trans (congrArg _ hsend), rfl, rfl, ?_⟩
      exact congrArg (fun l : Link =>
        { l with front := { l.front with queue := l.front.queue ++ [Frame.own .front src (.advice next)] } }) hlink
    · rw [hrest] at hx
      exact (hothers x hx).2
    · rw [← hp]
      exact congrArg (fun l : Link => (State.presence { s with link := l } src)) hlink
    · rw [show (u.removed r).pay.session = u.pay.session from rfl, hpay]
      exact hstate
    · rw [← haccepts]
      exact congrArg (fun l : Link => (State.accepts { s with link := l } .front)) hlink
  · obtain ⟨r, hr⟩ := State.findAdvice_isSome hmem
    obtain ⟨-, -, -, htenders, -⟩ := s.amendTender_does (s.tripTender ref) fun x => { x with advice := .acknowledged }
    obtain ⟨haside, -⟩ := State.removeAdvice_does
      (s.amendTender (s.tripTender ref) fun x => { x with advice := .acknowledged }) r
    refine ⟨_, exec_adviceAck_of h hr, ?_⟩
    rw [haside]
    exact htenders tn htn
  · obtain ⟨r, hr⟩ := State.findAdvice_isSome hmem
    obtain ⟨-, href, -⟩ := State.findAdvice_some hr
    obtain ⟨-, hpay, -⟩ := s.amendTender_does (s.tripTender ref) fun x => { x with advice := .acknowledged }
    obtain ⟨haside, hkeys, hremoved⟩ := State.removeAdvice_does
      (s.amendTender (s.tripTender ref) fun x => { x with advice := .acknowledged }) r
    rw [href] at hkeys hremoved
    rw [hpay] at hkeys
    have hrefs : ((s.amendTender (s.tripTender ref) fun x => { x with advice := .acknowledged }).removeAdvice
        r).pay.advice.map (·.ref) = (s.pay.advice.map (·.ref)).filter (· ≠ ref) := by
      have h := congrArg (List.map Prod.fst) hkeys
      have htest : (fun x : AdviceRecord => x.ref != ref) = fun x => decide (x.ref ≠ ref) := by
        funext x
        by_cases hx : x.ref = ref <;> simp [hx]
      simpa [adviceKeys, List.filter_map, Function.comp_def, htest] using h
    refine ⟨_, exec_adviceAck_of h hr, fun x hx => ?_, hremoved, hrefs, ?_⟩
    · have hmem : x.ref ∈ (s.pay.advice.map (·.ref)).filter (· ≠ ref) := hrefs ▸ List.mem_map_of_mem hx
      simpa using (List.mem_filter.1 hmem).2
    · rw [haside, hpay]
  · refine exec_role_of h rfl ?_
    simp [State.takeAdviceAck, State.findAdvice_none hnone, State.modCounters, satInc, max16]

end Sys2Proof.Machine
end

section
/-! ### Authorization requests (R164, R165) -/

namespace Sys2Proof.Machine

open Sys2Proof

section
variable {s : State} {src dst : NodeAddr} {i : Nat} {e : FwdEntry}

/-- The state with a hit of a forwarding entry counted (R14). -/
def State.counted (s : State) (i : Nat) : State :=
  { s with link := { s.link with hits := s.link.hits.modify i fun n => min (n + 1) 65535 } }

/-- A frame that its first matching entry gives to the payment controller (R12 to R14). -/
theorem State.lookup_payment {h : Header} (body : List Byte) (pay : State → State)
    (hmatch : s.matching h = some (i, e)) (haction : e.action = .payment)
    (hkind : h.kind = .payReq ∨ h.kind = .payResp) : s.lookup h body pay = pay (s.counted i) := by
  unfold State.lookup
  rw [hmatch]
  simp only [haction, if_pos hkind]
  rfl

theorem State.classifyPayment_of {k : FrameKind} (payload : List Byte) (pay : State → State)
    (hreceives : s.receives src.seg = true) (hsrc : src.num ≠ 0) (hdst : dst.num ≠ 0) (hseg : dst.seg ≠ src.seg)
    (hmatch : s.matching ⟨dst, src, k⟩ = some (i, e)) (haction : e.action = .payment)
    (hkind : k = .payReq ∨ k = .payResp) :
    s.classifyPayment src dst k payload pay = pay (s.counted i) := by
  have hblock : ¬((k = .mgmtReq ∨ k = .consoleReq) ∧ src.seg = .rear) := by
    rcases hkind with rfl | rfl <;> simp
  rw [State.classifyPayment, if_pos hreceives, if_neg hsrc, State.classify, if_neg hblock, if_neg hdst, if_neg hseg]
  exact State.lookup_payment _ _ hmatch haction hkind

theorem exec_payReq_of {d : PayReq} (h : s.fromRole .reader src) (hsrc : src.num ≠ 0) (hdst : dst.num ≠ 0)
    (hseg : dst.seg ≠ src.seg) (hmatch : s.matching ⟨dst, src, .payReq⟩ = some (i, e))
    (haction : e.action = .payment) :
    exec (.payReq src dst d) s = .next ((s.counted i).takePayReq src d) :=
  congrArg Host.Outcome.next
    (State.classifyPayment_of (s := s) (Config.payReqBytes d) (fun s => s.takePayReq src d) h.1 hsrc hdst hseg hmatch
      haction (.inl rfl))

theorem exec_payResp_of {d : PayResp} (h : s.fromRole .modem src) (hsrc : src.num ≠ 0) (hdst : dst.num ≠ 0)
    (hseg : dst.seg ≠ src.seg) (hmatch : s.matching ⟨dst, src, .payResp⟩ = some (i, e))
    (haction : e.action = .payment) :
    exec (.payResp src dst d) s = .next ((s.counted i).takePayResp src d) :=
  congrArg Host.Outcome.next
    (State.classifyPayment_of (s := s) (Config.payRespBytes d) (fun s => s.takePayResp src d) h.1 hsrc hdst hseg hmatch
      haction (.inr rfl))

/-! #### PAY_REQ -/

variable {d : PayReq}

theorem State.takePayReq_of (ha : s.holder .reader = some src) (hclass : d.cardClass ≤ 3) :
    (s.pay.session.state = .presented → s.takePayReq src d = s.stamp d)
      ∧ (s.pay.session.state = .idle → s.takePayReq src d = s.replyReader d.requestId .noSession)
      ∧ (s.pay.session.state = .offered → s.takePayReq src d = s.replyReader d.requestId .notReady)
      ∧ (s.pay.session.state = .authWait → s.takePayReq src d = s.replyReader d.requestId .busy) := by
  have hown : ¬(s.holder .reader ≠ some src ∨ 3 < d.cardClass) := by
    rw [ha]
    simpa using hclass
  refine ⟨fun h => ?_, fun h => ?_, fun h => ?_, fun h => ?_⟩ <;>
    rw [State.takePayReq, if_neg hown, h]

/-- A reply stands in the rear queue, unless that was full (R168). -/
theorem State.replyReader_offered (ha : s.holder .reader = some src) (hrun : s.link.rear.running = true)
    (q : Nat) (r : ReaderResult) (t : Option ReplyTender) :
    offeredTo (s.replyReader q r t).link.rear.queue (.own .rear src (.payResp q r t)) := by
  unfold State.replyReader
  by_cases haccepts : s.accepts .rear = true
  · rw [State.offerRole_of (.payResp q r t) ha haccepts]
    exact .inl (List.mem_append_right _ (List.mem_singleton_self _))
  · have hfull : 24 ≤ s.link.rear.queue.length := by
      have hlength := Bool.eq_false_iff.2 haccepts
      simp only [State.accepts, State.port, hrun, Bool.true_and] at hlength
      exact Nat.not_lt.1 (of_decide_eq_false hlength)
    rw [State.offerRole_full _ (Bool.eq_false_iff.2 haccepts)]
    exact .inr hfull

/-- The reference of the request that a PAY_REQ makes (R165). -/
def State.stampRef (s : State) : Ref :=
  ⟨s.pay.epoch, (s.meter.trip.map (·.number)).getD 0, s.pay.session.index⟩

/-- The tender of a stamped PAY_REQ (R165). -/
def State.stampTender (s : State) (d : PayReq) : Tender :=
  ⟨s.pay.session.index, s.pay.session.offer, min d.tip s.pay.session.tipCap,
    some ⟨d.cardClass, s.stampRef, d.requestId, none⟩, .authWait, none, .none⟩

/-- The request that waits for its checkpoint (R165). -/
def State.stampRequest (s : State) (d : PayReq) : StampedReq :=
  ⟨s.stampRef, s.tripShift, s.pay.session.offer, min d.tip s.pay.session.tipCap, d.cardClass, d.requestId, d.card⟩

/-- The state with the tender of a PAY_REQ in the list, the counters as they then stand. -/
def State.stamped (s : State) (d : PayReq) (c : PayCounters) : State :=
  { s with pay := { s.pay with counters := c, tenders := s.pay.tenders ++ [s.stampTender d] } }

/-- A PAY_REQ stamped: with the modem its checkpoint, and else the offline decision (R165). -/
theorem State.stamp_eq (d : PayReq) (hroom : s.pay.tenders.length < 6) :
    ∃ c, s.stamp d =
      if (s.stamped d c).available .modem then
        (State.beginCheckpoint
          { s.stamped d c with pay := { (s.stamped d c).pay with held := some (s.stampRequest d) } }
          (some s.stampRef)).setSession { s.pay.session with state := .authWait }
      else (s.stamped d c).beginCheckpoint.decideOffline := by
  by_cases hclaimed : d.claimed = s.pay.session.offer
  · refine ⟨s.pay.counters, ?_⟩
    simp only [State.stamp, hclaimed, if_true, State.addTender, hroom]
    rfl
  · refine ⟨{ s.pay.counters with amountMismatch := satInc max16 s.pay.counters.amountMismatch }, ?_⟩
    simp only [State.stamp, hclaimed, if_false, State.addTender, State.modCounters, hroom, if_true]
    rfl

theorem State.beginCheckpoint_writes (s : State) (o : Option Ref) :
    (s.beginCheckpoint o).writes =
      s.writes ++ [.checkpoint s.saveRecord s.meter.lastAssigned s.acct.carry s.acct.totalsNow o] := by
  simp [State.beginCheckpoint, State.beginCarrying, State.begin]

/-- A tender that still waits is no exposure (R169). -/
theorem State.stamped_exposure (d : PayReq) (c : PayCounters) :
    (s.stamped d c).beginCheckpoint.exposure = s.exposure := by
  have hshift : (s.stamped d c).beginCheckpoint.acct.shift = s.acct.shift := by
    rw [State.beginCheckpoint_acct]
    rfl
  unfold State.exposure
  rw [hshift]
  simp [State.stamped, amounts, State.stampTender]

theorem modify_append_last {α : Type} (l : List α) (a : α) (f : α → α) :
    (l ++ [a]).modify l.length f = l ++ [f a] := by
  rw [modify_eq_set f (e := a) (by simp)]
  simp

end

section
variable {s : State} {src dst : NodeAddr} {i : Nat} {e : FwdEntry} {d : PayReq}

/-- A PAY_REQ in PRESENTED with the modem available waits for its checkpoint (R165). -/
theorem State.stamp_waiting (hroom : s.pay.tenders.length < 6) (havailable : s.available .modem = true) :
    let t := s.stamp d
    t.pay.session.state = .authWait ∧ t.pay.tenders = s.pay.tenders ++ [s.stampTender d]
      ∧ t.pay.held.map (·.ref) = some s.stampRef
      ∧ t.writes = s.writes ++
        [.checkpoint ({ s with pay := { s.pay with tenders := t.pay.tenders } } : State).saveRecord
          s.meter.lastAssigned s.acct.carry s.acct.totalsNow (some s.stampRef)] := by
  intro t
  obtain ⟨c, hc⟩ := s.stamp_eq d hroom
  have ht : t = (State.beginCheckpoint
      { s.stamped d c with pay := { (s.stamped d c).pay with held := some (s.stampRequest d) } }
      (some s.stampRef)).setSession { s.pay.session with state := .authWait } := hc.trans (if_pos havailable)
  have hpay : t.pay = { (s.stamped d c).pay with
      held := some (s.stampRequest d), session := { s.pay.session with state := .authWait } } := by
    rw [ht, State.setSession_pay, (State.beginCheckpoint_keeps _ _).2.2.2.2.2.2.2.2.2.2.2.1]
  refine ⟨by rw [hpay], by rw [hpay]; rfl, by rw [hpay]; rfl, ?_⟩
  rw [hpay, ht, (State.setSession_keeps _ _).2.2.2.2.2.2.2.2.2.2.2.2.2.1, State.beginCheckpoint_writes]
  rfl

/-- A PAY_REQ in PRESENTED without the modem is decided offline (R165, R169). -/
theorem State.stamp_offline (hroom : s.pay.tenders.length < 6) (havailable : s.available .modem = false)
    (hindex : s.pay.session.index = s.pay.tenders.length + 1) :
    let t := s.stamp d
    t.pay.session = .idle ∧ t.pay.held = none
      ∧ t.pay.tenders = s.pay.tenders ++
        [(s.stampTender d).offline (s.acceptsOffline (s.stampTender d) ⟨d.cardClass, s.stampRef, d.requestId, none⟩)]
      ∧ ∃ l, t.pay.late.getLast? = some l ∧ l.ref = s.stampRef ∧ l.amount = s.pay.session.offer := by
  intro t
  obtain ⟨c, hc⟩ := s.stamp_eq d hroom
  have ht : t = (s.stamped d c).beginCheckpoint.decideOffline :=
    hc.trans (if_neg (by rw [show (s.stamped d c).available .modem = false from havailable]; decide))
  have hpay : (s.stamped d c).beginCheckpoint.pay = (s.stamped d c).pay := by simp
  have htables : (s.stamped d c).beginCheckpoint.tables = s.tables :=
    (State.beginCheckpoint_keeps _ _).2.2.1
  have hwaiting : (s.stamped d c).beginCheckpoint.waitingTender = some (s.stampTender d) := by
    refine State.waitingTender_of ?_ ?_
    · rw [hpay]
      show 1 ≤ s.pay.session.index
      omega
    · rw [hpay]
      show (s.pay.tenders ++ [s.stampTender d])[s.pay.session.index - 1]? = _
      simp [hindex]
  have haccepts : (s.stamped d c).beginCheckpoint.acceptsOffline (s.stampTender d)
      ⟨d.cardClass, s.stampRef, d.requestId, none⟩ =
      s.acceptsOffline (s.stampTender d) ⟨d.cardClass, s.stampRef, d.requestId, none⟩ := by
    simp only [State.acceptsOffline, State.stamped_exposure, htables, State.adviceFree, hpay]
    rfl
  have hdecided := State.decideOffline_pay hwaiting (f := ⟨d.cardClass, s.stampRef, d.requestId, none⟩) rfl
  rw [← ht, haccepts, hpay] at hdecided
  refine ⟨by rw [hdecided]; rfl, by rw [hdecided]; rfl, ?_, ?_⟩
  · rw [hdecided]
    show (s.pay.tenders ++ [s.stampTender d]).modify (s.pay.session.index - 1) _ = _
    rw [show s.pay.session.index - 1 = s.pay.tenders.length by omega]
    exact modify_append_last ..
  · rw [hdecided]
    exact ⟨_, addLate_getLast _ _, rfl, rfl⟩

/-- A reply alone (R164): what it leaves, and where it stands. -/
theorem State.replyReader_does (h : s.fromRole .reader src) (q : Nat) (r : ReaderResult) :
    let t := (s.counted i).replyReader q r
    t.pay.session = s.pay.session ∧ t.pay.tenders = s.pay.tenders ∧ t.meter = s.meter ∧ t.writes = s.writes
      ∧ offeredTo t.link.rear.queue (.own .rear src (.payResp q r none)) := by
  intro t
  have haside : s.pay.queueAside t.pay := State.replyReader_queueAside (s.counted i) q r none
  have hrun : s.link.rear.running = true := by
    have hrear : src.seg = .rear := State.holder_seg h.2
    simpa [State.port, hrear] using State.running_of_receives h.1
  exact ⟨by rw [haside], by rw [haside], (State.replyReader_keeps ..).2.2.2.2.2.2.2.1,
    (State.replyReader_keeps ..).2.2.2.2.2.2.2.2.2.2.2.2.2.2.1,
    State.replyReader_offered (s := s.counted i) h.2 hrun q r none⟩

end

end Sys2Proof.Machine
end

section
/-! ### Authorization responses (R167, R171) -/

namespace Sys2Proof.Machine

open Sys2Proof

section
variable {s : State} {src : NodeAddr} {d : PayResp}

/-! #### The waiting tender -/

theorem State.takePayResp_of (hm : s.holder .modem = some src) (hresult : d.result ≠ .other)
    (hepoch : d.ref.epoch = s.pay.epoch) {t : Tender} {f : CardFields} (hstate : s.pay.session.state = .authWait)
    (ht : s.waitingTender = some t) (hf : t.card = some f) (href : d.ref = f.ref) :
    s.takePayResp src d = s.decideCurrent t f (d.result == .approved) d.authCode := by
  have hown : ¬(s.holder .modem ≠ some src ∨ d.result = .other) := by
    rw [hm]
    simpa using hresult
  rw [State.takePayResp, if_neg hown, if_neg (not_not.2 hepoch)]
  simp [hstate, ht, hf, href]

/-- A tender approved by a response in time (R167). -/
def Tender.authorised (t : Tender) (f : CardFields) (code : List Byte) : Tender :=
  { t with status := .approved, card := some { f with authCode := some code } }

/-- A tender declined by a response in time (R167). -/
def Tender.refused (t : Tender) : Tender := { t with status := .declined, reason := some .issuer }

/-- The state of a response in time: the tender decided, its checkpoint begun, the timer stopped (R167). -/
def State.currentKept (s : State) (index : Nat) (t : Tender) : State :=
  let u := (s.modTender index fun _ => t).beginCheckpoint
  { u with pay := { u.pay with auth := .stopped } }

theorem State.decideCurrent_approved (t : Tender) (f : CardFields) (code : List Byte) :
    s.decideCurrent t f true code =
      (s.currentKept t.index (t.authorised f code)).finishCard (t.authorised f code)
        { f with authCode := some code } .approved .approved := by
  simp only [State.decideCurrent, if_true, State.currentKept, Tender.authorised]

theorem State.decideCurrent_declined (t : Tender) (f : CardFields) (code : List Byte) :
    s.decideCurrent t f false code =
      (s.currentKept t.index t.refused).finishCard t.refused f .declined .declined := by
  simp only [State.decideCurrent, Bool.false_eq_true, if_false, State.currentKept, Tender.refused]

theorem State.currentKept_pay (s : State) (index : Nat) (t : Tender) :
    (s.currentKept index t).pay =
      { s.pay with tenders := s.pay.tenders.modify (index - 1) fun _ => t, auth := .stopped } := by
  simp [State.currentKept, State.modTender]

theorem State.finishCard_currentKept (s : State) (index : Nat) (t : Tender) (f : CardFields) (r : ReaderResult)
    (tr : Trigger) :
    Payment.queueAside { s.pay.ended with tenders := s.pay.tenders.modify (index - 1) fun _ => t }
      ((s.currentKept index t).finishCard t f r tr).pay := by
  have h := State.finishCard_queueAside (s.currentKept index t) t f r tr
  rwa [State.currentKept_pay] at h

/-- A card tender that is not counted begins no close (R163). -/
theorem State.finishCard_closing {t : Tender} (h : t.status.counted = false) (f : CardFields) (r : ReaderResult)
    (tr : Trigger) : (s.finishCard t f r tr).meter.closing = s.meter.closing := by
  have hend := State.endSession_meter
    ((s.replyReader f.requestId r (some ⟨f.ref, t.amount, t.tip, f.authCode⟩)).trigger tr)
  simp only [State.finishCard, h, Bool.false_eq_true, if_false]
  rw [hend]
  simp

theorem State.currentKept_closing (s : State) (index : Nat) (t : Tender) :
    (s.currentKept index t).meter.closing = s.meter.closing := by
  simp [State.currentKept]

/-! #### No waiting tender -/

theorem State.takePayResp_stale (hm : s.holder .modem = some src) (hresult : d.result ≠ .other)
    (hepoch : d.ref.epoch ≠ s.pay.epoch) :
    s.takePayResp src d =
      s.modCounters fun c => { c with staleResponse := min (c.staleResponse + 1) 65535 } := by
  have hown : ¬(s.holder .modem ≠ some src ∨ d.result = .other) := by
    rw [hm]
    simpa using hresult
  rw [State.takePayResp, if_neg hown, if_pos hepoch]
  rfl

theorem State.waitingTender_mem {t : Tender} (h : s.waitingTender = some t) : t ∈ s.pay.tenders := by
  unfold State.waitingTender at h
  split at h
  · simp at h
  · exact List.mem_of_getElem? h

/-- A response that names no waiting tender is decided by the late match list (R167, R171). -/
theorem State.takePayResp_late (hm : s.holder .modem = some src) (hresult : d.result ≠ .other)
    (hepoch : d.ref.epoch = s.pay.epoch)
    (hnone : s.pay.session.state ≠ .authWait ∨ ∀ x ∈ s.pay.tenders, ∀ f, x.card = some f → f.ref ≠ d.ref) :
    (∀ e, s.pay.late.find? (·.ref == d.ref) = some e →
      s.takePayResp src d = s.decideLate e (d.result == .approved) d.authCode)
    ∧ (s.pay.late.find? (·.ref == d.ref) = none →
      s.takePayResp src d =
        s.modCounters fun c => { c with unmatchedResponse := min (c.unmatchedResponse + 1) 65535 }) := by
  have hown : ¬(s.holder .modem ≠ some src ∨ d.result = .other) := by
    rw [hm]
    simpa using hresult
  have hcurrent : (if s.pay.session.state = .authWait then
      s.waitingTender.bind fun t => t.card.bind fun f => if f.ref = d.ref then some (t, f) else none
      else none) = none := by
    rcases hnone with hstate | hother
    · exact if_neg hstate
    · rw [ite_eq_right_iff]
      intro _
      rw [Option.bind_eq_none_iff]
      intro t ht
      rw [Option.bind_eq_none_iff]
      intro f hf
      exact if_neg (hother t (State.waitingTender_mem ht) f hf)
  constructor
  · intro e he
    rw [State.takePayResp, if_neg hown, if_neg (not_not.2 hepoch)]
    simp only [hcurrent, he]
  · intro he
    rw [State.takePayResp, if_neg hown, if_neg (not_not.2 hepoch)]
    simp only [hcurrent, he]
    rfl

theorem find_late {a b : List LateEntry} {l : LateEntry} {ref : Ref} (ha : ∀ x ∈ a, x.ref ≠ ref) (hl : l.ref = ref) :
    (a ++ l :: b).find? (·.ref == ref) = some l := by
  rw [List.find?_append, List.find?_eq_none.2 fun x hx => by simpa using ha x hx]
  simp [hl]

end

section
variable {s : State} {e : LateEntry} {code : List Byte}

/-! #### Late responses -/

/-- The state with a late entry taken off its list (R171). -/
def State.lateTaken (s : State) (e : LateEntry) : State :=
  { s with pay := { s.pay with late := s.pay.late.filter (·.ref != e.ref) } }

theorem State.findAdvice_congr {s t : State} (h : t.pay.advice = s.pay.advice) (ref : Ref) (k : AdviceKind) :
    t.findAdvice ref k = s.findAdvice ref k := by
  simp only [State.findAdvice, h]

theorem mem_adviceKeys {l : List AdviceRecord} {ref : Ref} {k : AdviceKind} :
    (ref, k) ∈ adviceKeys l ↔ ∃ r ∈ l, r.ref = ref ∧ r.kind = k := by
  simp [adviceKeys]

/-- A tender accepted offline, approved late (R171). -/
def Tender.approvedLate (code : List Byte) (x : Tender) : Tender :=
  { x with
    status := .approved
    card := x.card.map fun f => { f with authCode := some code }
    advice := if x.advice = .acknowledged then .acknowledged else .none }

/-- A record found is removed (R171). -/
def State.removedIf (s : State) (o : Option AdviceRecord) : State :=
  match o with
  | some r => s.removeAdvice r
  | none => s

/-- A late approval of a tender accepted offline (R171). -/
theorem State.decideLate_approved (h : e.accepted = true) :
    let t := s.decideLate e true code
    t.pay.late = s.pay.late.filter (·.ref != e.ref) ∧ t.pay.session = s.pay.session
      ∧ (∀ tn, s.openTender e.ref = some tn →
        t.pay.tenders = s.pay.tenders.modify (tn.index - 1) (Tender.approvedLate code))
      ∧ (s.openTender e.ref = none → t.pay.tenders = s.pay.tenders)
      ∧ ((e.ref, .offline) ∈ adviceKeys s.pay.advice →
        adviceKeys t.pay.advice = (adviceKeys s.pay.advice).filter (fun k => k.1 != e.ref)
          ∧ .adviceRemove e.ref ∈ t.writes)
      ∧ ((e.ref, .offline) ∉ adviceKeys s.pay.advice → t.pay.advice = s.pay.advice) := by
  intro t
  obtain ⟨-, hpay, hkept, htenders, -, -⟩ :=
    (s.lateTaken e).amendTender_does (s.openTender e.ref) (Tender.approvedLate code)
  let u := (s.lateTaken e).amendTender (s.openTender e.ref) (Tender.approvedLate code)
  have hu : u.pay = { (s.lateTaken e).pay with tenders := u.pay.tenders } := hpay
  have hstood : s.openTender e.ref = none → u.pay.tenders = s.pay.tenders := fun hnone =>
    (congrArg (fun v : State => v.pay.tenders) (hkept hnone)).trans rfl
  have hadvice : u.pay.advice = s.pay.advice := by
    rw [hu]
    rfl
  have hfind := State.findAdvice_congr hadvice e.ref .offline
  have hdecide : t = u.removedIf (u.findAdvice e.ref .offline) := by
    simp only [t, State.decideLate, h]
    rfl
  rw [hfind] at hdecide
  by_cases hmem : (e.ref, AdviceKind.offline) ∈ adviceKeys s.pay.advice
  · obtain ⟨r, hr⟩ := State.findAdvice_isSome (mem_adviceKeys.1 hmem)
    obtain ⟨-, href, -⟩ := State.findAdvice_some hr
    rw [hr] at hdecide
    change t = u.removeAdvice r at hdecide
    obtain ⟨haside, hkeys, hremoved⟩ := u.removeAdvice_does r
    rw [href, hadvice] at hkeys
    rw [href] at hremoved
    rw [hdecide]
    refine ⟨by rw [haside, hu]; rfl, by rw [haside, hu]; rfl, fun tn htn => ?_, fun hnone => ?_,
      fun _ => ⟨hkeys, hremoved⟩, fun h => absurd hmem h⟩
    · rw [haside]
      exact htenders tn htn
    · rw [haside]
      exact hstood hnone
  · have hnone := State.findAdvice_none (s := s) (ref := e.ref) (k := .offline) fun r hr hkey =>
      hmem (mem_adviceKeys.2 ⟨r, hr, hkey⟩)
    rw [hnone] at hdecide
    change t = u at hdecide
    rw [hdecide]
    exact ⟨by rw [hu]; rfl, by rw [hu]; rfl, htenders, hstood, fun h => absurd h hmem, fun _ => hadvice⟩

/-! #### A late decline of a tender accepted offline -/

/-- An OFFLINE record turned into DISPUTED (R171, R172). -/
theorem State.disputeAdvice_does {r : AdviceRecord} (hr : r ∈ s.pay.advice) :
    s.pay.queueAside (s.disputeAdvice r).pay
      ∧ adviceKeys (s.disputeAdvice r).pay.advice =
        (adviceKeys s.pay.advice).map (fun k => if k.1 = r.ref then (r.ref, .disputed) else k)
      ∧ (s.disputeAdvice r).acct = s.acct := by
  refine ⟨rfl, ?_, rfl⟩
  have hany : (s.pay.advice.any (·.ref == r.ref)) = true := List.any_eq_true.2 ⟨r, hr, by simp⟩
  simp only [State.disputeAdvice, State.begin, setAdvice, hany, if_true, adviceKeys, List.map_map]
  refine List.map_congr_left fun x _ => ?_
  by_cases hx : x.ref = r.ref <;> simp [hx]

/-- A late dispute in the accounting (R187): the open shift's, and else the last shift's. -/
theorem State.lateDispute_does (s : State) (amount : Nat) :
    (s.lateDispute amount).pay = s.pay
      ∧ (∀ r, s.acct.shift.record = some r →
        (s.lateDispute amount).acct.shift.record =
          some { r with lateDispute := min (r.lateDispute + amount) 281474976710655 })
      ∧ (∀ x, s.acct.shift.record = none → s.acct.last = some x →
        ∃ y, (s.lateDispute amount).acct.last = some y ∧ .lastShift y ∈ (s.lateDispute amount).writes
          ∧ y = { x with record := { x.record with
              lateDispute := min (x.record.lateDispute + amount) 281474976710655 } }) := by
  refine ⟨?_, fun r hr => ?_, fun x hnone hx => ⟨_, ?_, ?_, rfl⟩⟩
  · unfold State.lateDispute
    dsimp only
    split
    · rfl
    · split <;> rfl
  · simp [State.lateDispute, hr, State.modShift, satAdd, max48]
  · simp [State.lateDispute, hnone, hx, State.begin, satAdd, max48]
  · simp [State.lateDispute, hnone, hx, State.begin, satAdd, max48]

/-- A record's reference is free, and the queue has room (R173). -/
theorem State.canJoin_of {ref : Ref} (hfree : ∀ k ∈ adviceKeys s.pay.advice, k.1 ≠ ref)
    (hroom : s.pay.advice.length < 32) : s.canJoin ref = true := by
  have hnone : ¬(s.pay.advice.any (·.ref == ref)) = true := by
    rw [List.any_eq_true]
    rintro ⟨r, hr, href⟩
    exact hfree _ (List.mem_map_of_mem hr) (by simpa using href)
  simp [State.canJoin, hroom, Bool.eq_false_iff.2 hnone]

theorem State.canJoin_congr {s t : State} (h : t.pay.advice = s.pay.advice) (ref : Ref) :
    t.canJoin ref = s.canJoin ref := by
  simp only [State.canJoin, h]

/-- The advice state that a late decline gives its tender (R171, R177). -/
def State.disputeState (s : State) (ref : Ref) : AdviceState :=
  if (s.findAdvice ref .offline).isSome then .queued else s.joinState ref

/-- A tender disputed late (R171). -/
def Tender.disputedLate (a : AdviceState) (x : Tender) : Tender := { x with status := .offlineDisputed, advice := a }

/-- The queue after a late decline (R171, R172): the OFFLINE record turned, or a DISPUTED record offered. -/
def State.disputed (s : State) (e : LateEntry) (o : Option AdviceRecord) : State :=
  match o with
  | some r => s.disputeAdvice r
  | none => s.joinAdvice (s.lateAdvice e .disputed)

theorem State.disputed_keeps {o : Option AdviceRecord} (h : ∀ r, o = some r → r ∈ s.pay.advice) :
    s.pay.queueAside (s.disputed e o).pay ∧ (s.disputed e o).acct = s.acct := by
  cases o with
  | none => exact ⟨s.joinAdvice_queueAside _, (State.joinAdvice_keeps ..).2.2.2.2.2.2.2.2.2.1⟩
  | some r =>
    obtain ⟨haside, -, hacct⟩ := State.disputeAdvice_does (h r rfl)
    exact ⟨haside, hacct⟩

theorem State.decideLate_declined (h : e.accepted = true) :
    s.decideLate e false code =
      let u := ((s.lateTaken e).amendTender (s.openTender e.ref)
        (Tender.disputedLate (s.disputeState e.ref))).disputed e (s.findAdvice e.ref .offline)
      if (s.openTender e.ref).isSome then u else u.lateDispute e.amount := by
  simp only [State.decideLate, h]
  rfl

/-- A late decline of a tender accepted offline (R171, R187). -/
theorem State.decideLate_disputed (h : e.accepted = true) :
    let t := s.decideLate e false code
    t.pay.late = s.pay.late.filter (·.ref != e.ref) ∧ t.pay.session = s.pay.session
      ∧ (∀ tn, s.openTender e.ref = some tn → (e.ref, .offline) ∈ adviceKeys s.pay.advice →
        t.pay.tenders = s.pay.tenders.modify (tn.index - 1) (Tender.disputedLate .queued)
          ∧ t.acct.shift = s.acct.shift)
      ∧ ((e.ref, .offline) ∈ adviceKeys s.pay.advice →
        adviceKeys t.pay.advice =
          (adviceKeys s.pay.advice).map (fun k => if k.1 = e.ref then (e.ref, .disputed) else k))
      ∧ ((∀ k ∈ adviceKeys s.pay.advice, k.1 ≠ e.ref) → s.pay.advice.length < 32 →
        adviceKeys t.pay.advice = adviceKeys s.pay.advice ++ [(e.ref, .disputed)])
      ∧ (s.openTender e.ref = none → t.pay.tenders = s.pay.tenders
        ∧ (∀ r, s.acct.shift.record = some r →
          t.acct.shift.record = some { r with lateDispute := min (r.lateDispute + e.amount) 281474976710655 })
        ∧ (∀ x, s.acct.shift.record = none → s.acct.last = some x →
          ∃ y, t.acct.last = some y ∧ .lastShift y ∈ t.writes
            ∧ y = { x with record := { x.record with
                lateDispute := min (x.record.lateDispute + e.amount) 281474976710655 } })) := by
  intro t
  obtain ⟨hsame, hpay, hkept, htenders, hshift, -⟩ :=
    (s.lateTaken e).amendTender_does (s.openTender e.ref) (Tender.disputedLate (s.disputeState e.ref))
  let u := (s.lateTaken e).amendTender (s.openTender e.ref) (Tender.disputedLate (s.disputeState e.ref))
  let w := u.disputed e (s.findAdvice e.ref .offline)
  have hu : u.pay = { (s.lateTaken e).pay with tenders := u.pay.tenders } := hpay
  have hadvice : u.pay.advice = s.pay.advice := by
    rw [hu]
    rfl
  obtain ⟨haside, hacct⟩ : u.pay.queueAside w.pay ∧ w.acct = u.acct := State.disputed_keeps fun r hr => by
    rw [hadvice]
    exact (State.findAdvice_some hr).1
  have hdecide : t = if (s.openTender e.ref).isSome then w else w.lateDispute e.amount := State.decideLate_declined h
  have htpay : t.pay = w.pay := by
    rw [hdecide]
    split
    · rfl
    · exact (w.lateDispute_does e.amount).1
  have htw : t.pay = { s.pay with
      late := s.pay.late.filter (·.ref != e.ref), tenders := u.pay.tenders, advice := w.pay.advice
      ackTimer := w.pay.ackTimer, counters := w.pay.counters } := by
    rw [htpay, haside, hu]
    rfl
  have hfound : (e.ref, .offline) ∈ adviceKeys s.pay.advice →
      ∃ r, s.findAdvice e.ref .offline = some r ∧ w = u.disputeAdvice r := fun hmem => by
    obtain ⟨r, hr⟩ := State.findAdvice_isSome (mem_adviceKeys.1 hmem)
    exact ⟨r, hr, by simp only [w, hr, State.disputed]⟩
  refine ⟨by rw [htw], by rw [htw], fun tn htn hmem => ⟨?_, ?_⟩, fun hmem => ?_, fun hfree hroom => ?_,
    fun hnone => ?_⟩
  · obtain ⟨r, hr, -⟩ := hfound hmem
    have hqueued : s.disputeState e.ref = .queued := if_pos (by rw [hr]; rfl)
    rw [htw, ← hqueued]
    exact htenders tn htn
  · rw [hdecide, if_pos (by rw [htn]; rfl), hacct]
    exact hshift
  · obtain ⟨r, hr, hw⟩ := hfound hmem
    obtain ⟨hin, href, -⟩ := State.findAdvice_some hr
    obtain ⟨-, hkeys, -⟩ := State.disputeAdvice_does (s := u) (r := r) (by rwa [hadvice])
    rw [htpay, hw, hkeys, href, hadvice]
  · have hnone : s.findAdvice e.ref .offline = none := State.findAdvice_none fun r hr hkey =>
      hfree _ (List.mem_map_of_mem hr) hkey.1
    have hw : w = u.joinAdvice (u.lateAdvice e .disputed) := by simp only [w, hnone, State.disputed]
    have hjoin : u.canJoin e.ref = true := (State.canJoin_congr hadvice e.ref).trans (State.canJoin_of hfree hroom)
    rw [htpay, hw, State.joinAdvice_keys (r := u.lateAdvice e .disputed) hjoin, hadvice]
    rfl
  · have hstood : u = s.lateTaken e := hkept hnone
    obtain ⟨-, hopen, hclosed⟩ := w.lateDispute_does e.amount
    rw [← show t = w.lateDispute e.amount from hdecide.trans (if_neg (by simp [hnone])), hacct, hstood]
      at hopen hclosed
    refine ⟨?_, hopen, hclosed⟩
    rw [htw, hstood]
    rfl

/-! #### A late approval of a tender declined offline -/

/-- A late approval of a tender declined offline (R171, R173). -/
theorem State.decideLate_unclaimed (h : e.accepted = false) :
    let t := s.decideLate e true code
    t.pay.late = s.pay.late.filter (·.ref != e.ref) ∧ t.pay.session = s.pay.session
      ∧ ((∀ k ∈ adviceKeys s.pay.advice, k.1 ≠ e.ref) → s.pay.advice.length < 32 →
        adviceKeys t.pay.advice = adviceKeys s.pay.advice ++ [(e.ref, .unclaimed)]
          ∧ ∀ tn, s.openTender e.ref = some tn →
            t.pay.tenders = s.pay.tenders.modify (tn.index - 1) fun x => { x with advice := .queued })
      ∧ (32 ≤ s.pay.advice.length → t.pay.advice = s.pay.advice ∧ s.noticed t (.adviceFull e.ref 0)) := by
  intro t
  obtain ⟨hsame, hpay, -, htenders, -, -⟩ := (s.lateTaken e).amendTender_does (s.openTender e.ref)
    fun x => { x with advice := s.joinState e.ref }
  let u := (s.lateTaken e).amendTender (s.openTender e.ref) fun x => { x with advice := s.joinState e.ref }
  have hu : u.pay = { (s.lateTaken e).pay with tenders := u.pay.tenders } := hpay
  have hadvice : u.pay.advice = s.pay.advice := by
    rw [hu]
    rfl
  have hdecide : t = u.joinAdvice (u.lateAdvice e .unclaimed) := by
    simp only [t, State.decideLate, h]
    rfl
  have haside := u.joinAdvice_queueAside (u.lateAdvice e .unclaimed)
  rw [← hdecide] at haside
  refine ⟨by rw [haside, hu]; rfl, by rw [haside, hu]; rfl, fun hfree hroom => ?_, fun hfull => ?_⟩
  · have hcan := State.canJoin_of hfree hroom
    have hjoin : u.canJoin e.ref = true := (State.canJoin_congr hadvice e.ref).trans hcan
    refine ⟨?_, fun tn htn => ?_⟩
    · rw [hdecide, State.joinAdvice_keys (r := u.lateAdvice e .unclaimed) hjoin, hadvice]
      rfl
    · have hqueued : s.joinState e.ref = .queued := if_pos hcan
      rw [haside, ← hqueued]
      exact htenders tn htn
  · have hnotice : t = u.offerNotice (.adviceFull e.ref 0) := hdecide.trans
      (State.joinAdvice_full (r := u.lateAdvice e .unclaimed) (by rwa [hadvice]))
    have halike : s.NoticesAlike u := by
      have htime : u.time = s.time := hsame .time (by decide)
      have hlink : u.link = s.link := hsame .link (by decide)
      exact ⟨hsame .tables (by decide), congrArg (fun x : TimeBase => x.backup.counter) htime,
        hsame .notices (by decide), by rw [hlink], by rw [hlink], by rw [hlink]⟩
    rw [hnotice]
    refine ⟨?_, State.noticed_offerNotice halike _⟩
    rw [(State.offerNotice_keeps _ _).2.2.2.2.2.2.2.2.2.1, hadvice]

end

/-- Settles O52: the PAY_REQ by the session, the PAY_RESP of the waiting tender, and the late responses. -/
theorem authorizationsAreDecided : Obligations.AuthorizationsAreDecided := by
  refine ⟨fun src dst d i e s h hsrc hdst hseg hmatch haction hclass => ⟨fun hs havailable hroom => ?_,
    fun hs havailable hroom hindex => ?_, fun hs => ?_⟩,
    fun src dst d i e tn f s h hsrc hdst hseg hmatch haction hs hlow htn hindex hf href hepoch => ?_,
    fun src dst d i e s h hsrc hdst hseg hmatch haction hresult => ?_⟩
  · have hexec := exec_payReq_of (d := d) h hsrc hdst hseg hmatch haction
    rw [(State.takePayReq_of (s := s.counted i) (d := d) h.2 hclass).1 hs] at hexec
    obtain ⟨hstate, htenders, hheld, hwrites⟩ := State.stamp_waiting (s := s.counted i) (d := d) hroom havailable
    exact ⟨_, _, hexec, hstate, rfl, htenders, hheld, hwrites⟩
  · have hexec := exec_payReq_of (d := d) h hsrc hdst hseg hmatch haction
    rw [(State.takePayReq_of (s := s.counted i) (d := d) h.2 hclass).1 hs] at hexec
    obtain ⟨hstate, hheld, htenders, hlate⟩ :=
      State.stamp_offline (s := s.counted i) (d := d) hroom havailable hindex
    refine ⟨_, _, hexec, hstate, hheld, rfl, htenders.trans ?_, hlate⟩
    congr 2
    exact if_congr ((s.counted i).acceptsOffline_iff _ _) rfl rfl
  · have hexec := exec_payReq_of (d := d) h hsrc hdst hseg hmatch haction
    obtain ⟨-, hidle, hoffered, hwait⟩ := State.takePayReq_of (s := s.counted i) (d := d) h.2 hclass
    cases hstate : s.pay.session.state with
    | idle => exact ⟨_, hexec.trans (congrArg _ (hidle hstate)), State.replyReader_does h d.requestId .noSession⟩
    | offered => exact ⟨_, hexec.trans (congrArg _ (hoffered hstate)), State.replyReader_does h d.requestId .notReady⟩
    | presented => exact absurd hstate hs
    | authWait => exact ⟨_, hexec.trans (congrArg _ (hwait hstate)), State.replyReader_does h d.requestId .busy⟩
  · have hexec := exec_payResp_of (d := d) h hsrc hdst hseg hmatch haction
    have hwaiting : (s.counted i).waitingTender = some tn := State.waitingTender_of (s := s.counted i) hlow htn
    have htenders : ∀ x : Tender, (s.counted i).pay.tenders.modify (tn.index - 1) (fun _ => x) =
        s.pay.tenders.set (s.pay.session.index - 1) x := fun x => by
      rw [hindex]
      exact modify_eq_set _ htn
    refine ⟨fun hresult => ?_, fun hresult => ?_⟩
    · rw [State.takePayResp_of (s := s.counted i) h.2 (by simp [hresult]) hepoch hs hwaiting hf href, hresult,
        show (ModemResult.approved == .approved) = true from rfl] at hexec
      have hpay := State.finishCard_currentKept (s.counted i) tn.index (tn.authorised f d.authCode)
        { f with authCode := some d.authCode } .approved .approved
      rw [htenders, ← State.decideCurrent_approved] at hpay
      exact ⟨_, hexec, by rw [hpay]; rfl, by rw [hpay]; rfl, by rw [hpay]; rfl⟩
    · rw [State.takePayResp_of (s := s.counted i) h.2 (by simp [hresult]) hepoch hs hwaiting hf href, hresult,
        show (ModemResult.declined == .approved) = false from rfl] at hexec
      have hpay := State.finishCard_currentKept (s.counted i) tn.index tn.refused f .declined .declined
      have hclosing := State.finishCard_closing (s := (s.counted i).currentKept tn.index tn.refused) (t := tn.refused) rfl
        f .declined .declined
      rw [State.currentKept_closing, ← State.decideCurrent_declined (code := d.authCode)] at hclosing
      rw [htenders, ← State.decideCurrent_declined (code := d.authCode)] at hpay
      exact ⟨_, hexec, by rw [hpay]; rfl, by rw [hpay]; rfl, by rw [hpay]; rfl, hclosing⟩
  · have hexec := exec_payResp_of (d := d) h hsrc hdst hseg hmatch haction
    intro link notWaiting
    refine ⟨fun hepoch => ?_, fun hepoch hnone hlate => ?_, fun a l b hepoch hnone hlate ha hl => ?_⟩
    · rw [hexec, State.takePayResp_stale (s := s.counted i) h.2 hresult hepoch]
      rfl
    · have hmissing : s.pay.late.find? (·.ref == d.ref) = none :=
        List.find?_eq_none.2 fun x hx => by simpa using hlate x hx
      rw [hexec, (State.takePayResp_late (s := s.counted i) h.2 hresult hepoch hnone).2 hmissing]
      rfl
    · have hfound : s.pay.late.find? (·.ref == d.ref) = some l := by
        rw [hlate]
        exact find_late ha hl
      have hdecide := (State.takePayResp_late (s := s.counted i) h.2 hresult hepoch hnone).1 l hfound
      rw [hdecide] at hexec
      intro late keys
      refine ⟨fun haccepted happroved => ?_, fun haccepted hdeclined => ?_, fun haccepted happroved => ?_,
        fun haccepted hdeclined => ?_⟩
      · rw [happroved] at hexec
        have hdoes := State.decideLate_approved (s := s.counted i) (code := d.authCode) haccepted
        rw [hl] at hdoes
        exact ⟨_, hexec, hdoes⟩
      · rw [hdeclined] at hexec
        have hdoes := State.decideLate_disputed (s := s.counted i) (code := d.authCode) haccepted
        rw [hl] at hdoes
        exact ⟨_, hexec, hdoes⟩
      · rw [happroved] at hexec
        have hdoes := State.decideLate_unclaimed (s := s.counted i) (code := d.authCode) haccepted
        rw [hl] at hdoes
        obtain ⟨hkept, hsession, hjoined, hfull⟩ := hdoes
        have halike : s.NoticesAlike (s.counted i) := ⟨rfl, rfl, rfl, rfl, rfl, rfl⟩
        have hoffer := halike.offerNotice (.adviceFull d.ref 0)
        refine ⟨_, hexec, hkept, hsession, hjoined, fun hroom => ?_⟩
        obtain ⟨hadvice, hnotices, hqueue⟩ := hfull hroom
        exact ⟨hadvice, hnotices.trans hoffer.notices, hoffer.queue ▸ hqueue⟩
      · rw [hexec, hdeclined]
        simp only [State.decideLate, haccepted, hl]
        rfl

end Sys2Proof.Machine
end

section
/-! ### Checkpoints (R207, R165) -/

namespace Sys2Proof.Machine

open Sys2Proof

section
variable {s : State}

theorem State.beginCheckpoint_sameBut (s : State) (o : Option Ref) :
    s.sameBut [.power, .acct, .writes] (s.beginCheckpoint o) := by
  intro p hp
  cases p <;> simp_all [Part.same]

/-- A checkpoint begun while HIRED in RUN restarts its timer (R207). -/
theorem State.beginCheckpoint_restarts (o : Option Ref) (hrun : s.power.state = .run)
    (hhired : s.meter.state = .hired) : (s.beginCheckpoint o).power.checkpoint = .running 60 := by
  simp [State.beginCheckpoint, State.restartCheckpointTimer, State.beginCarrying, State.begin, hrun,
    hhired]

theorem checkpoint_report?_eq_none {r : SaveRecord} {a : Nat} {c : ShiftCarry} {o : Totals}
    {x : Option Ref} (h : c.report = false) : (StoreWrite.checkpoint r a c o x).report? = none := by
  simp [StoreWrite.report?, StoreWrite.carry?, h]

/-- A checkpoint that no held request waits for is stored, and nothing else happens. -/
theorem exec_checkpointComplete_stored {r : SaveRecord} {a : Nat} {c : ShiftCarry} {o : Totals}
    {rest : List StoreWrite} (hpowered : s.powered = true)
    (hw : s.writes = .checkpoint r a c o none :: rest) (hreport : c.report = false) :
    exec .checkpointComplete s = .next (s.afterWrite (.checkpoint r a c o none) rest) := by
  refine congrArg Host.Outcome.next ((State.whenPowered_of _ hpowered).trans ?_)
  rw [State.takeWrite_head _ hw rfl rfl (checkpoint_report?_eq_none hreport)]
  rfl

/-- A checkpoint that an authorization request waits for is stored, and the request released. -/
theorem exec_checkpointComplete_released {r : SaveRecord} {a : Nat} {c : ShiftCarry} {o : Totals}
    {rest : List StoreWrite} {x : Ref} (hpowered : s.powered = true)
    (hw : s.writes = .checkpoint r a c o (some x) :: rest) (hreport : c.report = false) :
    exec .checkpointComplete s =
      .next ((s.afterWrite (.checkpoint r a c o (some x)) rest).releaseHeld x) := by
  refine congrArg Host.Outcome.next ((State.whenPowered_of _ hpowered).trans ?_)
  rw [State.takeWrite_head _ hw rfl rfl (checkpoint_report?_eq_none hreport)]
  rfl

/-- A held request joins the front queue, and its authorization timer starts (R165). -/
theorem State.releaseHeld_of {request : StampedReq} {m : NodeAddr} (hheld : s.pay.held = some request)
    (hm : s.holder .modem = some m) (haccepts : s.accepts .front = true) :
    s.releaseHeld request.ref =
      { (s.modPort .front fun p => { p with queue := p.queue ++ [.own .front m (.payReq request)] }) with
        pay := { s.pay with held := none, auth := .running s.tables.payLimits.authTime } } := by
  simp only [State.releaseHeld, hheld, if_true, State.offerRole_of (.payReq request) hm haccepts]
  rfl

end

/-- Settles O59: the timer's expiry begins the checkpoint of the moment; its completion is the store's write
of it, and the request it was begun for is then offered. -/
theorem checkpointsAreTaken : Obligations.CheckpointsAreTaken := by
  intro s
  refine ⟨fun n hrun htimer => ?_, fun r a c o rest hpowered hw hreport => ?_,
    fun r a c o rest request m hpowered hw hreport hheld hm haccepts => ?_⟩
  · have hpowered : s.powered = true := by simp [State.powered, hrun]
    have hexec : exec .checkpointTimerExpiry s = .next s.beginCheckpoint :=
      exec_powered_of hpowered rfl (by simp only [htimer, hrun, if_true])
    exact ⟨_, _, hexec, s.beginCheckpoint_sameBut none, s.beginCheckpoint_acct none,
      s.beginCheckpoint_writes none, rfl, rfl, rfl, State.beginCheckpoint_restarts none hrun⟩
  · refine ⟨_, exec_checkpointComplete_stored hpowered hw hreport, ?_, rfl, rfl, rfl, rfl, rfl, rfl, rfl⟩
    intro p hp
    cases p <;> simp_all [Part.same, State.afterWrite]
  · refine ⟨_, (exec_checkpointComplete_released hpowered hw hreport).trans
      (congrArg Host.Outcome.next (State.releaseHeld_of (m := m) hheld hm haccepts)), ?_, rfl, rfl⟩
    intro p hp
    cases p <;> simp_all [Part.same, State.afterWrite, State.modPort]

end Sys2Proof.Machine
end

section
/-! ### Shifts (R180, R181, R188) -/

namespace Sys2Proof.Machine

open Sys2Proof

section
variable {s : State} {rq : Req}

/-! #### Opening -/

/-- The accounting with a shift newly open (R180). -/
def State.shiftOpened (s : State) (driver : Nat) : Accounting :=
  { s.acct with
    lastNumber := s.acct.lastNumber + 1
    shift := ⟨some (.opening (s.acct.lastNumber + 1) driver s.tables.power.shiftLimit s.now), false⟩ }

theorem State.openShift_eq (driver : Nat) (h : s.acct.lastNumber < 4294967295) :
    s.openShift rq driver =
      State.beginCarrying { s with acct := s.shiftOpened driver }
        (.shiftOpen (s.shiftOpened driver).carry rq (s.acct.lastNumber + 1)) := by
  have hcount : count32 (s.acct.lastNumber + 1) = s.acct.lastNumber + 1 := by
    have hle : s.acct.lastNumber + 1 ≤ max32 := h
    rw [count32, if_pos hle]
  simp only [State.openShift, hcount, State.shiftOpened]

theorem State.shiftOpenRefusal_badValue {driver : Nat} (h : driver = 0 ∨ max16 < driver) :
    s.shiftOpenRefusal driver = some .badValue := by
  rw [State.shiftOpenRefusal, if_pos h]

theorem State.shiftOpenRefusal_none {driver : Nat} (hlow : 1 ≤ driver) (hhigh : driver ≤ 65535)
    (hoff : s.meter.state = .offDuty) (hnone : s.acct.shift.record = none) :
    s.shiftOpenRefusal driver = none := by
  have hrange : ¬(driver = 0 ∨ max16 < driver) := by
    simp only [max16]
    omega
  rw [State.shiftOpenRefusal, if_neg hrange]
  simp [hoff, hnone]

theorem State.decideShiftOpen_refused {driver : Nat} {r : ConsoleResult} (hrun : s.power.state = .run)
    (h : s.shiftOpenRefusal driver = some r) :
    s.decideShiftOpen rq driver = s.consoleRespond rq .shiftOpen r := by
  simp only [State.decideShiftOpen, State.whenRun_of _ hrun, h]

theorem State.decideShiftOpen_opens {driver : Nat} (hrun : s.power.state = .run)
    (h : s.shiftOpenRefusal driver = none) : s.decideShiftOpen rq driver = s.openShift rq driver := by
  simp only [State.decideShiftOpen, State.whenRun_of _ hrun, h]

/-! #### Closing -/

theorem State.decideShiftClose_noShift (hrun : s.power.state = .run) (h : s.acct.shift.record = none) :
    s.decideShiftClose rq = s.consoleRespond rq .shiftClose .noShift := by
  simp [State.decideShiftClose, State.whenRun_of _ hrun, h]

theorem State.decideShiftClose_refused {r : ShiftRecord} (hrun : s.power.state = .run)
    (h : s.acct.shift.record = some r) (hopen : s.meter.state = .hired ∨ s.meter.state = .pay) :
    s.decideShiftClose rq = s.consoleRespond rq .shiftClose .refusedState := by
  simp [State.decideShiftClose, State.whenRun_of _ hrun, h, hopen]

theorem State.decideShiftClose_closes {r : ShiftRecord} (hrun : s.power.state = .run)
    (h : s.acct.shift.record = some r) (hopen : ¬(s.meter.state = .hired ∨ s.meter.state = .pay)) :
    s.decideShiftClose rq = s.closeShift rq := by
  simp [State.decideShiftClose, State.whenRun_of _ hrun, h, hopen]

/-- The last shift record as SHIFT_CLOSE leaves it (R181). -/
def State.closedLast (s : State) (r : ShiftRecord) : LastShift :=
  ⟨{ r with closed := s.now, pendingAdvice := s.pay.advice.length }, .notSent, .notSent⟩

/-- The state in which the open record has become the last one, its update begun (R181). -/
def State.shiftClosed (s : State) (rq : Req) (r : ShiftRecord) : State :=
  State.beginCarrying { s with acct := { s.acct with shift := .none, last := some (s.closedLast r) } }
    (.shiftClose ⟨.none, s.acct.lastNumber, some (s.closedLast r), false⟩ s.acct.totalsNow s.now rq
      r.number)

theorem State.closeShift_of_offDuty {r : ShiftRecord} (hoff : s.meter.state = .offDuty)
    (h : s.acct.shift.record = some r) : s.closeShift rq = s.shiftClosed rq r := by
  have hvacant : ¬s.meter.state = .vacant := by simp [hoff]
  simp only [State.closeShift, if_neg hvacant, h]
  rfl

theorem State.closeShift_of_vacant {r : ShiftRecord} (hvacant : s.meter.state = .vacant)
    (h : s.acct.shift.record = some r) :
    s.closeShift rq = (s.setMeterState .offDuty).shiftClosed rq r := by
  obtain ⟨b, hacct⟩ := s.setMeterState_acct .offDuty
  have hrecord : (s.setMeterState .offDuty).acct.shift.record = some r := by rw [hacct, h]
  simp only [State.closeShift, if_pos hvacant, hrecord]
  rfl

/-- A change of the meter state begins one checkpoint, of the new state (R207). -/
theorem State.setMeterState_writes (s : State) (m : MeterState) :
    (s.setMeterState m).writes =
      s.writes ++ [.checkpoint { s.saveRecord with meter := m } s.meter.lastAssigned s.acct.carry
        s.acct.totalsNow none] := by
  unfold State.setMeterState
  simp only [State.markViews_keeps, State.beginCheckpoint_writes]
  split <;> simp [State.saveRecord, State.savedTrip, State.now, State.recompose_sign]

/-- A SHIFT_CLOSE in VACANT, from OFF_DUTY on: the checkpoint of that state and the update follow one
another. -/
theorem State.shiftClosed_of_vacant (r : ShiftRecord) :
    let t := (s.setMeterState .offDuty).shiftClosed rq r
    t.meter.state = .offDuty ∧ t.acct.shift = ⟨none, false⟩ ∧ t.acct.last = some (s.closedLast r)
      ∧ t.writes = s.writes ++
        [.checkpoint { s.saveRecord with meter := .offDuty } s.meter.lastAssigned s.acct.carry
            s.acct.totalsNow none,
          .shiftClose ⟨⟨none, false⟩, s.acct.lastNumber, some (s.closedLast r), false⟩
            s.acct.totalsNow s.now rq r.number] := by
  intro t
  obtain ⟨b, hacct⟩ := s.setMeterState_acct .offDuty
  have hlast : (s.setMeterState .offDuty).closedLast r = s.closedLast r := by
    simp [State.closedLast, State.now]
  have htotals : (s.setMeterState .offDuty).acct.totalsNow = s.acct.totalsNow := by
    rw [hacct]
    rfl
  have hnow : (s.setMeterState .offDuty).now = s.now := by simp [State.now]
  refine ⟨?_, rfl, congrArg some hlast, ?_⟩
  · exact (s.setMeterState_core .offDuty).1
  · have hnumber : (s.setMeterState .offDuty).acct.lastNumber = s.acct.lastNumber := by rw [hacct]
    have hwrites : t.writes = (s.setMeterState .offDuty).writes ++
        [.shiftClose ⟨⟨none, false⟩, (s.setMeterState .offDuty).acct.lastNumber,
          some ((s.setMeterState .offDuty).closedLast r), false⟩
          (s.setMeterState .offDuty).acct.totalsNow (s.setMeterState .offDuty).now rq r.number] := rfl
    rw [hwrites, hlast, htotals, hnow, hnumber, State.setMeterState_writes, List.append_assoc]
    rfl

/-! #### The report -/

/-- A report to an available role with room for two more frames offers both parts (R188). -/
theorem State.reportTo_of {r : Role} {a : NodeAddr} (x : ShiftRecord) (m : ReportMark)
    (ha : s.holder r = some a) (havailable : s.available r = true)
    (hrun : (s.port (roleSeg r)).running = true) (hroom : (s.port (roleSeg r)).queue.length ≤ 22) :
    s.reportTo r x m =
      (s.modPort (roleSeg r) fun p =>
        { p with
          queue := p.queue ++
            [.own (roleSeg r) a (.shiftReport x.number 1 (.part1 x.part1)),
              .own (roleSeg r) a (.shiftReport x.number 2 (.part2 x.part2))] },
        .offered) := by
  have hfirst : s.accepts (roleSeg r) = true := by
    simp only [State.accepts, hrun, Bool.true_and, decide_eq_true_eq]
    omega
  obtain ⟨u, hu⟩ : ∃ u, u = s.modPort (roleSeg r) fun p =>
    { p with queue := p.queue ++ [.own (roleSeg r) a (.shiftReport x.number 1 (.part1 x.part1))] } :=
    ⟨_, rfl⟩
  have hone : s.offerRole r (.shiftReport x.number 1 (.part1 x.part1)) = (u, true) :=
    (State.offerRole_of _ ha hfirst).trans (by rw [hu])
  have hsecond : u.accepts (roleSeg r) = true := by
    rw [hu, State.accepts, State.port_modPort]
    simp only [hrun, Bool.true_and, decide_eq_true_eq, List.length_append, List.length_singleton]
    omega
  have hheld : u.holder r = some a := (State.holder_congr (by simp [hu]) r).trans ha
  simp only [State.reportTo, havailable, if_true, hone, State.offerRole_of _ hheld hsecond,
    Bool.and_self]
  rw [hu, State.modPort_modPort]
  simp only [List.append_assoc, List.cons_append, List.nil_append]

theorem State.reportTo_unavailable {r : Role} (x : ShiftRecord) (m : ReportMark)
    (h : s.available r = false) : s.reportTo r x m = (s, m) := by
  simp [State.reportTo, h]

theorem State.reportTo_grows (s : State) (r : Role) (x : ShiftRecord) (m : ReportMark) :
    s.grows (s.reportTo r x m).1 := by
  unfold State.reportTo
  split
  · exact State.grows_trans (State.offerRole_grows ..) (State.offerRole_grows ..)
  · exact s.grows_refl

theorem State.reportShift_grows (s : State) (l : LastShift) : s.grows (s.reportShift l) := by
  obtain ⟨x, hx⟩ : ∃ x, x = s.closedCopy l := ⟨_, rfl⟩
  have hconsole := s.reportTo_grows .console x.record x.console
  have hmodem := (s.reportTo .console x.record x.console).1.reportTo_grows .modem x.record x.modem
  simp only [State.reportShift, ← hx]
  exact State.grows_trans (State.grows_trans hconsole hmodem) (State.grows_of_link (by rfl))

theorem State.reportShift_sameBut (s : State) (l : LastShift) :
    s.sameBut [.link, .acct] (s.reportShift l) := by
  intro p hp
  cases p <;> simp_all [Part.same]

theorem shiftClose_report?_eq_none {c : ShiftCarry} {totals : Totals} {time n : Nat}
    (h : c.report = false) : (StoreWrite.shiftClose c totals time rq n).report? = none := by
  simp [StoreWrite.report?, StoreWrite.carry?, h]

/-- The state in which a SHIFT_CLOSE whose update is complete has been answered (R181). -/
def State.closeAnswered (s : State) (w : StoreWrite) (rest : List StoreWrite) (rq : Req) (n : Nat) :
    State :=
  (s.afterWrite w rest).consoleRespond rq .shiftClose .accepted (.shift n)

/-- The close of a shift that carries its record is answered, and then reported (R188). -/
theorem exec_shiftCloseUpdateComplete_reports {c : ShiftCarry} {totals : Totals} {time n : Nat}
    {rest : List StoreWrite} {l : LastShift} (hpowered : s.powered = true)
    (hw : s.writes = .shiftClose c totals time rq n :: rest) (hreport : c.report = false)
    (hlast : c.last = some l) :
    exec .shiftCloseUpdateComplete s =
      .next ((s.closeAnswered (.shiftClose c totals time rq n) rest rq n).reportShift l) := by
  refine congrArg Host.Outcome.next ((State.whenPowered_of _ hpowered).trans ?_)
  rw [State.takeWrite_head _ hw rfl rfl (shiftClose_report?_eq_none hreport)]
  simp only [hlast]
  rfl

/-- A write of a close that carries no record is answered only. -/
theorem exec_shiftCloseUpdateComplete_answers {c : ShiftCarry} {totals : Totals} {time n : Nat}
    {rest : List StoreWrite} (hpowered : s.powered = true)
    (hw : s.writes = .shiftClose c totals time rq n :: rest) (hreport : c.report = false)
    (hlast : c.last = none) :
    exec .shiftCloseUpdateComplete s =
      .next (s.closeAnswered (.shiftClose c totals time rq n) rest rq n) := by
  refine congrArg Host.Outcome.next ((State.whenPowered_of _ hpowered).trans ?_)
  rw [State.takeWrite_head _ hw rfl rfl (shiftClose_report?_eq_none hreport)]
  simp only [hlast]
  rfl

/-- The answered close stores its record and totalizers, and its answer joins the front queue. -/
theorem State.closeAnswered_does {c : ShiftCarry} {totals : Totals} {time n : Nat}
    (rest : List StoreWrite) (hrun : s.link.front.running = true)
    (hconsole : s.holder .console = some rq.src) :
    let u := s.closeAnswered (.shiftClose c totals time rq n) rest rq n
    u.writes = rest ∧ u.store.shift = c.shift ∧ u.store.totals = totals
      ∧ s.sameBut [.link, .store, .writes, .acct] u
      ∧ offeredTo u.link.front.queue (consoleAnswer rq .shiftClose .accepted (.shift n)) := by
  intro u
  let w : StoreWrite := .shiftClose c totals time rq n
  have hheld : (s.afterWrite w rest).holder .console = some rq.src := hconsole
  have hfront : u = _ := State.consoleRespond_front .shiftClose .accepted (.shift n) hheld hrun
  rw [hfront]
  refine ⟨rfl, rfl, rfl, fun p hp => ?_, offeredTo_joined ..⟩
  cases p <;> simp_all [Part.same, State.afterWrite]

/-- What an answered close did, its report keeps. -/
theorem State.reportShift_answered {u : State} {c : ShiftCarry} {totals : Totals}
    {rest : List StoreWrite} {f : Frame} (l : LastShift)
    (h : u.writes = rest ∧ u.store.shift = c.shift ∧ u.store.totals = totals
      ∧ s.sameBut [.link, .store, .writes, .acct] u ∧ offeredTo u.link.front.queue f) :
    (u.reportShift l).writes = rest ∧ (u.reportShift l).store.shift = c.shift
      ∧ (u.reportShift l).store.totals = totals
      ∧ s.sameBut [.link, .store, .writes, .acct] (u.reportShift l)
      ∧ offeredTo (u.reportShift l).link.front.queue f := by
  obtain ⟨hwrites, hshift, htotals, hsame, hoffered⟩ := h
  exact ⟨by simp [hwrites], by simp [hshift], by simp [htotals],
    sameBut_trans hsame (sameBut_mono (u.reportShift_sameBut l) (by decide)),
    offeredTo_of_grows (u.reportShift_grows l) hoffered⟩

/-- With no modem the report of the last shift goes to the console only (R188). -/
theorem State.reportShift_console {l : LastShift} {a : NodeAddr} (ha : s.holder .console = some a)
    (havailable : s.available .console = true) (hmodem : s.available .modem = false)
    (hrun : s.link.front.running = true) (hroom : s.link.front.queue.length ≤ 22)
    (hlast : s.acct.last = some l) :
    (s.reportShift l).link.front.queue = s.link.front.queue ++
        [.own .front a (.shiftReport l.record.number 1 (.part1 l.record.part1)),
          .own .front a (.shiftReport l.record.number 2 (.part2 l.record.part2))]
      ∧ (s.reportShift l).acct.last = some { l with console := .offered } := by
  have hcopy : s.closedCopy l = l := by simp [State.closedCopy, hlast, Option.filter]
  have hfront := State.reportTo_of (r := .console) l.record l.console ha havailable hrun hroom
  have hnone : (s.reportTo .console l.record l.console).1.available .modem = false := by
    rw [hfront, ← hmodem]
    exact State.available_congr (by simp) (by rfl) .modem
  have hrear : (s.reportTo .console l.record l.console).1.reportTo .modem l.record l.modem =
      ((s.reportTo .console l.record l.console).1, l.modem) :=
    State.reportTo_unavailable l.record l.modem hnone
  simp only [State.reportShift, hcopy, hrear]
  rw [hfront]
  refine ⟨rfl, ?_⟩
  simp [State.modPort, Accounting.markReport, hlast, roleSeg]

/-- A close with a present console, no modem and room for three frames: the answer and both parts of the
report follow one another (R181, R188). -/
theorem shiftClose_reported {c : ShiftCarry} {totals : Totals} {time n : Nat} {rest : List StoreWrite}
    {l : LastShift} (hpowered : s.powered = true) (hfront : s.link.front.running = true)
    (hconsole : s.holder .console = some rq.src) (hpresent : s.presence rq.src = .present)
    (hmodem : s.available .modem = false) (hw : s.writes = .shiftClose c totals time rq n :: rest)
    (hreport : c.report = false) (hlast : c.last = some l) (hacct : s.acct.last = some l)
    (hroom : s.link.front.queue.length ≤ 21) :
    ∃ t, exec .shiftCloseUpdateComplete s = .next t
      ∧ t.link.front.queue = s.link.front.queue ++
        [consoleAnswer rq .shiftClose .accepted (.shift n),
          .own .front rq.src (.shiftReport l.record.number 1 (.part1 l.record.part1)),
          .own .front rq.src (.shiftReport l.record.number 2 (.part2 l.record.part2))]
      ∧ t.acct.last = some { l with console := .offered } := by
  have hheld : (s.afterWrite (.shiftClose c totals time rq n) rest).holder .console = some rq.src :=
    hconsole
  let u := s.closeAnswered (.shiftClose c totals time rq n) rest rq n
  have hanswered : u = _ := State.consoleRespond_front .shiftClose .accepted (.shift n) hheld hfront
  have hqueue : u.link.front.queue =
      s.link.front.queue ++ [consoleAnswer rq .shiftClose .accepted (.shift n)] := by
    rw [hanswered]
    exact if_pos (Nat.lt_of_le_of_lt hroom (by decide))
  have hsame (r : Role) : u.available r = s.available r :=
    State.available_congr (by simp [u, State.closeAnswered, State.afterWrite])
      (by simp [u, State.closeAnswered, State.afterWrite]) r
  have hspace : u.link.front.queue.length ≤ 22 := by
    rw [hqueue, List.length_append, List.length_singleton]
    omega
  obtain ⟨hboth, hmark⟩ := State.reportShift_console (s := u) (l := l) (a := rq.src)
    (by rw [hanswered]; exact hconsole) ((hsame .console).trans (State.available_of hconsole hpresent))
    ((hsame .modem).trans hmodem) (by rw [hanswered]; exact hfront) hspace
    (by rw [hanswered]; exact hacct)
  refine ⟨_, exec_shiftCloseUpdateComplete_reports hpowered hw hreport hlast, ?_, hmark⟩
  rw [hboth, hqueue, List.append_assoc]
  rfl

end

/-- Settles O55: SHIFT_OPEN and SHIFT_CLOSE by their checks, and the completed close by its answer and the
report to the console. -/
theorem shiftsOpenAndClose : Obligations.ShiftsOpenAndClose := by
  intro rq s
  refine ⟨fun driver h hrun hlow hhigh hoff hnone hcount => ?_, fun driver h hrun hrange => ?_,
    fun h hrun hnone => ?_, fun r h hrun hr hopen => ?_, fun r h hrun hr hoff => ?_,
    fun r h hrun hr hvacant => ?_,
    fun c totals time n rest l hpowered hfront hconsole hpresent hmodem hw hreport hlast hacct hroom => ?_,
    fun c totals time n rest hpowered hfront hconsole hw hreport => ?_⟩
  · refine ⟨_, _, exec_console_of h rfl ((State.decideShiftOpen_opens hrun
        (State.shiftOpenRefusal_none hlow hhigh hoff hnone)).trans (State.openShift_eq driver hcount)),
      fun p hp => ?_, rfl, rfl, rfl, rfl, rfl, rfl, rfl, rfl, s.shiftOpened driver, rfl, rfl, rfl⟩
    cases p <;> simp_all [Part.same]
  · exact console_answered h rfl
      (State.decideShiftOpen_refused hrun (State.shiftOpenRefusal_badValue hrange))
  · exact console_answered h rfl (State.decideShiftClose_noShift hrun hnone)
  · exact console_answered h rfl (State.decideShiftClose_refused hrun hr ((State.tripOpen_iff s).1 hopen))
  · have hclosed : ¬(s.meter.state = .hired ∨ s.meter.state = .pay) := by simp [hoff]
    refine ⟨_, _, exec_console_of h rfl ((State.decideShiftClose_closes hrun hr hclosed).trans
        (State.closeShift_of_offDuty hoff hr)), fun p hp => ?_, rfl, rfl, rfl, rfl⟩
    cases p <;> simp_all [Part.same, State.shiftClosed]
  · have hclosed : ¬(s.meter.state = .hired ∨ s.meter.state = .pay) := by simp [hvacant]
    obtain ⟨hstate, hshift, hlast, hwrites⟩ := State.shiftClosed_of_vacant (s := s) (rq := rq) r
    exact ⟨_, _, exec_console_of h rfl ((State.decideShiftClose_closes hrun hr hclosed).trans
      (State.closeShift_of_vacant hvacant hr)), hstate, hshift, hlast, rfl, hwrites⟩
  · exact shiftClose_reported hpowered hfront hconsole hpresent hmodem hw hreport hlast hacct hroom
  · have hdone := State.closeAnswered_does (c := c) (totals := totals) (time := time) (n := n) rest
      hfront hconsole
    cases hlast : c.last with
    | none => exact ⟨_, exec_shiftCloseUpdateComplete_answers hpowered hw hreport hlast, hdone⟩
    | some l =>
      exact ⟨_, exec_shiftCloseUpdateComplete_reports hpowered hw hreport hlast,
        State.reportShift_answered l hdone⟩

end Sys2Proof.Machine
end

section
/-! ### The shift limit and the reported-through number (R183, R192) -/

namespace Sys2Proof.Machine

open Sys2Proof

section
variable {s : State} {r : ShiftRecord}

/-! #### SHIFT_LIMIT -/

/-- The state in which SHIFT_LIMIT is set and noticed, before the meter is told (R183). -/
def State.limitNoticed (s : State) (r : ShiftRecord) : State :=
  State.offerNotice { s with acct := { s.acct with shift := { s.acct.shift with limitSet := true } } }
    (.shiftLimit r.number r.elapsed)

theorem State.setLimit_eq (h : s.acct.shift.record = some r) :
    s.setLimit = (s.limitNoticed r).limitTold.trigger .shiftLimit := by
  simp only [State.setLimit, h, State.limitNoticed]

theorem State.limitReached_of (h : s.acct.shift.record = some r) (hclear : s.acct.shift.limitSet = false)
    (hlimit : r.limit ≠ 0) (helapsed : r.limit * 60 ≤ r.elapsed) : s.limitReached = true := by
  simp [State.limitReached, h, hclear, hlimit, helapsed]

theorem State.limitNoticed_noticed (s : State) (r : ShiftRecord) :
    s.noticed (s.limitNoticed r) (.shiftLimit r.number r.elapsed) :=
  State.noticed_offerNotice (s := s)
    (u := { s with acct := { s.acct with shift := { s.acct.shift with limitSet := true } } })
    ⟨rfl, rfl, rfl, rfl, rfl, rfl⟩ _

@[simp] theorem State.limitNoticed_keeps (s : State) (r : ShiftRecord) :
    (s.limitNoticed r).acct = { s.acct with shift := { s.acct.shift with limitSet := true } }
      ∧ (s.limitNoticed r).notices.nextSeq = (s.notices.nextSeq + 1) % 65536
      ∧ (s.limitNoticed r).meter = s.meter ∧ (s.limitNoticed r).power = s.power
      ∧ (s.limitNoticed r).pins = s.pins ∧ (s.limitNoticed r).tables = s.tables
      ∧ (s.limitNoticed r).time = s.time := by
  simp [State.limitNoticed]

theorem State.limitTold_grows (s : State) : s.grows s.limitTold := by
  unfold State.limitTold
  split
  · exact s.setMeterState_grows .offDuty
  · exact s.grows_refl

/-- SHIFT_LIMIT makes a VACANT meter OFF_DUTY; the trip stays, and of the accounting and the power all but
the mark of an unwritten shift and the checkpoint timer (R98). -/
theorem State.limitTold_does (s : State) :
    s.limitTold.meter.state = (if s.meter.state = .vacant then .offDuty else s.meter.state)
      ∧ s.limitTold.meter.trip = s.meter.trip
      ∧ (∃ b, s.limitTold.acct = { s.acct with unwritten := b })
      ∧ ∃ c, s.limitTold.power = { s.power with checkpoint := c } := by
  unfold State.limitTold
  split
  · have hmeter := s.setMeterState_meter .offDuty
    exact ⟨(s.setMeterState_core .offDuty).1, by rw [hmeter], s.setMeterState_acct .offDuty,
      s.setMeterState_power .offDuty⟩
  · exact ⟨rfl, rfl, ⟨s.acct.unwritten, rfl⟩, s.power.checkpoint, rfl⟩

/-- What setting SHIFT_LIMIT does, in every power state (R183). -/
theorem State.setLimit_does (h : s.acct.shift.record = some r) :
    s.setLimit.acct.shift = ⟨some r, true⟩
      ∧ s.setLimit.notices.nextSeq = (s.notices.nextSeq + 1) % 65536
      ∧ s.noticed s.setLimit (.shiftLimit r.number r.elapsed)
      ∧ s.setLimit.meter.state = (if s.meter.state = .vacant then .offDuty else s.meter.state)
      ∧ s.setLimit.meter.trip = s.meter.trip
      ∧ ∃ c, s.setLimit.power = { s.power with checkpoint := c } := by
  rw [State.setLimit_eq h]
  obtain ⟨hstate, htrip, ⟨b, hacct⟩, c, hpower⟩ := (s.limitNoticed r).limitTold_does
  have hgrows := (s.limitNoticed r).limitTold_grows
  refine ⟨?_, ?_, ?_, ?_, ?_, c, ?_⟩
  · simp [hacct, h]
  · simp
  · exact State.noticed_of_grows (s.limitNoticed_noticed r) (by simp)
      (State.grows_trans hgrows (State.trigger_grows _ _))
  · simp [hstate]
  · simp [htrip]
  · simp [hpower]

/-- In RUN, with no park delay waiting, the limit is set and nothing is woken. -/
theorem exec_shiftLimitReached_run (hrun : s.power.state = .run) (hpark : s.power.park ≠ .waiting)
    (h : s.acct.shift.record = some r) (hreached : s.limitReached = true) :
    exec .shiftLimitReached s = .next s.setLimit := by
  have hpowered : s.powered = true := by simp [State.powered, hrun]
  obtain ⟨-, -, -, -, -, c, hpower⟩ := State.setLimit_does h
  have hawake : s.setLimit.wakeBy .shiftLimit = s.setLimit := by simp [State.wakeBy, hpower, hrun]
  refine exec_powered_of hpowered rfl ?_
  rw [if_pos hreached, hawake]
  exact State.parkCheck_of_park (by simp [hpower, hpark])

/-! #### ACK_TRIPS -/

theorem State.clampAck_of {x : TripRecord} (n : Nat) (h : s.store.log.getLast? = some x) :
    s.clampAck n = min n x.number := by
  have hne : s.store.log ≠ [] := fun hnil => by simp [hnil] at h
  simp [State.clampAck, hne, newestTrip, h]

theorem State.decideAckTrips_raises {rq : Req} {n : Nat} (h : s.fromMgmt .ackTrips rq)
    (hraises : s.acct.reportedThrough < s.clampAck n) :
    s.decideAckTrips rq n =
      State.begin { s with acct := { s.acct with reportedThrough := s.clampAck n } }
        (.ackTrips (s.clampAck n) (unreported (s.clampAck n) s.store.log).length rq) := by
  rw [State.decideAckTrips, State.whenAllowed_of _ _ h.2.2, if_pos hraises]

theorem State.decideAckTrips_stands {rq : Req} {n : Nat} (h : s.fromMgmt .ackTrips rq)
    (hstands : ¬s.acct.reportedThrough < s.clampAck n) :
    s.decideAckTrips rq n =
      s.mgmtRespond rq .ackTrips .none .ok
        (.trips s.acct.reportedThrough (unreported s.acct.reportedThrough s.store.log).length) := by
  rw [State.decideAckTrips, State.whenAllowed_of _ _ h.2.2, if_neg hstands]

end

/-- Settles O56: the limit is set, noticed and told to the meter; an ACK_TRIPS is clamped to the log and
raises the number or is answered at once. -/
theorem limitAndReportsAreKept : Obligations.LimitAndReportsAreKept := by
  refine ⟨fun r s hrun hpark h hclear hlimit helapsed => ?_, fun rq n x s h hlog => ?_⟩
  · obtain ⟨hshift, hseq, hnoticed, hstate, htrip, c, hpower⟩ := State.setLimit_does h
    exact ⟨_, exec_shiftLimitReached_run hrun hpark h (State.limitReached_of h hclear hlimit helapsed),
      by rw [hshift], by rw [hshift], hseq, hnoticed, hstate, htrip, by rw [hpower, hrun]⟩
  · rw [← State.clampAck_of n hlog]
    refine ⟨fun hraises => ?_, fun hstands => ?_⟩
    · refine ⟨_, _, exec_mgmt_of h rfl (State.decideAckTrips_raises h hraises), fun p hp => ?_, rfl, rfl,
        rfl⟩
      cases p <;> simp_all [Part.same, State.begin]
    · have hanswer := State.answer_mgmtRespond h.2.1 (State.front_running_of_fromMgmt h) .ackTrips .none
        .ok (.trips s.acct.reportedThrough (unreported s.acct.reportedThrough s.store.log).length)
      exact ⟨_, _, exec_mgmt_of h rfl (State.decideAckTrips_stands h (Nat.not_lt.2 hstands)), hanswer⟩

end Sys2Proof.Machine
end

section
/-! ### While no role is available (R8, R39) -/

namespace Sys2Proof.Machine

open Sys2Proof

/-- No role is available and no node LOST, as right after the ports start (R22). -/
structure State.unserved (s : State) : Prop where
  available : ∀ r, s.available r = false
  presence : ∀ a, s.presence a ≠ .lost

/-- The queue holds the notice under a number, and it waits for the modem (R39). -/
def NoticeQueue.waitsForModem (q : NoticeQueue) (seq : Nat) (n : Notice) : Prop :=
  ∃ e ∈ q.entries, e.seq = seq ∧ e.notice = n ∧ e.modem = .pending

/-- All that blocks do while no role is available: a drain attempt skips routes, a session and the views
that follow it move on, the load window closes and the monitor pauses. -/
structure State.idles (s t : State) : Prop where
  same : s.sameBut [.notices, .mgmt, .meter, .intercom, .pay] t
  meter : s.meter.sameButViews t.meter
  holdoff : ∀ d, (t.viewState d).holdoff = (s.viewState d).holdoff
  mark : ∀ d, (s.viewState d).mark = true → (t.viewState d).mark = true
  run : t.intercom.run = s.intercom.run
  nextSeq : t.notices.nextSeq = s.notices.nextSeq
  waits : ∀ seq n, s.rolePresence .modem = .probing → s.notices.waitsForModem seq n →
    t.notices.waitsForModem seq n

section
variable {s t u : State}

theorem State.idles_refl (s : State) : s.idles s :=
  ⟨sameBut_refl _ s, Meter.sameButViews_refl _, fun _ => rfl, fun _ => id, rfl, rfl, fun _ _ _ => id⟩

theorem State.idles.link (h : s.idles t) : t.link = s.link := h.same .link (by decide)

theorem State.idles.tables (h : s.idles t) : t.tables = s.tables := h.same .tables (by decide)

theorem State.idles.presence_eq (h : s.idles t) (a : NodeAddr) : t.presence a = s.presence a := by
  have hport : t.port a.seg = s.port a.seg := by
    unfold State.port
    rw [h.link]
  unfold State.presence
  rw [hport]

theorem State.idles.rolePresence_eq (h : s.idles t) (r : Role) : t.rolePresence r = s.rolePresence r :=
  State.rolePresence_congr h.tables h.presence_eq r

theorem State.idles.available_eq (h : s.idles t) (r : Role) : t.available r = s.available r :=
  congrArg (· == .present) (h.rolePresence_eq r)

theorem State.unserved.idles (hs : s.unserved) (h : s.idles t) : t.unserved :=
  ⟨fun r => (h.available_eq r).trans (hs.available r), fun a => h.presence_eq a ▸ hs.presence a⟩

theorem State.idles_trans (h : s.idles t) (h' : t.idles u) : s.idles u where
  same := sameBut_trans h.same h'.same
  meter := Meter.sameButViews_trans h.meter h'.meter
  holdoff d := (h'.holdoff d).trans (h.holdoff d)
  mark d hm := h'.mark d (h.mark d hm)
  run := h'.run.trans h.run
  nextSeq := h'.nextSeq.trans h.nextSeq
  waits seq n hm hw := h'.waits seq n ((h.rolePresence_eq .modem).trans hm) (h.waits seq n hm hw)

theorem State.ite_idles {p : Prop} [Decidable p] (h : s.idles t) (h' : s.idles u) :
    s.idles (if p then t else u) := by
  split
  · exact h
  · exact h'

/-! #### The drain -/

theorem State.drainRoute_unserved {r : Role} (h : s.available r = false) (e : NoticeEntry)
    (m : RouteMark) : (s.drainRoute r e m).1 = s ∧ (s.drainRoute r e m).2.2 = false := by
  have hpresent : s.rolePresence r ≠ .present := by simpa [State.available] using h
  unfold State.drainRoute
  split <;> simp_all

theorem State.drainHead_unserved (h : s.unserved) (e : NoticeEntry) :
    (s.drainHead e).1 = s ∧ (s.drainHead e).2.1.seq = e.seq ∧ (s.drainHead e).2.1.notice = e.notice
      ∧ (s.rolePresence .modem = .probing → e.modem = .pending →
        (s.drainHead e).2.1.modem = .pending) := by
  obtain ⟨hconsole, hrefused⟩ := State.drainRoute_unserved (h.available .console) e e.console
  unfold State.drainHead
  generalize s.drainRoute .console e e.console = x at hconsole hrefused ⊢
  obtain ⟨v, m, b⟩ := x
  obtain rfl : v = s := hconsole
  obtain rfl : b = false := hrefused
  refine ⟨(State.drainRoute_unserved (h.available .modem) e e.modem).1, rfl, rfl, fun hm he => ?_⟩
  simp [State.drainRoute, hm, he]

/-- A waiting entry still waits once another has been removed, or itself been looked at. -/
theorem NoticeQueue.waitsForModem_of_set {q : NoticeQueue} {i seq : Nat} {n : Notice} {e e' : NoticeEntry}
    (hi : q.entries[i]? = some e) (hseq : e'.seq = e.seq) (hnotice : e'.notice = e.notice)
    (hmodem : e.modem = .pending → e'.modem = .pending) (h : q.waitsForModem seq n) :
    NoticeQueue.waitsForModem { q with entries := q.entries.set i e' } seq n := by
  obtain ⟨x, hx, hxseq, hxnotice, hxmodem⟩ := h
  obtain ⟨j, hj⟩ := List.mem_iff_getElem?.1 hx
  by_cases hij : i = j
  · subst hij
    obtain rfl : e = x := Option.some.inj (hi.symm.trans hj)
    exact ⟨e', List.mem_set (List.getElem?_eq_some_iff.1 hi).1 e', hseq.trans hxseq,
      hnotice.trans hxnotice, hmodem hxmodem⟩
  · refine ⟨x, List.mem_iff_getElem?.2 ⟨j, ?_⟩, hxseq, hxnotice, hxmodem⟩
    rw [List.getElem?_set_ne hij, hj]

theorem NoticeQueue.waitsForModem_of_erase {q : NoticeQueue} {i seq : Nat} {n : Notice} {e : NoticeEntry}
    (hi : q.entries[i]? = some e) (hmodem : e.modem ≠ .pending) (h : q.waitsForModem seq n) :
    NoticeQueue.waitsForModem { q with entries := q.entries.eraseIdx i } seq n := by
  obtain ⟨x, hx, hxseq, hxnotice, hxmodem⟩ := h
  obtain ⟨j, hj⟩ := List.mem_iff_getElem?.1 hx
  have hij : j ≠ i := by
    rintro rfl
    obtain rfl : e = x := Option.some.inj (hi.symm.trans hj)
    exact hmodem hxmodem
  exact ⟨x, List.mem_eraseIdx_iff_getElem?.2 ⟨j, hij, hj⟩, hxseq, hxnotice, hxmodem⟩

/-- A change of the notice queue alone that keeps the next number and what waits for the modem. -/
theorem State.idles_notices {q : NoticeQueue} (hseq : q.nextSeq = s.notices.nextSeq)
    (hwaits : ∀ seq n, s.rolePresence .modem = .probing → s.notices.waitsForModem seq n →
      q.waitsForModem seq n) : s.idles { s with notices := q } where
  same p hp := by cases p <;> simp_all [Part.same]
  meter := Meter.sameButViews_refl _
  holdoff d := by cases d <;> rfl
  mark d := by cases d <;> exact id
  run := rfl
  nextSeq := hseq
  waits := hwaits

theorem State.drainLoop_idles (n : Nat) (h : s.unserved) : s.idles (s.drainLoop n) := by
  induction n generalizing s with
  | zero => exact s.idles_refl
  | succ n ih =>
    simp only [State.drainLoop]
    cases hi : s.notices.entries[s.notices.headIdx]? with
    | none => exact s.idles_refl
    | some e =>
      obtain ⟨hstate, hseq, hnotice, hmodem⟩ := State.drainHead_unserved h e
      simp only
      generalize s.drainHead e = x at hstate hseq hnotice hmodem ⊢
      obtain ⟨v, e', refused⟩ := x
      obtain rfl : v = s := hstate
      simp only at hseq hnotice hmodem ⊢
      split
      · exact State.idles_notices rfl fun _ _ hm =>
          NoticeQueue.waitsForModem_of_set hi hseq hnotice (hmodem hm)
      next hleaves =>
        have herased : v.idles { v with
            notices := { v.notices with entries := v.notices.entries.eraseIdx v.notices.headIdx } } :=
          State.idles_notices rfl fun _ _ hm => NoticeQueue.waitsForModem_of_erase hi fun he =>
            hleaves (by simp [hmodem hm he])
        exact State.idles_trans herased (ih (h.idles herased))

theorem State.drain_idles (h : s.unserved) : s.idles s.drain :=
  State.ite_idles (State.drainLoop_idles _ h) s.idles_refl

/-! #### Views, session and monitor -/

theorem State.tryView_unserved (h : s.unserved) (d : ViewDest) : s.tryView d = s := by
  simp [State.tryView, h.available (viewRole d)]

theorem State.setMarks_idles (s : State) : s.idles s.setMarks where
  same p hp := by cases p <;> simp_all [Part.same]
  meter := rfl
  holdoff d := by cases d <;> rfl
  mark d _ := by cases d <;> rfl
  run := rfl
  nextSeq := rfl
  waits _ _ _ := id

theorem State.markViews_unserved (h : s.unserved) : s.markViews = s.setMarks := by
  have hmarks := h.idles s.setMarks_idles
  rw [State.markViews, State.tryView_unserved hmarks, State.tryView_unserved hmarks]

theorem State.withSession_idles (s : State) (p : Payment) : s.idles { s with pay := p } where
  same p hp := by cases p <;> simp_all [Part.same]
  meter := rfl
  holdoff d := by cases d <;> rfl
  mark d := by cases d <;> exact id
  run := rfl
  nextSeq := rfl
  waits _ _ _ := id

theorem State.withIntercom_idles {i : Intercom} (h : i.run = s.intercom.run) :
    s.idles { s with intercom := i } where
  same p hp := by cases p <;> simp_all [Part.same]
  meter := rfl
  holdoff d := by cases d <;> rfl
  mark d := by cases d <;> exact id
  run := h
  nextSeq := rfl
  waits _ _ _ := id

theorem State.trigger_idles (s : State) (x : Trigger) : s.idles (s.trigger x) := by
  obtain ⟨q, d, hq⟩ := s.trigger_eq x
  exact hq ▸ State.withIntercom_idles rfl

theorem State.setSession_idles (h : s.unserved) (x : Session) : s.idles (s.setSession x) := by
  have hsession := s.withSession_idles { s.pay with session := x }
  refine State.ite_idles hsession ?_
  rw [State.markViews_unserved (h.idles hsession)]
  exact State.idles_trans hsession (State.setMarks_idles _)

theorem State.testInterlock_idles (h : s.unserved) : s.idles s.testInterlock :=
  State.ite_idles (State.idles_trans (State.setSession_idles h _) (State.trigger_idles _ _))
    s.idles_refl

theorem State.monitorPause_idles (s : State) : s.idles s.monitorPause :=
  State.ite_idles s.idles_refl (State.withIntercom_idles rfl)

theorem State.tryAdvice_unserved (h : s.unserved) : s.tryAdvice = s := by
  unfold State.tryAdvice
  split
  · rfl
  · simp [h.available .modem]

/-! #### A change of presence, and the start of the ports -/

theorem State.watchHolder_idles (old s : State) : s.idles (old.watchHolder s) := by
  unfold State.watchHolder
  split
  · refine State.ite_idles ⟨fun p hp => ?_, rfl, fun d => ?_, fun d => ?_, rfl, rfl, fun _ _ _ => id⟩
      s.idles_refl
    · cases p <;> simp_all [Part.same]
    · cases d <;> rfl
    · cases d <;> exact id
  · exact s.idles_refl

theorem State.viewAvailable_unserved (old : State) (h : s.unserved) (d : ViewDest) :
    old.viewAvailable s d = s := by
  simp [State.viewAvailable, h.available (viewRole d)]

theorem newlyLost_unserved (old : State) (h : s.unserved) (r : Role) : newlyLost old s r = false := by
  have hlost : s.rolePresence r ≠ .lost := by
    unfold State.rolePresence
    cases s.holder r with
    | none => simp
    | some a => simpa using h.presence a
  simp [newlyLost, hlost]

/-- What follows a change that leaves no role available (R8). -/
theorem State.followPresence_idles (old : State) (h : s.unserved) : s.idles (old.followPresence s) := by
  simp only [State.followPresence, newlyLost_unserved old h, h.available .modem]
  have hwatch := old.watchHolder_idles s
  obtain ⟨v, hv⟩ : ∃ v, v = old.watchHolder s := ⟨_, rfl⟩
  rw [← hv] at hwatch ⊢
  have hdrain : s.idles
      (if old.rolePresence .console ≠ s.rolePresence .console
          ∨ old.rolePresence .modem ≠ s.rolePresence .modem then v.drain else v) :=
    State.ite_idles (State.idles_trans hwatch (State.drain_idles (h.idles hwatch))) hwatch
  obtain ⟨w, hw⟩ : ∃ w, w = if old.rolePresence .console ≠ s.rolePresence .console
          ∨ old.rolePresence .modem ≠ s.rolePresence .modem then v.drain else v := ⟨_, rfl⟩
  rw [← hw] at hdrain ⊢
  have hserved := h.idles hdrain
  rw [State.viewAvailable_unserved old hserved, State.viewAvailable_unserved old hserved]
  have hinterlock : s.idles
      (if old.available .paxDisplay ≠ s.available .paxDisplay then w.testInterlock else w) :=
    State.ite_idles (State.idles_trans hdrain (State.testInterlock_idles hserved)) hdrain
  simp only [Bool.false_and, Bool.false_eq_true, if_false, Bool.not_false, Bool.and_true]
  exact State.ite_idles (State.idles_trans hinterlock (State.monitorPause_idles _)) hinterlock

theorem State.portsStarted_unserved (h : s.unserved) : s.portsStarted = s.drain := by
  have hdrain := h.idles (State.drain_idles h)
  rw [State.portsStarted, State.tryView_unserved hdrain, State.tryView_unserved hdrain,
    State.tryAdvice_unserved hdrain]

end

end Sys2Proof.Machine
end

section
/-! ### Ports that stop and start (R21, R22) -/

namespace Sys2Proof.Machine

open Sys2Proof

section
variable {s t : State}

/-! #### Stopped ports -/

theorem PortState.stop_stopped (p : PortState) (cut : Bool) : (p.stop cut).stopped :=
  ⟨rfl, rfl, rfl, rfl, rfl, rfl⟩

/-- A stopped port takes no offer (R10). -/
theorem State.send_stopped (a : NodeAddr) (c : Content) (h : (s.port a.seg).running = false) :
    s.send a c = s := by
  simp [State.send, State.offer, State.offerFrame, State.accepts, h]

/-- With both ports stopped, a speaker test that ends is answered to nobody. -/
theorem State.endSpeakerTest_stopped (o : TestOutcome) (a b : Nat)
    (h : ∀ seg, (s.port seg).running = false) : (s.endSpeakerTest o a b).link = s.link := by
  unfold State.endSpeakerTest
  split
  next x hx =>
    rw [State.mgmtRespond, State.send_stopped (s := s.withIntercom { s.intercom with test := none })
      x.rq.src _ (h x.rq.src.seg)]
    rfl
  next => rfl

theorem State.stopIntercom_link (r : RunState) (h : ∀ seg, (s.port seg).running = false) :
    (s.stopIntercom r).link = s.link := by
  have htest : s.abortSpeakerTest.link = s.link := State.endSpeakerTest_stopped .aborted 0 0 h
  cases r <;> exact htest

theorem State.stopIntercom_run (s : State) (r : RunState) : (s.stopIntercom r).intercom.run = r := by
  cases r <;> rfl

/-- With the front port stopped a notice joins the queue, and no drain is attempted (R38, R39). -/
theorem State.offerNotice_stopped (n : Notice) (h : s.link.front.running = false) :
    s.offerNotice n = { s with notices := (s.notices.enqueue (s.noticeEntry n)).1 } := by
  unfold State.offerNotice
  generalize s.notices.enqueue (s.noticeEntry n) = x
  obtain ⟨q, b⟩ := x
  cases b <;> simp [State.drain, h]

/-! #### Ports that start -/

/-- Right after the ports start no role is available and no node LOST. -/
theorem State.unserved_of_started (front rear : List RoleEntry)
    (hf : s.link.front.nodes = front.map .start) (hr : s.link.rear.nodes = rear.map .start) :
    s.unserved := by
  have hstart (e : RoleEntry) : (NodeEntry.start e).presence ≠ .lost := by
    cases e <;> simp [NodeEntry.start]
  have hlist (l : List RoleEntry) (i : Nat) :
      (((l.map NodeEntry.start)[i]?).map (·.presence)).getD .absent ≠ .lost := by
    cases hi : l[i]? <;> simp [hi, hstart]
  refine ⟨State.available_of_started s front rear hf hr, fun a => ?_⟩
  unfold State.presence
  split
  · simp
  · cases hseg : a.seg
    · exact hf ▸ hlist front _
    · exact hr ▸ hlist rear _

/-- The modem's node is PROBING right after the front port starts (R22). -/
theorem State.modem_probing (hm : s.holder .modem ≠ none)
    (hf : s.link.front.nodes = s.tables.roles.front.map .start) : s.rolePresence .modem = .probing := by
  obtain ⟨a, ha⟩ := Option.ne_none_iff_exists'.1 hm
  obtain ⟨i, hi, rfl⟩ := Option.map_eq_some_iff.1 ha
  have hentry : s.tables.roles.front[i]? = some (.named .modem) := by
    obtain ⟨hlt, hbeq, -⟩ := List.findIdx?_eq_some_iff_getElem.1 hi
    have heq : s.tables.roles.front[i] = .named .modem := beq_iff_eq.1 hbeq
    exact List.getElem?_eq_some_iff.2 ⟨hlt, heq⟩
  simp [State.rolePresence, ha, State.presence, roleSeg, State.port, hf, hentry, NodeEntry.start]

/-- Both ports running again, before what follows the change of presence (R22). -/
def State.portsRestarted (s : State) : State :=
  { s with
    link :=
      { s.link with
        front := s.link.front.restart s.tables.roles.front
        rear := s.link.rear.restart s.tables.roles.rear } }

theorem State.portsRestarted_unserved (s : State) : s.portsRestarted.unserved :=
  State.unserved_of_started s.tables.roles.front s.tables.roles.rear rfl rfl

/-- The start of the ports, and what blocks then do (R22). -/
theorem State.restartPorts_idles (s : State) : s.portsRestarted.idles s.restartPorts := by
  have hfollow := State.followPresence_idles s s.portsRestarted_unserved
  have hserved := s.portsRestarted_unserved.idles hfollow
  have hstarted : s.restartPorts = (s.followPresence s.portsRestarted).drain :=
    State.portsStarted_unserved hserved
  rw [hstarted]
  exact State.idles_trans hfollow (State.drain_idles hserved)

/-- What the start of the ports keeps of the state before it. -/
theorem State.restartPorts_same (s : State) :
    s.sameBut [.link, .notices, .mgmt, .meter, .intercom, .pay] s.restartPorts := by
  have hlink : s.sameBut [.link] s.portsRestarted := fun p hp => by
    cases p <;> simp_all [Part.same, State.portsRestarted]
  exact sameBut_trans (sameBut_mono hlink (by decide))
    (sameBut_mono s.restartPorts_idles.same (by decide))

/-- Views renewed stay so while no role is available (R117). -/
theorem State.idles.viewsRenewed (h : s.idles t) (hv : s.viewsRenewed) : t.viewsRenewed := by
  obtain ⟨hconsole, hpax, hconsoleHoldoff, hpaxHoldoff, hack⟩ := hv
  have hmeter := h.meter
  exact ⟨h.mark .console hconsole, h.mark .paxDisplay hpax,
    (h.holdoff .console).trans hconsoleHoldoff, (h.holdoff .paxDisplay).trans hpaxHoldoff,
    by rw [hmeter]; exact hack⟩

theorem State.renewViews_renewed (s : State) : s.renewViews.viewsRenewed := by
  simp [State.viewsRenewed]

theorem State.startIntercom_run (s : State) (d : Nat) : (s.startIntercom d).intercom.run = .running := by
  unfold State.startIntercom
  simp only
  split <;> rfl

/-! #### HOLDUP (R201) -/

/-- The accounting with one more interruption on the open shift (R201). -/
def Accounting.interrupted (a : Accounting) : Accounting :=
  { a with
    shift := { a.shift with
      record := a.shift.record.map fun r => { r with interruptions := min (r.interruptions + 1) 65535 } } }

/-- The part stopped for HOLDUP, with the notice offered, before its save (R201). -/
def State.droppedOut (s : State) : State :=
  { s with
    power := { s.power with state := .holdup, lowCount := 0, progress := .writing, park := .stopped }
    link := (s.stopPorts true).link
    acct := s.acct.interrupted
    notices := (s.notices.enqueue
      (s.noticeEntry (.supplyLow s.power.sample s.tables.power.low))).1 }

/-- The save of HOLDUP begun, and the distance input and the sign stopped (R201). -/
def State.saveBegun (s : State) : State :=
  let u := s.droppedOut.beginSave .freshHoldup
  State.recompose
    { u with
      distance := { u.distance with running := false, count := 0 }
      sign := { u.sign with test := none, hold := .released } }

theorem State.enterHoldup_eq (s : State) : s.enterHoldup = s.saveBegun.stopIntercom .muted := by
  have hdropped :
      State.offerNotice
        (State.modShift
          (State.stopPorts
            { s with
              power :=
                { s.power with state := .holdup, lowCount := 0, progress := .writing, park := .stopped } }
            true)
          fun x => { x with interruptions := satInc max16 x.interruptions })
        (.supplyLow s.power.sample s.tables.power.low) = s.droppedOut :=
    State.offerNotice_stopped _ rfl
  simp only [State.enterHoldup, State.saveBegun]
  rw [← hdropped]
  rfl

/-- A save record is made of the clock, the meter, the trip, the emergency and the open shift (R202). -/
theorem State.saveRecord_congr (htime : t.time = s.time) (hmeter : t.meter = s.meter)
    (hengine : t.engine = s.engine) (htenders : t.pay.tenders = s.pay.tenders)
    (hemergency : t.sign.emergency = s.sign.emergency)
    (hopen : t.acct.shift.record.isSome = s.acct.shift.record.isSome)
    (hlimit : t.acct.shift.limitSet = s.acct.shift.limitSet) : t.saveRecord = s.saveRecord := by
  simp [State.saveRecord, State.savedTrip, State.now, htime, hmeter, hengine, htenders, hemergency,
    hopen, hlimit]

/-- What entry to HOLDUP leaves (R201). -/
theorem State.enterHoldup_does (s : State) :
    s.enterHoldup.power =
        { s.power with state := .holdup, lowCount := 0, progress := .writing, park := .stopped }
      ∧ s.enterHoldup.link = (s.stopPorts true).link ∧ s.enterHoldup.distance.running = false
      ∧ s.enterHoldup.intercom.run = .muted
      ∧ s.enterHoldup.notices =
        (s.notices.enqueue (s.noticeEntry (.supplyLow s.power.sample s.tables.power.low))).1
      ∧ s.enterHoldup.acct = { s.acct.interrupted with unwritten := false }
      ∧ s.enterHoldup.writes = s.writes ++
        [.save .freshHoldup s.saveRecord s.acct.interrupted.carry s.acct.totalsNow]
      ∧ s.enterHoldup.meter = s.meter ∧ s.enterHoldup.engine = s.engine
      ∧ s.enterHoldup.saveRecord = s.saveRecord := by
  have hstopped (seg : Seg) : (s.saveBegun.port seg).running = false := by cases seg <;> rfl
  have hrecord : s.droppedOut.saveRecord = s.saveRecord :=
    State.saveRecord_congr rfl rfl rfl rfl rfl (by simp [State.droppedOut, Accounting.interrupted]) rfl
  have hacct : s.enterHoldup.acct = { s.acct.interrupted with unwritten := false } := by
    simp only [State.enterHoldup_eq, State.stopIntercom_keeps]
    rfl
  rw [State.enterHoldup_eq] at hacct ⊢
  refine ⟨by simp; rfl, (State.stopIntercom_link .muted hstopped).trans rfl, by simp; rfl,
    State.stopIntercom_run _ _, by simp; rfl, hacct, ?_, by simp; rfl, by simp; rfl,
    State.saveRecord_congr (by simp; rfl) (by simp; rfl) (by simp; rfl) (by simp; rfl) (by simp; rfl)
      ?_ ?_⟩
  · simp only [State.stopIntercom_keeps]
    rw [← hrecord]
    rfl
  · rw [hacct]
    simp [Accounting.interrupted]
  · rw [hacct]
    rfl

end

end Sys2Proof.Machine
end

section
/-! ### Supply drops (R200 to R203) -/

namespace Sys2Proof.Machine

open Sys2Proof

section
variable {s : State}

/-! #### Samples -/

/-- A sample taken in RUN (R200). -/
theorem State.takeSample_run (x : Nat) (h : s.power.state = .run) :
    s.takeSample x =
      if x < s.tables.power.low then
        if 3 ≤ s.power.lowCount + 1 then State.enterHoldup { s with power := { s.power with sample := x } }
        else { s with power := { s.power with sample := x, lowCount := s.power.lowCount + 1 } }
      else { s with power := { s.power with sample := x, lowCount := 0 } } := by
  simp [State.takeSample, h]

/-! #### The save and the warm return -/

theorem save_report?_eq_none {m : SaveMark} {r : SaveRecord} {c : ShiftCarry} {o : Totals}
    (h : c.report = false) : (StoreWrite.save m r c o).report? = none := by
  simp [StoreWrite.report?, StoreWrite.carry?, h]

/-- The state in which the save of HOLDUP is complete (R202). -/
def State.saveComplete (s : State) (w : StoreWrite) (rest : List StoreWrite) : State :=
  { s.afterWrite w rest with power := { s.power with progress := .complete } }

theorem exec_holdupSaveComplete_of {r : SaveRecord} {c : ShiftCarry} {o : Totals}
    {rest : List StoreWrite} (hholdup : s.power.state = .holdup)
    (hw : s.writes = .save .freshHoldup r c o :: rest) (hreport : c.report = false) :
    exec .holdupSaveComplete s =
      .next (s.saveComplete (.save .freshHoldup r c o) rest).tryWarmReturn := by
  have hpowered : s.powered = true := by simp [State.powered, hholdup]
  refine congrArg Host.Outcome.next ((State.whenPowered_of _ hpowered).trans ?_)
  rw [State.takeWrite_head _ hw rfl rfl (save_report?_eq_none hreport)]
  rfl

theorem State.tryWarmReturn_of (hholdup : s.power.state = .holdup)
    (hcomplete : s.power.progress = .complete) (hrestore : s.tables.power.restore ≤ s.power.sample) :
    s.tryWarmReturn = s.warmReturn :=
  if_pos ⟨hholdup, hcomplete, hrestore⟩

theorem State.tryWarmReturn_low (h : s.power.sample < s.tables.power.restore) : s.tryWarmReturn = s :=
  if_neg fun hall => absurd hall.2.2 (Nat.not_le.2 h)

/-- The state of a warm return in RUN, with the mark's write and the checkpoint begun, before the views and
the ports (R203). -/
def State.returned (s : State) : State :=
  let u := State.begin { s with power := { s.power with state := .run, progress := .none } } .markConsumed
  (u.modTrip fun r => { r with flags := { r.flags with supplyDip := true } }).beginCheckpoint.startPark

@[simp] theorem State.returned_meter (s : State) :
    s.returned.meter =
      { s.meter with
        trip := s.meter.trip.map fun r => { r with flags := { r.flags with supplyDip := true } } } := by
  simp [State.returned, State.begin, State.modTrip]

@[simp] theorem State.returned_pay (s : State) : s.returned.pay = s.pay := by
  simp [State.returned, State.begin]

theorem State.returned_power (s : State) :
    s.returned.power.state = .run ∧ s.returned.power.progress = .none := by
  simp only [State.returned, State.startPark, State.beginCheckpoint, State.restartCheckpointTimer]
  split <;> exact ⟨rfl, rfl⟩

theorem State.returned_begins (s : State) : .markConsumed ∈ s.returned.writes := by
  simp [State.returned, State.begin, State.beginCheckpoint_writes]

/-- The intercom started again and every channel composed anew (R155). -/
def State.intercomReturned (s : State) : State := (s.startIntercom s.intercom.drops).recompose

theorem State.intercomReturned_same (s : State) : s.sameBut [.intercom, .sign] s.intercomReturned := by
  intro p hp
  cases p <;> simp_all [Part.same, State.intercomReturned]

theorem State.intercomReturned_run (s : State) : s.intercomReturned.intercom.run = .running := by
  rw [State.intercomReturned, State.recompose_sameBut _ .intercom (by decide)]
  exact State.startIntercom_run _ _

theorem State.takeSwitch_same (s : State) : s.sameBut [.sign] s.takeSwitch := by
  unfold State.takeSwitch
  split
  · intro p hp
    cases p <;> simp_all [Part.same]
  · exact sameBut_refl _ s

/-- The blocks of a warm return, once the writes are begun (R203). -/
def State.blocksReturned (s : State) : State :=
  s.renewViews.restartPorts.restartDistance.intercomReturned.takeSwitch

/-- The start of the distance input and the intercom keeps what the start of the ports left. -/
theorem State.blocksReturned_same (s : State) :
    s.renewViews.restartPorts.sameBut [.distance, .intercom, .sign] s.blocksReturned := by
  have hdistance (u : State) : u.sameBut [.distance] u.restartDistance := fun p hp => by
    cases p <;> simp_all [Part.same]
  exact sameBut_trans (sameBut_mono (hdistance _) (by decide))
    (sameBut_trans (sameBut_mono (State.intercomReturned_same _) (by decide))
      (sameBut_mono (State.takeSwitch_same _) (by decide)))

theorem State.blocksReturned_runs (s : State) :
    s.blocksReturned.distance.running = true ∧ s.blocksReturned.intercom.run = .running := by
  let u := s.renewViews.restartPorts.restartDistance
  have hswitch := u.intercomReturned.takeSwitch_same
  have hdistance : s.blocksReturned.distance = u.distance :=
    (hswitch .distance (by decide)).trans (u.intercomReturned_same .distance (by decide))
  have hintercom : s.blocksReturned.intercom = u.intercomReturned.intercom :=
    hswitch .intercom (by decide)
  exact ⟨by rw [hdistance]; rfl, by rw [hintercom]; exact u.intercomReturned_run⟩

/-- The meter controller after the blocks have returned: the views alone have changed (R117). -/
theorem State.blocksReturned_meter (s : State) :
    s.renewViews.meter.sameButViews s.blocksReturned.meter ∧ s.blocksReturned.viewsRenewed := by
  have hmeter : s.blocksReturned.meter = s.renewViews.restartPorts.meter :=
    s.blocksReturned_same .meter (by decide)
  have hrenewed := s.renewViews.restartPorts_idles.viewsRenewed s.renewViews_renewed
  rw [State.viewsRenewed, hmeter]
  exact ⟨s.renewViews.restartPorts_idles.meter, hrenewed⟩

/-- A warm return of a part with no close begun and no expired authorization (R203). -/
theorem State.warmReturn_eq (hstage : s.meter.stage = .none) (hexpired : s.pay.authExpired = false) :
    s.warmReturn = s.returned.blocksReturned := by
  let u := State.begin { s with power := { s.power with state := .run, progress := .none } } .markConsumed
  let v := State.startPark (State.beginCheckpoint
    (if u.meter.stage = .none then
      u.modTrip fun r => { r with flags := { r.flags with supplyDip := true } }
    else u))
  have hv : v = s.returned := by
    simp only [v]
    rw [if_pos (show u.meter.stage = .none from hstage)]
    rfl
  have hshape : s.warmReturn =
      (let w := State.blocksReturned
        (if v.pay.authExpired then
          State.decideOffline { v with pay := { v.pay with authExpired := false } }
        else v)
      if w.meter.stage = .goOn then w.goOnClose else w) := rfl
  have hgoes : s.returned.blocksReturned.meter.stage ≠ .goOn := by
    rw [s.returned.blocksReturned_meter.1]
    simp [hstage]
  rw [hshape, hv, if_neg (show ¬s.returned.pay.authExpired = true by simp [hexpired])]
  exact if_neg hgoes

/-- What a warm return leaves (R203, R117). -/
theorem State.warmReturn_does (hstage : s.meter.stage = .none) (hexpired : s.pay.authExpired = false) :
    s.warmReturn.power.state = .run ∧ s.warmReturn.power.progress = .none
      ∧ s.warmReturn.distance.running = true ∧ s.warmReturn.intercom.run = .running
      ∧ s.warmReturn.link.front.running = true ∧ s.warmReturn.link.rear.running = true
      ∧ s.warmReturn.link.front.pointer = 7 ∧ .markConsumed ∈ s.warmReturn.writes
      ∧ s.warmReturn.meter.state = s.meter.state ∧ s.warmReturn.viewsRenewed
      ∧ s.warmReturn.meter.trip.map (·.flags.supplyDip) = s.meter.trip.map fun _ => true := by
  rw [State.warmReturn_eq hstage hexpired]
  have hports := s.returned.renewViews.restartPorts_same
  have hblocks := s.returned.blocksReturned_same
  have hlink : s.returned.blocksReturned.link = s.returned.renewViews.portsRestarted.link :=
    (hblocks .link (by decide)).trans s.returned.renewViews.restartPorts_idles.link
  have hpower : s.returned.blocksReturned.power = s.returned.power :=
    ((hblocks .power (by decide)).trans (hports .power (by decide))).trans (by simp)
  have hwrites : s.returned.blocksReturned.writes = s.returned.writes :=
    ((hblocks .writes (by decide)).trans (hports .writes (by decide))).trans (by simp)
  obtain ⟨hrun, hprogress⟩ := s.returned_power
  obtain ⟨hdistance, hintercom⟩ := s.returned.blocksReturned_runs
  obtain ⟨hmeter, hrenewed⟩ := s.returned.blocksReturned_meter
  refine ⟨by rw [hpower, hrun], by rw [hpower, hprogress], hdistance, hintercom, by rw [hlink]; rfl,
    by rw [hlink]; rfl, by rw [hlink]; rfl, hwrites ▸ s.returned_begins, ?_, hrenewed, ?_⟩
  · rw [hmeter]
    simp
  · rw [hmeter]
    simp only [State.renewViews_meter, State.returned_meter, Option.map_map]
    rfl

/-! #### Loss of supply -/

/-- A write that completes by itself carries no trip and no checkpoint (R36). -/
theorem Store.apply_silent {w : StoreWrite} (st : Store) (h : s.silent w = true) :
    (st.apply w).log = st.log ∧ (st.apply w).checkpoint = st.checkpoint := by
  cases w <;> simp_all [State.silent, Store.apply, Store.carried, Store.withTotals]

theorem Store.foldl_apply_silent {l : List StoreWrite} (st : Store) (h : ∀ w ∈ l, s.silent w = true) :
    (l.foldl Store.apply st).log = st.log ∧ (l.foldl Store.apply st).checkpoint = st.checkpoint := by
  induction l generalizing st with
  | nil => exact ⟨rfl, rfl⟩
  | cons w l ih =>
    obtain ⟨hlog, hcheckpoint⟩ := Store.apply_silent st (h w (by simp))
    obtain ⟨hl, hc⟩ := ih (st.apply w) fun x hx => h x (List.mem_cons_of_mem w hx)
    exact ⟨hl.trans hlog, hc.trans hcheckpoint⟩

/-- The writes cut off leave the log and the checkpoint as stored: only silent ones may have completed. -/
theorem State.cutWrites_store (s : State) :
    s.cutWrites.1.store.log = s.store.log ∧ s.cutWrites.1.store.checkpoint = s.store.checkpoint := by
  refine Store.foldl_apply_silent (s := s) s.store fun w hw => ?_
  have hbound : Config.silentWritesDone s.free % ((s.writes.takeWhile s.silent).length + 1)
      ≤ (s.writes.takeWhile s.silent).length :=
    Nat.le_of_lt_succ (Nat.mod_lt _ (Nat.succ_pos _))
  have hprefix : s.writes.take (s.writes.takeWhile s.silent).length = s.writes.takeWhile s.silent :=
    List.prefix_iff_eq_take.1 (List.takeWhile_prefix _) |>.symm
  have hmem : w ∈ s.writes.takeWhile s.silent := hprefix ▸ (List.take_prefix_take_left hbound).subset hw
  exact List.mem_takeWhile_imp hmem

end

/-- Settles O57: the samples of RUN, entry to HOLDUP by `enterHoldup_does`, the completed save below and at
RESTORE, and the loss of supply. -/
theorem supplyDropsAreHeld : Obligations.SupplyDropsAreHeld := by
  intro x s
  refine ⟨fun hrun => ?_, fun r c o rest hholdup hw hreport => ⟨fun hlow => ?_, fun hrestore hstage
    hexpired => ?_⟩, fun hpowered => ?_⟩
  · have hpowered : s.powered = true := by simp [State.powered, hrun]
    have hsample := State.takeSample_run x hrun
    refine ⟨fun hhigh => ?_, fun hlow hcount => ?_, fun hlow hcount => ?_⟩
    · rw [if_neg (Nat.not_lt.2 hhigh)] at hsample
      exact exec_powered_of hpowered rfl hsample
    · rw [if_pos hlow, if_neg (by omega)] at hsample
      exact exec_powered_of hpowered rfl hsample
    · rw [if_pos hlow, if_pos (by omega)] at hsample
      obtain ⟨hpower, hlink, hdistance, hintercom, hnotices, hacct, hwrites, hmeter, hengine, -⟩ :=
        State.enterHoldup_does { s with power := { s.power with sample := x } }
      refine ⟨_, exec_powered_of hpowered rfl hsample, by rw [hpower], by rw [hpower], by rw [hpower],
        by rw [hpower], by rw [hpower], ?_, ?_, by rw [hlink]; rfl, by rw [hlink]; rfl, hdistance,
        hintercom, ?_, hnotices, ⟨s.acct.interrupted, rfl, hacct, hwrites⟩, hmeter, hengine⟩
      · rw [hlink]
        exact PortState.stop_stopped _ _
      · rw [hlink]
        exact PortState.stop_stopped _ _
      · rw [hnotices]
        exact NoticeQueue.enqueue_nextSeq _ _
  · refine ⟨_, (exec_holdupSaveComplete_of hholdup hw hreport).trans
      (congrArg Host.Outcome.next (State.tryWarmReturn_low hlow)), fun p hp => ?_, rfl, rfl, rfl, rfl⟩
    cases p <;> simp_all [Part.same, State.saveComplete, State.afterWrite]
  · exact ⟨_, (exec_holdupSaveComplete_of hholdup hw hreport).trans
      (congrArg Host.Outcome.next (State.tryWarmReturn_of hholdup rfl hrestore)),
      State.warmReturn_does (s := s.saveComplete (.save .freshHoldup r c o) rest) hstage hexpired⟩
  · obtain ⟨hlog, hcheckpoint⟩ := s.cutWrites_store
    exact ⟨s.loseSupply, exec_powered_of hpowered rfl rfl, rfl, rfl, PortState.stop_stopped _ _,
      PortState.stop_stopped _ _, rfl, rfl, rfl, hlog, hcheckpoint⟩

end Sys2Proof.Machine
end

section
/-! ### Parking and wakes (R203 to R206) -/

namespace Sys2Proof.Machine

open Sys2Proof

section
variable {s t : State} {src : WakeSource}

/-! #### Entry to PARKED -/

theorem State.mayPark_of (hrun : s.power.state = .run) (hopen : s.tripOpen = false)
    (hidle : s.pay.session.state = .idle) (htest : s.intercom.test = none) : s.mayPark = true := by
  simp only [State.mayPark, hrun, hidle, htest]
  simp only [State.tripOpen] at hopen
  cases hstate : s.meter.state <;> simp_all

theorem State.mayPark_open (hopen : s.tripOpen = true) : s.mayPark = false := by
  simp only [State.mayPark]
  rcases (State.tripOpen_iff s).1 hopen with h | h <;> simp [h]

/-- The expiry of the park delay enters PARKED or lets the timer wait (R204). -/
theorem exec_parkDelayExpiry_of {n : Nat} (hrun : s.power.state = .run) (hpark : s.power.park = .running n) :
    exec .parkDelayExpiry s =
      .next (if s.mayPark then s.enterParked else { s with power := { s.power with park := .waiting } }) := by
  have hpowered : s.powered = true := by simp [State.powered, hrun]
  exact exec_powered_of hpowered rfl (by simp only [hpark])

/-- The checkpoint of PARKED begun and the ports stopped (R205). -/
def State.portsParked (s : State) : State :=
  State.stopPorts
    (State.beginCheckpoint
      { s with power := { s.power with state := .parked, park := .stopped, wake := ⟨[], some s.now, none⟩ } })
    false

theorem State.enterParked_eq (s : State) :
    s.enterParked = (s.portsParked.stopIntercom .stopped).endTest.recompose.resetViews := rfl

/-- What entry to PARKED leaves (R205). -/
theorem State.enterParked_does (s : State) :
    s.enterParked.power.state = .parked ∧ s.enterParked.power.park = .stopped
      ∧ s.enterParked.power.wake = ⟨[], some s.now, none⟩
      ∧ s.enterParked.link = s.portsParked.link ∧ s.enterParked.intercom.run = .stopped
      ∧ s.enterParked.sign.test = none ∧ s.enterParked.meter.state = s.meter.state
      ∧ s.enterParked.distance = s.distance
      ∧ s.enterParked.writes = s.writes ++
        [.checkpoint s.saveRecord s.meter.lastAssigned s.acct.carry s.acct.totalsNow none] := by
  have hpower : s.enterParked.power =
      { s.power with state := .parked, park := .stopped, wake := ⟨[], some s.now, none⟩ } := by
    simp [State.enterParked_eq, State.portsParked, State.beginCheckpoint, State.restartCheckpointTimer,
      State.beginCarrying, State.begin]
  have hstopped (seg : Seg) : (s.portsParked.port seg).running = false := by cases seg <;> rfl
  have hlink : s.enterParked.link = s.portsParked.link := by
    rw [State.enterParked_eq]
    simp [State.stopIntercom_link .stopped hstopped]
  have hintercom : s.enterParked.intercom = (s.portsParked.stopIntercom .stopped).intercom := by
    simp [State.enterParked_eq]
  have hwrites : s.enterParked.writes = s.portsParked.writes := by simp [State.enterParked_eq]
  refine ⟨by rw [hpower], by rw [hpower], by rw [hpower], hlink, ?_, ?_, ?_, ?_, ?_⟩
  · rw [hintercom]
    exact State.stopIntercom_run _ _
  · simp [State.enterParked_eq, State.recompose_sign, State.endTest_sign]
  · obtain ⟨-, -, -, -, -, -, -, hmeter⟩ := s.enterParked_keeps
    rw [hmeter]
  · simp [State.enterParked_eq, State.portsParked]
  · rw [hwrites]
    exact State.beginCheckpoint_writes _ none

/-! #### Notices that wait for the modem -/

theorem NoticeQueue.enqueue_joins {q : NoticeQueue} {e : NoticeEntry} (h : q.entries.length < 16) :
    (q.enqueue e).1.entries = q.entries ++ [e] := by
  simp [NoticeQueue.enqueue, h]

theorem NoticeQueue.enqueue_keeps_waiting {q : NoticeQueue} {e : NoticeEntry} {seq : Nat} {n : Notice}
    (h : q.entries.length < 16) (hw : q.waitsForModem seq n) : (q.enqueue e).1.waitsForModem seq n := by
  obtain ⟨x, hx, hrest⟩ := hw
  refine ⟨x, ?_, hrest⟩
  rw [NoticeQueue.enqueue_joins h]
  exact List.mem_append_left _ hx

/-- An entry whose route takes in the modem waits for it (R38). -/
theorem State.enqueue_waits {n : Notice} (h : s.notices.entries.length < 16)
    (hroute : (s.classRoute n.kind).route ≠ .console) :
    (s.notices.enqueue (s.noticeEntry n)).1.waitsForModem s.notices.nextSeq n := by
  refine ⟨s.noticeEntry n, ?_, rfl, rfl, ?_⟩
  · rw [NoticeQueue.enqueue_joins h]
    exact List.mem_append_right _ (List.mem_singleton_self _)
  · simp only [State.noticeEntry]
    cases hr : (s.classRoute n.kind).route with
    | console => exact absurd hr hroute
    | modem => rfl
    | both => rfl

/-! #### The wake -/

theorem State.beginCheckpoint_power (s : State) (o : Option Ref) :
    ∃ c, (s.beginCheckpoint o).power = { s.power with checkpoint := c } := by
  unfold State.beginCheckpoint State.restartCheckpointTimer
  split
  · exact ⟨_, rfl⟩
  · exact ⟨s.power.checkpoint, rfl⟩

/-- A wake source recorded and the views renewed (R206, R117). -/
def State.wakeTaken (s : State) (src : WakeSource) : State :=
  State.renewViews
    { s with
      power :=
        { s.power with
          wake := ⟨s.power.wake.sources ++ [(src, s.now)], s.power.wake.entered, some s.now⟩ } }

/-- The part in RUN by a wake, its checkpoint begun, before the notice (R206). -/
def State.wakeRuns (s : State) (src : WakeSource) : State :=
  State.beginCheckpoint
    { s.wakeTaken src with power := { (s.wakeTaken src).power with state := .run } }

/-- The notice WAKE offered, before the ports start (R206). -/
def State.wakeOffered (s : State) (src : WakeSource) : State :=
  (s.wakeRuns src).offerNotice (.wake ((s.power.wake.sources ++ [(src, s.now)]).map (·.1)))

theorem State.wakeRuns_power (s : State) (src : WakeSource) :
    ∃ c, (s.wakeRuns src).power =
      { s.power with
        state := .run
        wake := ⟨s.power.wake.sources ++ [(src, s.now)], s.power.wake.entered, some s.now⟩
        checkpoint := c } := by
  obtain ⟨c, hc⟩ := State.beginCheckpoint_power
    { s.wakeTaken src with power := { (s.wakeTaken src).power with state := .run } } none
  exact ⟨c, hc⟩

theorem State.wakeBy_high (hparked : s.power.state = .parked)
    (hrestore : s.tables.power.restore ≤ s.power.sample) :
    s.wakeBy src = (s.wakeOffered src).restartPorts.intercomReturned.startPark := by
  obtain ⟨c, hc⟩ := s.wakeRuns_power src
  have hhigh : ¬(s.wakeTaken src).power.sample < (s.wakeTaken src).tables.power.restore :=
    Nat.not_lt.2 hrestore
  have hshape : s.wakeBy src =
      if s.power.state = .parked then
        if (s.wakeTaken src).power.sample < (s.wakeTaken src).tables.power.restore then
          (s.wakeTaken src).enterHoldup
        else
          ((s.wakeRuns src).offerNotice
            (.wake ((s.wakeRuns src).power.wake.sources.map (·.1)))).restartPorts.intercomReturned.startPark
      else s := rfl
  rw [hshape, if_pos hparked, if_neg hhigh, hc]
  rfl

theorem State.wakeBy_low (hparked : s.power.state = .parked)
    (hlow : s.power.sample < s.tables.power.restore) :
    s.wakeBy src = (s.wakeTaken src).enterHoldup := by
  have hbelow : (s.wakeTaken src).power.sample < (s.wakeTaken src).tables.power.restore := hlow
  simp only [State.wakeBy]
  rw [if_pos hparked]
  exact if_pos hbelow

/-- What the offered WAKE leaves of the state before the wake. -/
theorem State.wakeOffered_same (s : State) (src : WakeSource) :
    s.sameBut [.link, .notices, .meter, .power, .acct, .writes] (s.wakeOffered src) := by
  intro p hp
  cases p <;> simp_all [Part.same, State.wakeOffered, State.wakeRuns, State.wakeTaken]

/-- The intercom and the park delay started, all else stands as the start of the ports left it. -/
theorem State.wakeBy_same (hparked : s.power.state = .parked)
    (hrestore : s.tables.power.restore ≤ s.power.sample) :
    (s.wakeOffered src).restartPorts.sameBut [.intercom, .sign, .power] (s.wakeBy src) := by
  have hpark (u : State) : u.sameBut [.power] u.startPark := fun p hp => by
    cases p <;> simp_all [Part.same]
  rw [State.wakeBy_high hparked hrestore]
  exact sameBut_trans (sameBut_mono (State.intercomReturned_same _) (by decide))
    (sameBut_mono (hpark _) (by decide))

theorem State.wakeOffered_meter (s : State) (src : WakeSource) :
    (s.wakeOffered src).meter = s.renewViews.meter := by
  simp [State.wakeOffered, State.wakeRuns, State.wakeTaken]

theorem State.wakeOffered_acct (s : State) (src : WakeSource) :
    (s.wakeOffered src).acct = { s.acct with unwritten := false } := by
  simp [State.wakeOffered, State.wakeRuns, State.wakeTaken, State.beginCheckpoint_acct]

/-- The supply controller after a wake at RESTORE (R206). -/
theorem State.wakeBy_power (hparked : s.power.state = .parked)
    (hrestore : s.tables.power.restore ≤ s.power.sample) :
    (s.wakeBy src).power.state = .run
      ∧ (s.wakeBy src).power.wake =
        ⟨s.power.wake.sources ++ [(src, s.now)], s.power.wake.entered, some s.now⟩
      ∧ (s.wakeBy src).power.park =
        if s.pins.ignition then .stopped else .running s.tables.power.parkDelay := by
  obtain ⟨c, hc⟩ := s.wakeRuns_power src
  let u := (s.wakeOffered src).restartPorts
  have hoffered := s.wakeOffered_same src
  have hports := (s.wakeOffered src).restartPorts_same
  have hreturned := u.intercomReturned_same
  have hpower : u.intercomReturned.power = (s.wakeRuns src).power :=
    ((hreturned .power (by decide)).trans (hports .power (by decide))).trans
      ((s.wakeRuns src).offerNotice_sameBut _ .power (by decide))
  have hpins : u.intercomReturned.pins = s.pins :=
    ((hreturned .pins (by decide)).trans (hports .pins (by decide))).trans (hoffered .pins (by decide))
  have htables : u.intercomReturned.tables = s.tables :=
    ((hreturned .tables (by decide)).trans (hports .tables (by decide))).trans
      (hoffered .tables (by decide))
  rw [State.wakeBy_high hparked hrestore]
  simp [State.startPark, u, hpower, hpins, htables, hc]

theorem State.wakeBy_link (hparked : s.power.state = .parked)
    (hrestore : s.tables.power.restore ≤ s.power.sample) :
    (s.wakeBy src).link = (s.wakeOffered src).portsRestarted.link :=
  (State.wakeBy_same hparked hrestore .link (by decide)).trans (s.wakeOffered src).restartPorts_idles.link

end

end Sys2Proof.Machine
end

section
/-! ### The wakes from PARKED (R206) -/

namespace Sys2Proof.Machine

open Sys2Proof

section
variable {s t u : State} {src : WakeSource}

/-! #### At RESTORE -/

/-- A wake at RESTORE does what `wokenBy` asks, and keeps the pins, the accounting and the hold. -/
theorem State.wakeBy_wakes (hparked : s.power.state = .parked)
    (hrestore : s.tables.power.restore ≤ s.power.sample) :
    s.wokenBy (s.wakeBy src) src
      ∧ (s.wakeBy src).notices.nextSeq = (s.notices.nextSeq + 1) % 65536
      ∧ (s.wakeBy src).meter.state = s.meter.state ∧ (s.wakeBy src).pins = s.pins
      ∧ (s.wakeBy src).acct = { s.acct with unwritten := false }
      ∧ (s.wakeBy src).sign.hold = s.sign.hold := by
  obtain ⟨hrun, hwake, -⟩ := State.wakeBy_power (src := src) hparked hrestore
  have hlink := State.wakeBy_link (src := src) hparked hrestore
  have hlast := State.wakeBy_same (src := src) hparked hrestore
  have hports := (s.wakeOffered src).restartPorts_same
  have hidles := (s.wakeOffered src).restartPorts_idles
  have hoffered := s.wakeOffered_same src
  have htables : (s.wakeOffered src).tables = s.tables := hoffered .tables (by decide)
  have hmeter : (s.wakeBy src).meter = (s.wakeOffered src).restartPorts.meter := hlast .meter (by decide)
  have hoffer := s.wakeOffered_meter src
  have hrenewed : (s.wakeOffered src).portsRestarted.viewsRenewed := by
    unfold State.viewsRenewed
    rw [show (s.wakeOffered src).portsRestarted.meter = s.renewViews.meter from hoffer]
    exact s.renewViews_renewed
  refine ⟨⟨hrun, hwake, by rw [hlink]; rfl, by rw [hlink]; rfl, by rw [hlink]; rfl, by rw [hlink]; rfl,
    by rw [hlink, ← htables]; rfl, by rw [hlink, ← htables]; rfl, ?_, ?_⟩, ?_, ?_, ?_, ?_, ?_⟩
  · unfold State.viewsRenewed
    rw [hmeter]
    exact hidles.viewsRenewed hrenewed
  · rw [State.wakeBy_high hparked hrestore]
    simp [State.intercomReturned_run]
  · rw [hlast .notices (by decide), hidles.nextSeq]
    simp [State.portsRestarted, State.wakeOffered, State.wakeRuns, State.wakeTaken]
  · rw [hmeter, hidles.meter]
    simp [State.portsRestarted, hoffer]
  · rw [hlast .pins (by decide), hports .pins (by decide), hoffered .pins (by decide)]
  · rw [hlast .acct (by decide), hports .acct (by decide), State.wakeOffered_acct]
  · have hsign : (s.wakeOffered src).restartPorts.sign = s.sign :=
      (hports .sign (by decide)).trans (hoffered .sign (by decide))
    rw [State.wakeBy_high hparked hrestore]
    simp [State.intercomReturned, State.recompose_sign, hsign]

/-- What waits for the modem once WAKE is offered still waits after the wake. -/
theorem State.wakeBy_waits (hparked : s.power.state = .parked)
    (hrestore : s.tables.power.restore ≤ s.power.sample) (hm : s.holder .modem ≠ none) {seq : Nat}
    {n : Notice} (h : (s.wakeOffered src).notices.waitsForModem seq n) :
    (s.wakeBy src).notices.waitsForModem seq n := by
  have htables : (s.wakeOffered src).tables = s.tables := s.wakeOffered_same src .tables (by decide)
  have hmodem : (s.wakeOffered src).portsRestarted.holder .modem ≠ none := by
    rw [State.holder_congr (s := s) (t := (s.wakeOffered src).portsRestarted) htables .modem]
    exact hm
  rw [State.wakeBy_same hparked hrestore .notices (by decide)]
  exact (s.wakeOffered src).restartPorts_idles.waits seq n (State.modem_probing hmodem rfl) h

/-- The notice queue once WAKE has been offered by a part whose front port stands. -/
theorem State.wakeOffered_notices (hstopped : s.link.front.running = false) (src : WakeSource) :
    (s.wakeOffered src).notices =
      (s.notices.enqueue ((s.wakeRuns src).noticeEntry
        (.wake ((s.power.wake.sources ++ [(src, s.now)]).map (·.1))))).1 := by
  have hnotices : (s.wakeRuns src).notices = s.notices := by simp [State.wakeRuns, State.wakeTaken]
  have hlink : (s.wakeRuns src).link = s.link := by simp [State.wakeRuns, State.wakeTaken]
  rw [State.wakeOffered, State.offerNotice_stopped _ (by rw [hlink, hstopped]), hnotices]

/-- WAKE waits for the modem after the wake (R206). -/
theorem State.wakeBy_waitsForModem (hparked : s.power.state = .parked)
    (hrestore : s.tables.power.restore ≤ s.power.sample) (hstopped : s.link.front.running = false)
    (hroom : s.notices.entries.length < 16) (hroute : (s.classRoute .wake).route ≠ .console)
    (hm : s.holder .modem ≠ none) :
    (s.wakeBy src).notices.waitsForModem s.notices.nextSeq
      (.wake ((s.power.wake.sources ++ [(src, s.now)]).map (·.1))) := by
  have hnotices : (s.wakeRuns src).notices = s.notices := by simp [State.wakeRuns, State.wakeTaken]
  have htables : (s.wakeRuns src).tables = s.tables := by simp [State.wakeRuns, State.wakeTaken]
  have hwaits := State.enqueue_waits (s := s.wakeRuns src)
    (n := .wake ((s.power.wake.sources ++ [(src, s.now)]).map (·.1))) (by rw [hnotices]; exact hroom)
    (by rw [State.classRoute, htables]; exact hroute)
  rw [hnotices] at hwaits
  exact State.wakeBy_waits hparked hrestore hm (s.wakeOffered_notices hstopped src ▸ hwaits)

theorem NoticeQueue.exists_of_waitsForModem {q : NoticeQueue} {seq : Nat} {n : Notice}
    (h : q.waitsForModem seq n) : ∃ e ∈ q.entries, e.seq = seq ∧ e.notice = n := by
  obtain ⟨e, he, hseq, hnotice, -⟩ := h
  exact ⟨e, he, hseq, hnotice⟩

theorem State.wakeBy_noticed (hparked : s.power.state = .parked)
    (hrestore : s.tables.power.restore ≤ s.power.sample) : s.wakeNoticed (s.wakeBy src) src :=
  fun hstopped hroom hroute hm => NoticeQueue.exists_of_waitsForModem
    (State.wakeBy_waitsForModem hparked hrestore hstopped hroom hroute hm)

/-- A wake speaks of the wake record, the clock and the role table as they stood. -/
theorem State.wokenBy_congr (hwake : u.power.wake = s.power.wake) (htime : u.time = s.time)
    (htables : u.tables = s.tables) (h : u.wokenBy t src) : s.wokenBy t src := by
  simpa only [State.wokenBy, State.now, hwake, htime, htables] using h

/-! #### Below RESTORE -/

/-- A wake below RESTORE enters HOLDUP with both views pending (R206). -/
theorem State.wakeBy_wakesLow (hparked : s.power.state = .parked)
    (hlow : s.power.sample < s.tables.power.restore) :
    s.wokenLow (s.wakeBy src) src
      ∧ (s.wakeBy src).acct = { s.acct.interrupted with unwritten := false } := by
  obtain ⟨hpower, hlink, hdistance, hintercom, -, hacct, hwrites, hmeter, -, hrecord⟩ :=
    (s.wakeTaken src).enterHoldup_does
  rw [State.wakeBy_low hparked hlow]
  refine ⟨⟨by rw [hpower], by rw [hpower], by rw [hpower], by rw [hpower]; rfl, ?_, ?_, hdistance,
    hintercom, ?_, (s.wakeTaken src).acct.interrupted.carry, ?_, ?_, ?_⟩, hacct⟩
  · rw [hlink]
    exact PortState.stop_stopped _ _
  · rw [hlink]
    exact PortState.stop_stopped _ _
  · unfold State.viewsRenewed
    rw [hmeter]
    exact State.renewViews_renewed _
  · rw [hacct]
    rfl
  · rw [hacct]
    rfl
  · rw [hwrites, hrecord, hacct]
    exact List.mem_append_right _ (List.mem_singleton_self _)

theorem State.wokenLow_congr (hwake : u.power.wake = s.power.wake) (htime : u.time = s.time)
    (h : u.wokenLow t src) : s.wokenLow t src := by
  simpa only [State.wokenLow, State.now, hwake, htime] using h

/-! #### The four sources -/

/-- A closed ignition wakes a part in PARKED (R206). -/
theorem exec_ignitionOn_parked (hparked : s.power.state = .parked) (hpin : s.pins.ignition = false) :
    exec .ignitionOn s =
      .next (State.wakeBy { s with pins := { s.pins with ignition := true } } .ignition) := by
  refine congrArg Host.Outcome.next ?_
  rw [if_neg (by simp [hparked]), if_neg (by simp [hpin])]

/-- The emergency switch closed, its hold begun (R132). -/
def State.switchTaken (s : State) : State :=
  State.holdClose { s with pins := { s.pins with emergencyClosed := true } }

theorem State.switchTaken_same (s : State) : s.sameBut [.pins, .sign] s.switchTaken := by
  intro p hp
  cases p <;> simp_all [Part.same, State.switchTaken]

theorem State.switchTaken_hold (h : s.sign.hold = .released) :
    s.switchTaken.sign.hold = .timing (if s.sign.emergency.active then 10 else 2) := by
  simp [State.switchTaken, State.holdClose, h]

/-- A closed emergency switch wakes a part in PARKED (R206). -/
theorem exec_emergencySwitchClose_parked (hparked : s.power.state = .parked)
    (hpin : s.pins.emergencyClosed = false) :
    exec .emergencySwitchClose s = .next (s.switchTaken.wakeBy .emergencySwitch) := by
  refine congrArg Host.Outcome.next ?_
  rw [if_pos (by simp [State.watchesSwitch, hparked, hpin])]
  rfl

/-- What SHIFT_LIMIT leaves for the wake: the supply, the ports and the tables. -/
theorem State.setLimit_keeps {r : ShiftRecord} (h : s.acct.shift.record = some r) :
    s.setLimit.tables = s.tables ∧ s.setLimit.time = s.time ∧ s.setLimit.pins = s.pins
      ∧ s.setLimit.link.front.running = s.link.front.running := by
  have hstill : s.setLimit.link.still = s.link.still := by
    simp [State.setLimit_eq h, State.limitNoticed]
  have hport := State.port_of_still hstill .front
  refine ⟨by simp [State.setLimit_eq h], by simp [State.setLimit_eq h], by simp [State.setLimit_eq h], ?_⟩
  exact (congrArg PortState.running hport).trans rfl

/-- The shift limit reached in PARKED wakes the part (R183, R206). -/
theorem exec_shiftLimitReached_parked (hparked : s.power.state = .parked)
    (hreached : s.limitReached = true)
    (hpark : (s.setLimit.wakeBy .shiftLimit).power.park ≠ .waiting) :
    exec .shiftLimitReached s = .next (s.setLimit.wakeBy .shiftLimit) := by
  have hpowered : s.powered = true := by simp [State.powered, hparked]
  refine exec_powered_of hpowered rfl ?_
  rw [if_pos hreached]
  exact State.parkCheck_of_park hpark

/-- SHIFT_LIMIT and WAKE both wait for the modem after the wake (R206). -/
theorem State.limitWake_waits {r : ShiftRecord} (h : s.acct.shift.record = some r)
    (hparked : s.setLimit.power.state = .parked)
    (hrestore : s.setLimit.tables.power.restore ≤ s.setLimit.power.sample)
    (hstopped : s.link.front.running = false) (hroom : s.notices.entries.length < 15)
    (hlimit : (s.classRoute .shiftLimit).route ≠ .console)
    (hwake : (s.classRoute .wake).route ≠ .console) (hm : s.holder .modem ≠ none) :
    (s.setLimit.wakeBy .shiftLimit).notices.waitsForModem s.notices.nextSeq
        (.shiftLimit r.number r.elapsed)
      ∧ (s.setLimit.wakeBy .shiftLimit).notices.waitsForModem ((s.notices.nextSeq + 1) % 65536)
        (.wake ((s.setLimit.power.wake.sources ++
          [(WakeSource.shiftLimit, s.setLimit.now)]).map (·.1))) := by
  obtain ⟨htables, -, -, hrunning⟩ := State.setLimit_keeps h
  obtain ⟨-, hseq, ⟨hnotices, -⟩, -⟩ := State.setLimit_does h
  rw [State.offerNotice_stopped _ hstopped] at hnotices
  have hstill : s.setLimit.link.front.running = false := hrunning.trans hstopped
  have hspace : s.setLimit.notices.entries.length < 16 := by
    rw [hnotices, NoticeQueue.enqueue_joins (Nat.lt_succ_of_lt hroom), List.length_append,
      List.length_singleton]
    omega
  have hmodem : s.setLimit.holder .modem ≠ none := by
    rw [State.holder_congr htables]
    exact hm
  have hwaits : s.setLimit.notices.waitsForModem s.notices.nextSeq (.shiftLimit r.number r.elapsed) :=
    hnotices ▸ State.enqueue_waits (Nat.lt_succ_of_lt hroom) hlimit
  refine ⟨State.wakeBy_waits hparked hrestore hmodem ?_, ?_⟩
  · rw [State.wakeOffered_notices hstill]
    exact NoticeQueue.enqueue_keeps_waiting hspace hwaits
  · rw [← hseq]
    exact State.wakeBy_waitsForModem hparked hrestore hstill hspace
      (by rw [State.classRoute, htables]; exact hwake) hmodem

end

end Sys2Proof.Machine
end

section
/-! ### Parking and wakes, settled -/

namespace Sys2Proof.Machine

open Sys2Proof

section
variable {s : State}

/-- The source a line burst records (R206). -/
def burstSource : Seg → WakeSource
  | .front => .frontLine
  | .rear => .rearLine

theorem exec_lineWakeBurst (seg : Seg) (s : State) :
    exec (.lineWakeBurst seg) s = .next (s.wakeBy (burstSource seg)) := by
  cases seg <;> rfl

/-- The four wakes with the supply at RESTORE. -/
theorem wakes_high (hparked : s.power.state = .parked)
    (hrestore : s.tables.power.restore ≤ s.power.sample) :
    (∀ seg, ∃ t, exec (.lineWakeBurst seg) s = .next t ∧ s.wokenBy t (burstSource seg)
        ∧ s.wakeNoticed t (burstSource seg)
        ∧ t.notices.nextSeq = (s.notices.nextSeq + 1) % 65536 ∧ t.meter.state = s.meter.state)
      ∧ (s.pins.ignition = false →
        ∃ t, exec .ignitionOn s = .next t ∧ s.wokenBy t .ignition ∧ s.wakeNoticed t .ignition
          ∧ t.notices.nextSeq = (s.notices.nextSeq + 1) % 65536 ∧ t.meter.state = s.meter.state
          ∧ t.pins = { s.pins with ignition := true } ∧ t.power.park = .stopped)
      ∧ (s.pins.emergencyClosed = false →
        ∃ t, exec .emergencySwitchClose s = .next t ∧ s.wokenBy t .emergencySwitch
          ∧ s.wakeNoticed t .emergencySwitch
          ∧ t.notices.nextSeq = (s.notices.nextSeq + 1) % 65536 ∧ t.meter.state = s.meter.state
          ∧ t.pins = { s.pins with emergencyClosed := true }
          ∧ (s.sign.hold = .released →
            t.sign.hold = .timing (if s.sign.emergency.active then 10 else 2))) := by
  refine ⟨fun seg => ?_, fun hpin => ?_, fun hpin => ?_⟩
  · obtain ⟨hwoken, hseq, hmeter, -⟩ := State.wakeBy_wakes (src := burstSource seg) hparked hrestore
    exact ⟨_, exec_lineWakeBurst seg s, hwoken, State.wakeBy_noticed hparked hrestore, hseq, hmeter⟩
  · let u : State := { s with pins := { s.pins with ignition := true } }
    obtain ⟨hwoken, hseq, hmeter, hpins, -⟩ :=
      State.wakeBy_wakes (s := u) (src := .ignition) hparked hrestore
    obtain ⟨-, -, hpark⟩ := State.wakeBy_power (s := u) (src := .ignition) hparked hrestore
    exact ⟨_, exec_ignitionOn_parked hparked hpin, hwoken,
      State.wakeBy_noticed (s := u) hparked hrestore, hseq, hmeter, hpins, hpark⟩
  · have hsame := s.switchTaken_same
    have hpower : s.switchTaken.power = s.power := hsame .power (by decide)
    have htables : s.switchTaken.tables = s.tables := hsame .tables (by decide)
    have htime : s.switchTaken.time = s.time := hsame .time (by decide)
    have hnotices : s.switchTaken.notices = s.notices := hsame .notices (by decide)
    have hlink : s.switchTaken.link = s.link := hsame .link (by decide)
    have hstate : s.switchTaken.meter = s.meter := hsame .meter (by decide)
    have hpins : s.switchTaken.pins = { s.pins with emergencyClosed := true } := by
      simp [State.switchTaken]
    have hhigh : s.switchTaken.tables.power.restore ≤ s.switchTaken.power.sample := by
      rw [htables, hpower]
      exact hrestore
    have hwas : s.switchTaken.power.state = .parked := by rw [hpower, hparked]
    obtain ⟨hwoken, hseq, hmeter, hkept, -, hhold⟩ :=
      State.wakeBy_wakes (src := .emergencySwitch) hwas hhigh
    have hnoticed := State.wakeBy_noticed (src := .emergencySwitch) hwas hhigh
    simp only [State.wakeNoticed, State.classRoute, State.now, State.holder, hlink, hnotices, htables,
      htime, hpower] at hnoticed
    exact ⟨_, exec_emergencySwitchClose_parked hparked hpin,
      State.wokenBy_congr (by rw [hpower]) htime htables hwoken, hnoticed, by rw [hseq, hnotices],
      by rw [hmeter, hstate], by rw [hkept, hpins], fun h => hhold.trans (State.switchTaken_hold h)⟩

/-- The wake by the shift limit, with the supply at RESTORE. -/
theorem limitWake_high (hparked : s.power.state = .parked)
    (hrestore : s.tables.power.restore ≤ s.power.sample) {r : ShiftRecord}
    (h : s.acct.shift.record = some r) (hreached : s.limitReached = true) :
    ∃ t, exec .shiftLimitReached s = .next t ∧ s.wokenBy t .shiftLimit
      ∧ t.acct.shift.limitSet = true
      ∧ t.notices.nextSeq = (s.notices.nextSeq + 2) % 65536
      ∧ (s.link.front.running = false → s.notices.entries.length < 15 →
        (s.classRoute .shiftLimit).route ≠ .console → (s.classRoute .wake).route ≠ .console →
        s.holder .modem ≠ none →
        (∃ e ∈ t.notices.entries, e.seq = s.notices.nextSeq
          ∧ e.notice = .shiftLimit r.number r.elapsed)
        ∧ ∃ e ∈ t.notices.entries, e.seq = (s.notices.nextSeq + 1) % 65536
          ∧ e.notice = .wake ((s.power.wake.sources ++ [(WakeSource.shiftLimit, s.now)]).map (·.1)))
      ∧ t.meter.state = (if s.meter.state = .vacant then .offDuty else s.meter.state) := by
  obtain ⟨htables, htime, -, -⟩ := State.setLimit_keeps h
  obtain ⟨hshift, hnext, -, hstate, -, c, hpower⟩ := State.setLimit_does h
  have hwas : s.setLimit.power.state = .parked := by rw [hpower, hparked]
  have hhigh : s.setLimit.tables.power.restore ≤ s.setLimit.power.sample := by
    rw [htables, hpower]
    exact hrestore
  have hwake : s.setLimit.power.wake = s.power.wake := by rw [hpower]
  obtain ⟨hwoken, hseq, hmeter, -, hacct, -⟩ := State.wakeBy_wakes (src := .shiftLimit) hwas hhigh
  obtain ⟨-, -, hpark⟩ := State.wakeBy_power (src := .shiftLimit) hwas hhigh
  have hdelay : (s.setLimit.wakeBy .shiftLimit).power.park ≠ .waiting := by
    rw [hpark]
    split <;> simp
  refine ⟨_, exec_shiftLimitReached_parked hparked hreached hdelay,
    State.wokenBy_congr hwake htime htables hwoken, by rw [hacct, hshift], ?_, ?_, hmeter.trans hstate⟩
  · rw [hseq, hnext]
    omega
  · intro hstopped hroom hlimit hroute hm
    obtain ⟨hfirst, hsecond⟩ :=
      State.limitWake_waits h hwas hhigh hstopped hroom hlimit hroute hm
    rw [hwake, show s.setLimit.now = s.now from congrArg (·.backup.counter) htime] at hsecond
    exact ⟨NoticeQueue.exists_of_waitsForModem hfirst, NoticeQueue.exists_of_waitsForModem hsecond⟩

/-- The four wakes with the supply below RESTORE. -/
theorem wakes_low (hparked : s.power.state = .parked)
    (hlow : s.power.sample < s.tables.power.restore) :
    (∀ seg, ∃ t, exec (.lineWakeBurst seg) s = .next t ∧ s.wokenLow t (burstSource seg))
      ∧ (s.pins.ignition = false → ∃ t, exec .ignitionOn s = .next t ∧ s.wokenLow t .ignition)
      ∧ (s.pins.emergencyClosed = false →
        ∃ t, exec .emergencySwitchClose s = .next t ∧ s.wokenLow t .emergencySwitch)
      ∧ ∀ r, s.acct.shift.record = some r → s.limitReached = true →
        ∃ t, exec .shiftLimitReached s = .next t ∧ s.wokenLow t .shiftLimit
          ∧ t.acct.shift.limitSet = true := by
  refine ⟨fun seg => ?_, fun hpin => ?_, fun hpin => ?_, fun r h hreached => ?_⟩
  · exact ⟨_, exec_lineWakeBurst seg s, (State.wakeBy_wakesLow hparked hlow).1⟩
  · let u : State := { s with pins := { s.pins with ignition := true } }
    exact ⟨_, exec_ignitionOn_parked hparked hpin, (State.wakeBy_wakesLow (s := u) hparked hlow).1⟩
  · have hpower : s.switchTaken.power = s.power := s.switchTaken_same .power (by decide)
    have htables : s.switchTaken.tables = s.tables := s.switchTaken_same .tables (by decide)
    have hwoken := State.wakeBy_wakesLow (s := s.switchTaken) (src := .emergencySwitch)
      (by rw [hpower, hparked]) (by rw [hpower, htables]; exact hlow)
    exact ⟨_, exec_emergencySwitchClose_parked hparked hpin,
      State.wokenLow_congr (by rw [hpower]) (s.switchTaken_same .time (by decide)) hwoken.1⟩
  · obtain ⟨htables, htime, -, -⟩ := State.setLimit_keeps h
    obtain ⟨hshift, -, -, -, -, c, hpower⟩ := State.setLimit_does h
    obtain ⟨hwoken, hacct⟩ := State.wakeBy_wakesLow (s := s.setLimit) (src := .shiftLimit)
      (by rw [hpower, hparked]) (by rw [hpower, htables]; exact hlow)
    have hpark : (s.setLimit.wakeBy .shiftLimit).power.park ≠ .waiting := by
      obtain ⟨-, -, hstopped, -⟩ := hwoken
      simp [hstopped]
    exact ⟨_, exec_shiftLimitReached_parked hparked hreached hpark,
      State.wokenLow_congr (by rw [hpower]) htime hwoken, by rw [hacct]; exact congrArg (·.limitSet) hshift⟩

end

/-- Settles O58: the park delay by its rows, the wakes by `wakeBy_wakes` and `wakeBy_wakesLow`. -/
theorem parkingAndWake : Obligations.ParkingAndWake := by
  intro s
  refine ⟨fun hrun hpark hpin => ?_, fun hrun => ?_, fun n hrun hpark => ⟨fun hopen => ?_,
    fun hopen hidle htest => ?_⟩, fun hparked hrestore => ?_, fun hparked hlow => ?_,
    fun seg hparked => ?_⟩
  · exact congrArg Host.Outcome.next (if_pos ⟨hrun, hpark, hpin⟩)
  · exact congrArg Host.Outcome.next (if_pos hrun)
  · rw [exec_parkDelayExpiry_of hrun hpark, State.mayPark_open hopen]
    rfl
  · obtain ⟨hstate, hstopped, hwake, hlink, hrest⟩ := s.enterParked_does
    refine ⟨_, (exec_parkDelayExpiry_of hrun hpark).trans (congrArg Host.Outcome.next
      (if_pos (State.mayPark_of hrun hopen hidle htest))), hstate, hstopped, hwake, ?_, ?_, ?_, hrest⟩
    · rw [hlink]
      exact PortState.stop_stopped _ _
    · rw [hlink]
      exact PortState.stop_stopped _ _
    · rw [hlink]
      rfl
  · obtain ⟨hburst, hignition, hswitch⟩ := wakes_high hparked hrestore
    refine ⟨fun seg => ?_, hignition, hswitch, fun r h hclear hlimit helapsed =>
      limitWake_high hparked hrestore h (State.limitReached_of h hclear hlimit helapsed)⟩
    cases seg
    · exact hburst .front
    · exact hburst .rear
  · obtain ⟨hburst, hignition, hswitch, hlimitWake⟩ := wakes_low hparked hlow
    refine ⟨fun seg => ?_, hignition, hswitch, fun r h hclear hlimit helapsed =>
      hlimitWake r h (State.limitReached_of h hclear hlimit helapsed)⟩
    cases seg
    · exact hburst .front
    · exact hburst .rear
  · exact congrArg Host.Outcome.next (if_neg hparked)

end Sys2Proof.Machine
end

section
/-! ### The start-up sequence (R209 to R211) -/

namespace Sys2Proof.Machine

open Sys2Proof

/-- The payment controller but for its lists, which a start-up fills (R177). -/
def Payment.still (p : Payment) : Payment := { p with tenders := [], advice := [], ackTimer := .stopped }

/-- What every step of a start-up keeps of the values it has given the blocks: the steps restore the trip,
the tenders and the shift, offer notices and begin writes (R210). -/
structure State.restores (s t : State) : Prop where
  link : t.link.still = s.link.still
  tables : t.tables = s.tables
  stored : t.store.tables = s.store.tables
  epoch : t.store.epoch = s.store.epoch
  pay : t.pay.still = s.pay.still
  window : t.mgmt.window = s.mgmt.window
  now : t.now = s.now
  staged : t.time.staged = s.time.staged
  closing : t.meter.closing = s.meter.closing
  correction : t.meter.correction = s.meter.correction
  sample : t.power.sample = s.power.sample

/-- No waiting write changes the tables of the store. -/
def State.tableFree (s : State) : Prop := ∀ w ∈ s.writes, ∀ st : Store, (st.apply w).tables = st.tables

section
variable {s t u : State}

theorem State.restores_refl (s : State) : s.restores s :=
  ⟨rfl, rfl, rfl, rfl, rfl, rfl, rfl, rfl, rfl, rfl, rfl⟩

theorem State.restores_trans (h : s.restores t) (h' : t.restores u) : s.restores u where
  link := h'.link.trans h.link
  tables := h'.tables.trans h.tables
  stored := h'.stored.trans h.stored
  epoch := h'.epoch.trans h.epoch
  pay := h'.pay.trans h.pay
  window := h'.window.trans h.window
  now := h'.now.trans h.now
  staged := h'.staged.trans h.staged
  closing := h'.closing.trans h.closing
  correction := h'.correction.trans h.correction
  sample := h'.sample.trans h.sample

theorem State.restores_ite {p : Prop} [Decidable p] (h : s.restores t) (h' : s.restores u) :
    s.restores (if p then t else u) := by
  split
  · exact h
  · exact h'

/-! #### Writes -/

theorem Store.apply_epoch (st : Store) (w : StoreWrite) : (st.apply w).epoch = st.epoch := by
  cases w <;> simp [Store.apply, Store.carried, Store.withTotals]

theorem Store.foldl_apply_epoch (l : List StoreWrite) (st : Store) :
    (l.foldl Store.apply st).epoch = st.epoch := by
  induction l generalizing st with
  | nil => rfl
  | cons w l ih => exact (ih _).trans (st.apply_epoch w)

theorem Store.foldl_apply_tables {l : List StoreWrite} (st : Store)
    (h : ∀ w ∈ l, ∀ st : Store, (st.apply w).tables = st.tables) :
    (l.foldl Store.apply st).tables = st.tables := by
  induction l generalizing st with
  | nil => rfl
  | cons w l ih =>
    exact (ih _ fun x hx => h x (List.mem_cons_of_mem w hx)).trans (h w (by simp) st)

theorem State.tableFree_append {w : StoreWrite} (h : s.tableFree) (hwrites : t.writes = s.writes ++ [w])
    (hw : ∀ st : Store, (st.apply w).tables = st.tables) : t.tableFree := by
  intro x hx
  rw [hwrites] at hx
  rcases List.mem_append.1 hx with hx | hx
  · exact h x hx
  · obtain rfl := List.mem_singleton.1 hx
    exact hw

theorem State.tableFree_nil (h : s.writes = []) : s.tableFree := fun w hw => by simp [h] at hw

theorem State.flushWrites_restores (h : s.tableFree) : s.restores s.flushWrites where
  link := rfl
  tables := rfl
  stored := Store.foldl_apply_tables s.store h
  epoch := Store.foldl_apply_epoch s.writes s.store
  pay := rfl
  window := rfl
  now := rfl
  staged := rfl
  closing := rfl
  correction := rfl
  sample := rfl

theorem State.offerNotice_restores (s : State) (n : Notice) : s.restores (s.offerNotice n) := by
  constructor <;> simp [State.now]

theorem State.beginCheckpoint_restores (s : State) (o : Option Ref) : s.restores (s.beginCheckpoint o) := by
  obtain ⟨c, hc⟩ := s.beginCheckpoint_power o
  constructor <;> simp [State.now, hc]

theorem State.begin_restores (s : State) (w : StoreWrite) : s.restores (s.begin w) :=
  ⟨rfl, rfl, rfl, rfl, rfl, rfl, rfl, rfl, rfl, rfl, rfl⟩

theorem State.countInterrupt_restores (s : State) (cause : Cause) : s.restores (s.countInterrupt cause) :=
  State.restores_ite ⟨rfl, rfl, rfl, rfl, rfl, rfl, rfl, rfl, rfl, rfl, rfl⟩ s.restores_refl

theorem State.countInterrupt_tableFree (h : s.tableFree) (cause : Cause) :
    (s.countInterrupt cause).tableFree := by
  by_cases hc : cause = .coldAfterHoldup
  · exact State.tableFree_append h (congrArg State.writes (if_pos hc)) fun _ => rfl
  · have heq : s.countInterrupt cause = s := if_neg hc
    rw [heq]
    exact h

/-! #### The restored trip and pending metrology -/

theorem State.handTrim_restores (s : State) (st : Staged) : s.restores (s.handTrim st) := by
  cases st
  · exact s.restores_refl
  · exact ⟨rfl, rfl, rfl, rfl, rfl, rfl, rfl, rfl, rfl, rfl, rfl⟩

theorem State.putInForce_restores (s : State) (st : Staged) (app : AppRecord) (o : AppOrigin) :
    s.restores (s.putInForce st app o) := by
  have hforce : s.restores (s.inForce st app o) :=
    ⟨rfl, rfl, rfl, rfl, rfl, rfl, rfl, rfl, rfl, rfl, rfl⟩
  rw [State.putInForce_eq]
  exact State.restores_trans hforce (State.offerNotice_restores _ _)

theorem State.beginApplication_restores (s : State) (st : Staged) (o : AppOrigin) :
    s.restores (s.beginApplication st o) :=
  ⟨rfl, rfl, rfl, rfl, rfl, rfl, rfl, rfl, rfl, rfl, rfl⟩

/-- A pending copy applied within the start-up leaves no write waiting (R35). -/
theorem State.applyPending_restores (h : s.tableFree) :
    s.restores s.applyPending ∧ s.applyPending.tableFree := by
  unfold State.applyPending
  cases hnext : s.mgmt.slot.nextCopy with
  | none => exact ⟨s.restores_refl, h⟩
  | some st =>
    have hbegun : (s.beginApplication st .close).tableFree :=
      State.tableFree_append h rfl fun _ => rfl
    refine ⟨State.restores_trans (s.beginApplication_restores st .close) (State.restores_trans
      (State.flushWrites_restores hbegun) (State.restores_trans (State.handTrim_restores _ st)
        (State.putInForce_restores _ _ _ _))), State.tableFree_nil ?_⟩
    simp only [State.putInForce_eq, State.offerNotice_keeps]
    cases st <;> rfl

/-- A trip restored, before what follows from its band (R211). -/
def State.tripRestored (s : State) (t : SavedTrip) (m : MeterState) : State :=
  let r := { t.record with tenders := [], flags := { t.record.flags with powerInterrupted := true } }
  { s with
    engine := s.restoredEngine t m
    meter :=
      { s.meter with
        state := m, trip := some r, snapshot := if m = .pay then some r.fare else none } }

/-- The state a restored trip stands in (R211). -/
def State.restoredMeter (s : State) (rec : SaveRecord) : MeterState :=
  let limit := s.mgmt.metrology.tariffSet.general.resumeLimit
  restoredState rec.meter (rec.timeInvalid || s.time.backup.timeInvalid) (outage rec.time s.now limit) limit

theorem State.restoreTrip_some {rec : SaveRecord} {t : SavedTrip} (h : s.store.restorable rec = some t) :
    s.restoreTrip rec = s.tripRestored t (s.restoredMeter rec) := by
  simp only [State.restoreTrip, h]
  rfl

theorem State.restoreTrip_none {rec : SaveRecord} (h : s.store.restorable rec = none) :
    s.restoreTrip rec =
      State.applyPending (State.applyPending
        { s with meter := { s.meter with state := idleState rec.meter s.acct.shift } }) := by
  simp only [State.restoreTrip, h]

theorem State.restoreTrip_restores (h : s.tableFree) (rec : SaveRecord) :
    s.restores (s.restoreTrip rec) := by
  cases hsaved : s.store.restorable rec with
  | some t =>
    rw [State.restoreTrip_some hsaved]
    exact ⟨rfl, rfl, rfl, rfl, rfl, rfl, rfl, rfl, rfl, rfl, rfl⟩
  | none =>
    have hidle : s.restores { s with meter := { s.meter with state := idleState rec.meter s.acct.shift } } :=
      ⟨rfl, rfl, rfl, rfl, rfl, rfl, rfl, rfl, rfl, rfl, rfl⟩
    obtain ⟨hfirst, hfree⟩ := State.applyPending_restores
      (s := { s with meter := { s.meter with state := idleState rec.meter s.acct.shift } }) h
    rw [State.restoreTrip_none hsaved]
    exact State.restores_trans hidle (State.restores_trans hfirst (State.applyPending_restores hfree).1)

/-! #### The band, the tenders and the shift -/

theorem State.evaluateBand_restores (s : State) : s.restores s.evaluateBand := by
  obtain ⟨t, hmeter⟩ := s.evaluateBand_meter
  have hclosing : s.evaluateBand.meter.closing = s.meter.closing := by rw [hmeter]
  have hcorrection : s.evaluateBand.meter.correction = s.meter.correction := by rw [hmeter]
  constructor <;> simp [State.now, State.evaluateBand_time, hclosing, hcorrection]

theorem State.joinAdvice_pay_still (s : State) (r : AdviceRecord) :
    (s.joinAdvice r).pay.still = s.pay.still := by
  by_cases h : s.canJoin r.ref = true
  · rw [State.joinAdvice_joins h]
    rcases (s.advised r).tryAdvice_pay with hkept | ⟨x, rest, -, hsent⟩
    · rw [hkept, State.advised_pay]
      rfl
    · rw [hsent, State.advised_pay]
      rfl
  · unfold State.joinAdvice
    rw [if_neg h]
    split <;> simp

theorem State.doubtTender_restores (s : State) (t : Tender) : s.restores (s.doubtTender t) := by
  unfold State.doubtTender
  split
  · next f hstatus hcard =>
    let u := (s.modTender t.index fun x => { x with status := .inDoubt, advice := s.joinState f.ref })
    have htender : s.restores u := ⟨rfl, rfl, rfl, rfl, rfl, rfl, rfl, rfl, rfl, rfl, rfl⟩
    have hjoin (v : State) (r : AdviceRecord) : v.restores (v.joinAdvice r) := by
      have hpay := v.joinAdvice_pay_still r
      constructor <;> simp [State.now, hpay]
    exact State.restores_trans htender (State.restores_trans (u.beginCheckpoint_restores none) (hjoin _ _))
  · exact s.restores_refl

theorem State.foldl_doubtTender_restores (l : List Tender) (s : State) :
    s.restores (l.foldl State.doubtTender s) := by
  induction l generalizing s with
  | nil => exact s.restores_refl
  | cons t l ih => exact State.restores_trans (s.doubtTender_restores t) (ih _)

theorem State.restoreTenders_restores (s : State) (rec : SaveRecord) :
    s.restores (s.restoreTenders rec) := by
  unfold State.restoreTenders
  split
  · next t _ =>
    have hlist : s.restores { s with pay := { s.pay with tenders := t.record.tenders } } :=
      ⟨rfl, rfl, rfl, rfl, rfl, rfl, rfl, rfl, rfl, rfl, rfl⟩
    exact State.restores_trans hlist (State.foldl_doubtTender_restores _ _)
  · exact s.restores_refl

theorem State.limitTold_restores (s : State) : s.restores s.limitTold := by
  unfold State.limitTold
  split
  · have hmeter := s.setMeterState_meter .offDuty
    obtain ⟨c, hc⟩ := s.setMeterState_power .offDuty
    have hclosing : (s.setMeterState .offDuty).meter.closing = s.meter.closing := by rw [hmeter]
    have hcorrection : (s.setMeterState .offDuty).meter.correction = s.meter.correction := by rw [hmeter]
    constructor <;> simp [State.now, hc, hclosing, hcorrection]
  · exact s.restores_refl

theorem State.setLimit_restores (s : State) : s.restores s.setLimit := by
  cases h : s.acct.shift.record with
  | none => simp only [State.setLimit, h, State.restores_refl]
  | some r =>
    have hnoticed : s.restores (s.limitNoticed r) := by
      constructor <;> simp [State.limitNoticed, State.now]
    have htrigger (v : State) (x : Trigger) : v.restores (v.trigger x) := by
      constructor <;> simp [State.now]
    rw [State.setLimit_eq h]
    exact State.restores_trans hnoticed (State.restores_trans (State.limitTold_restores _) (htrigger _ _))

theorem State.restoreShift_restores (s : State) (cause : Cause) : s.restores (s.restoreShift cause) := by
  have hshift (v : State) (f : ShiftRecord → ShiftRecord) : v.restores (v.modShift f) :=
    ⟨rfl, rfl, rfl, rfl, rfl, rfl, rfl, rfl, rfl, rfl, rfl⟩
  have hlimit : s.restores (if s.limitReached then s.setLimit else s) :=
    State.restores_ite s.setLimit_restores s.restores_refl
  exact State.restores_ite (State.restores_trans hlimit (hshift _ _)) hlimit

theorem State.startWrites_restores (s : State) (c : CauseRecord) : s.restores (s.startWrites c) := by
  have hmark : s.restores (if s.store.mark = .consumed then s else s.begin .markConsumed) :=
    State.restores_ite s.restores_refl (s.begin_restores _)
  exact State.restores_trans hmark (State.restores_trans (State.begin_restores _ (.cause c))
    (State.beginCheckpoint_restores _ none))

end

end Sys2Proof.Machine
end

section
/-! ### What a start-up leaves (R210) -/

namespace Sys2Proof.Machine

open Sys2Proof

/-- Both ports running. -/
def Link.run (l : Link) : Link :=
  { l with front := { l.front with running := true }, rear := { l.rear with running := true } }

theorem Link.run_still (l : Link) : l.run.still = l.still.run := rfl

section
variable {s t u : State}

/-! #### The values of every start-up -/

theorem State.startNotices_keeps (s : State) (cause : Cause) :
    (s.startNotices cause).tables = s.tables ∧ (s.startNotices cause).store = s.store
      ∧ (s.startNotices cause).mgmt = s.mgmt ∧ (s.startNotices cause).pay = s.pay
      ∧ (s.startNotices cause).power = s.power ∧ (s.startNotices cause).writes = s.writes
      ∧ (s.startNotices cause).link.still = s.link.still := by
  unfold State.startNotices
  simp only
  (repeat' split) <;> simp

/-- What the values of every start-up are, for what `startedUp` speaks of (R22, R35, R117, R178). -/
theorem State.startBase_does (s : State) (cause : Cause) (lost : Bool) :
    (s.startBase cause lost).link.still.run = (Link.start s.store.tables.roles).still
      ∧ (s.startBase cause lost).tables = s.store.tables
      ∧ (s.startBase cause lost).store = { s.store with epoch := (s.store.epoch + 1) % 256 }
      ∧ (s.startBase cause lost).mgmt = ⟨none, s.store.metrology, s.store.slot⟩
      ∧ (s.startBase cause lost).time =
        { backup := { s.time.backup with alive := true }, newTrim := none
          band := s.time.backup.keptBand, staged := none }
      ∧ (s.startBase cause lost).meter.closing = false ∧ (s.startBase cause lost).meter.correction = 0
      ∧ (s.startBase cause lost).pay =
        { session := .idle, tenders := [], late := [], auth := .stopped, authExpired := false
          held := none, advice := s.store.advice, ackTimer := .stopped
          epoch := (s.store.epoch + 1) % 256, counters := .zero }
      ∧ (s.startBase cause lost).power.sample = s.power.sample
      ∧ (s.startBase cause lost).writes = s.writes := by
  refine ⟨?_, by simp [State.startBase, State.startNotices_keeps],
    by simp [State.startBase, State.startNotices_keeps],
    by simp [State.startBase, State.startNotices_keeps], by simp [State.startBase],
    by simp [State.startBase], by simp [State.startBase],
    by simp [State.startBase, State.startNotices_keeps],
    by simp [State.startBase, State.startNotices_keeps],
    by simp [State.startBase, State.startNotices_keeps]⟩
  simp only [State.startBase, State.startNotices_keeps]
  rfl

/-- The state a start-up has restored, before its writes and the blocks' start (steps 1 to 5 of R210). -/
def State.restored (s : State) (cause : Cause) (lost : Bool) : State :=
  let rec_ := s.store.source cause
  ((((s.startBase cause lost).countInterrupt cause).restoreTrip rec_).evaluateBand.restoreTenders
    rec_).restoreShift cause

/-- The restart cause record of a start-up (R212). -/
def State.startCause (s : State) (cause : Cause) (lost : Bool) : CauseRecord :=
  let rec_ := s.store.source cause
  let u := ((s.startBase cause lost).countInterrupt cause).restoreTrip rec_
  u.causeRecord cause (s.store.fromSave cause) rec_ (u.store.restorable rec_) u.meter.state

theorem State.startUp_eq (s : State) (cause : Cause) (lost : Bool) (ambient : Nat) :
    s.startUp cause lost ambient =
      ((s.restored cause lost).startWrites (s.startCause cause lost)).startBlocks ambient := rfl

theorem State.restored_restores (h : s.tableFree) (cause : Cause) (lost : Bool) :
    (s.startBase cause lost).restores (s.restored cause lost) := by
  obtain ⟨-, -, -, -, -, -, -, -, -, hwrites⟩ := s.startBase_does cause lost
  have hbase : (s.startBase cause lost).tableFree := by
    unfold State.tableFree
    rw [hwrites]
    exact h
  exact State.restores_trans (State.countInterrupt_restores _ cause) (State.restores_trans
    (State.restoreTrip_restores (State.countInterrupt_tableFree hbase cause) _) (State.restores_trans
      (State.evaluateBand_restores _) (State.restores_trans (State.restoreTenders_restores _ _)
        (State.restoreShift_restores _ cause))))

/-! #### The start of the blocks -/

/-- The blocks started, before the attempts of the ports' start (step 7 of R210). -/
def State.blocksStarted (s : State) (ambient : Nat) : State :=
  let level := indicated s.tables.brightness ambient
  let c := s.mgmt.metrology.calibration
  let timer : Timer := if s.meter.state = .hired then .running 60 else .stopped
  State.startPark (State.takeSwitch (State.recompose (State.startIntercom
    { s with
      power := { s.power with state := .run, checkpoint := timer }
      link := s.link.run
      distance := .start c
      time := { s.time with backup := { s.time.backup with trim := c.trim } }
      sign := { s.sign with lamps := List.replicate 6 .start, ambient := ⟨level, ambient, level, 0⟩ } }
    0)))

theorem State.startBlocks_eq (s : State) (ambient : Nat) :
    s.startBlocks ambient = (s.blocksStarted ambient).portsStarted := rfl

theorem State.takeSwitch_keeps (s : State) :
    s.takeSwitch.link = s.link ∧ s.takeSwitch.tables = s.tables ∧ s.takeSwitch.mgmt = s.mgmt
      ∧ s.takeSwitch.time = s.time ∧ s.takeSwitch.distance = s.distance
      ∧ s.takeSwitch.engine = s.engine ∧ s.takeSwitch.meter = s.meter
      ∧ s.takeSwitch.intercom = s.intercom ∧ s.takeSwitch.pay = s.pay ∧ s.takeSwitch.power = s.power
      ∧ s.takeSwitch.store = s.store :=
  have h := s.takeSwitch_same
  ⟨h .link (by decide), h .tables (by decide), h .mgmt (by decide), h .time (by decide),
    h .distance (by decide), h .engine (by decide), h .meter (by decide), h .intercom (by decide),
    h .pay (by decide), h .power (by decide), h .store (by decide)⟩

theorem State.blocksStarted_keeps (s : State) (ambient : Nat) :
    (s.blocksStarted ambient).link = s.link.run ∧ (s.blocksStarted ambient).tables = s.tables
      ∧ (s.blocksStarted ambient).store = s.store ∧ (s.blocksStarted ambient).pay = s.pay
      ∧ (s.blocksStarted ambient).mgmt = s.mgmt ∧ (s.blocksStarted ambient).meter = s.meter
      ∧ (s.blocksStarted ambient).engine = s.engine ∧ (s.blocksStarted ambient).now = s.now
      ∧ (s.blocksStarted ambient).time.staged = s.time.staged
      ∧ (s.blocksStarted ambient).power.state = .run
      ∧ (s.blocksStarted ambient).power.sample = s.power.sample
      ∧ (s.blocksStarted ambient).distance = .start s.mgmt.metrology.calibration
      ∧ (s.blocksStarted ambient).intercom.run = .running := by
  simp [State.blocksStarted, State.takeSwitch_keeps, State.startIntercom_run, State.now,
    State.startPark]

end

end Sys2Proof.Machine
end

section
/-! ### The part started up (R208 to R210) -/

namespace Sys2Proof.Machine

open Sys2Proof

section
variable {s t u : State} {cause : Cause} {lost : Bool}

/-- A started part, once all has been restored and written, before the blocks start. -/
def State.readied (s : State) (cause : Cause) (lost : Bool) : State :=
  (s.restored cause lost).startWrites (s.startCause cause lost)

theorem State.readied_restores (h : s.tableFree) (cause : Cause) (lost : Bool) :
    (s.startBase cause lost).restores (s.readied cause lost) :=
  State.restores_trans (State.restored_restores h cause lost) (State.startWrites_restores _ _)

/-- The ports as the start of the blocks makes them. -/
theorem State.blocksStarted_link (h : s.tableFree) (ambient : Nat) :
    ((s.readied cause lost).blocksStarted ambient).link.still = (Link.start s.store.tables.roles).still := by
  obtain ⟨hlink, -⟩ := s.startBase_does cause lost
  obtain ⟨hblocks, -⟩ := (s.readied cause lost).blocksStarted_keeps ambient
  rw [hblocks, Link.run_still, (State.readied_restores h cause lost).link, hlink]

/-- With every node just started, the ports' start is a drain attempt. -/
theorem State.startUp_drains (h : s.tableFree) (ambient : Nat) :
    s.startUp cause lost ambient = ((s.readied cause lost).blocksStarted ambient).drain := by
  have hstill := State.blocksStarted_link (cause := cause) (lost := lost) h ambient
  have hserved : ((s.readied cause lost).blocksStarted ambient).unserved :=
    State.unserved_of_started s.store.tables.roles.front s.store.tables.roles.rear
      (congrArg (fun l : Link => l.front.nodes) hstill) (congrArg (fun l : Link => l.rear.nodes) hstill)
  rw [State.startUp_eq, State.startBlocks_eq]
  exact State.portsStarted_unserved hserved

/-- A link whose queues aside it is as a start-up leaves it (R22). -/
theorem State.started_of_still {roles : RoleTable} (h : t.link.still = (Link.start roles).still) :
    t.link.front.fresh roles.front ∧ t.link.rear.fresh roles.rear ∧ t.link.front.violations = 0
      ∧ t.link.rear.violations = 0 ∧ t.link.noMatch = 0 ∧ t.link.localRejects = 0
      ∧ t.link.monitor = [] ∧ t.link.turn = .transmit := by
  have hfield {α : Type} (f : Link → α) : f t.link.still = f (Link.start roles).still := congrArg f h
  exact ⟨⟨hfield (·.front.running), hfield (·.front.mode), hfield (·.front.pointer),
    hfield (·.front.exchange), hfield (·.front.nodes)⟩,
    ⟨hfield (·.rear.running), hfield (·.rear.mode), hfield (·.rear.pointer), hfield (·.rear.exchange),
      hfield (·.rear.nodes)⟩, hfield (·.front.violations), hfield (·.rear.violations),
    hfield (·.noMatch), hfield (·.localRejects), hfield (·.monitor), hfield (·.turn)⟩

/-- Every start-up leaves what `startedUp` says, and the sample it began with (R210). -/
theorem State.startUp_startedUp (h : s.tableFree) (cause : Cause) (lost : Bool) (ambient : Nat) :
    s.startedUp (s.startUp cause lost ambient)
      ∧ (s.startUp cause lost ambient).power.sample = s.power.sample := by
  obtain ⟨-, htables, hstore, hmgmt, htime, hclosing, hcorrection, hpay, hsample, -⟩ :=
    s.startBase_does cause lost
  have hr := State.readied_restores h cause lost
  obtain ⟨-, hvtables, hvstore, hvpay, hvmgmt, hvmeter, -, hvnow, hvstaged, hvrun, hvsample, hvdistance,
    hvintercom⟩ := (s.readied cause lost).blocksStarted_keeps ambient
  have hstill := State.blocksStarted_link (cause := cause) (lost := lost) h ambient
  rw [State.startUp_drains h]
  generalize (s.readied cause lost).blocksStarted ambient = v at *
  have hroles : v.tables = s.store.tables := hvtables.trans (hr.tables.trans htables)
  have hepoch : v.store.epoch = (s.store.epoch + 1) % 256 := by
    rw [hvstore, hr.epoch, hstore]
  have hstored : v.store.tables = s.store.tables := by
    rw [hvstore, hr.stored, hstore]
  have hpayment : v.pay.still = _ := (congrArg Payment.still hvpay).trans (hr.pay.trans
    (congrArg Payment.still hpay))
  have hnextEpoch : v.pay.epoch = (s.store.epoch + 1) % 256 := congrArg (·.epoch) hpayment
  have hidle : v.pay.session.state = .idle := congrArg (·.session.state) hpayment
  have hauth : v.pay.auth = .stopped := congrArg (·.auth) hpayment
  have hcounters : v.pay.counters = .zero := congrArg (·.counters) hpayment
  have hnow : v.now = s.now := hvnow.trans (hr.now.trans (congrArg (·.backup.counter) htime))
  have hstaged : v.time.staged = none := hvstaged.trans (hr.staged.trans (congrArg (·.staged) htime))
  obtain ⟨hfront, hrear, hlinkRest⟩ :=
    State.started_of_still (t := v.drain) (by rw [State.drain_still, hstill])
  have hwindow : v.mgmt.window = none := by rw [hvmgmt, hr.window, hmgmt]
  have hclosed : v.meter.closing = false := by rw [hvmeter, hr.closing, hclosing]
  have hcorrected : v.meter.correction = 0 := by rw [hvmeter, hr.correction, hcorrection]
  simp only [State.startedUp, State.drain_keeps, hvrun, hnextEpoch, hepoch, hroles, hstored, hwindow,
    hidle, hauth, hcounters, hvdistance, hstaged, hvintercom, hclosed, hcorrected, hvsample, hr.sample,
    hsample]
  obtain ⟨hfrontViolations, hrearViolations, hnoMatch, hrejects, hmonitor, hturn⟩ := hlinkRest
  have hdrained : v.drain.now = s.now := by simpa [State.now] using hnow
  exact ⟨⟨trivial, trivial, trivial, trivial, trivial, hfront, hrear, hfrontViolations, hrearViolations,
    hnoMatch, hrejects, hmonitor, hturn, trivial, trivial, trivial, rfl, rfl, rfl, hdrained, trivial,
    trivial, trivial, trivial⟩, trivial⟩

end

end Sys2Proof.Machine
end

section
/-! ### RESTART, pin reset and cold start (R208, R209, R211) -/

namespace Sys2Proof.Machine

open Sys2Proof

section
variable {s t u : State} {rq : Req}

/-! #### RESTART -/

theorem State.decideRestart_refused (h : s.fromMgmt .restart rq) (hopen : s.tripOpen = true) :
    s.decideRestart rq = s.mgmtRespond rq .restart .none .refusedState := by
  rw [State.decideRestart, State.whenAllowed_of _ _ h.2.2, if_pos ((State.tripOpen_iff s).1 hopen)]

/-- The part in RESTARTING, before its answer (R208). -/
def State.restarting (s : State) : State :=
  { s with power := { s.power with state := .restarting, park := .stopped } }

theorem State.decideRestart_begins (h : s.fromMgmt .restart rq) (hopen : s.tripOpen = false)
    (hstate : s.power.state ≠ .restarting) :
    s.decideRestart rq = (s.restarting.mgmtRespond rq .restart .none .ok).beginSave .freshRequest := by
  have hclosed : ¬(s.meter.state = .hired ∨ s.meter.state = .pay) := fun hopened =>
    absurd ((State.tripOpen_iff s).2 hopened) (by simp [hopen])
  rw [State.decideRestart, State.whenAllowed_of _ _ h.2.2, if_neg hclosed, if_neg hstate]
  rfl

/-- A RESTART taken: its answer, and the save begun (R208). -/
theorem State.restart_begins (h : s.fromMgmt .restart rq) :
    let t := (s.restarting.mgmtRespond rq .restart .none .ok).beginSave .freshRequest
    s.sameBut [.link, .power, .acct, .writes] t
      ∧ t.power = { s.power with state := .restarting, park := .stopped }
      ∧ t.writes = s.writes ++ [.save .freshRequest s.saveRecord s.acct.carry s.acct.totalsNow]
      ∧ s.frontTook t (mgmtAnswer rq .restart .none .ok) := by
  intro t
  obtain ⟨hsame, htook⟩ := State.answer_mgmtRespond (s := s.restarting) h.2.1
    (State.front_running_of_fromMgmt (s := s) h) .restart .none .ok .none
  let v := s.restarting.mgmtRespond rq .restart .none .ok
  have hacct : v.acct = s.acct := hsame .acct (by decide)
  have hwrites : v.writes = s.writes := hsame .writes (by decide)
  have hrecord : v.saveRecord = s.saveRecord :=
    State.saveRecord_congr (hsame .time (by decide)) (hsame .meter (by decide))
      (hsame .engine (by decide)) (congrArg (·.tenders) (hsame .pay (by decide)))
      (congrArg (·.emergency) (hsame .sign (by decide))) (by rw [hacct]) (by rw [hacct])
  refine ⟨fun p hp => ?_, hsame .power (by decide), ?_, htook⟩
  · cases p <;> simp_all [Part.same, t, State.restarting]
  · have hbegun : t.writes = v.writes ++ [.save .freshRequest v.saveRecord v.acct.carry v.acct.totalsNow] :=
      rfl
    rw [hbegun, hwrites, hrecord, hacct]

/-- A started part speaks of the stored epoch and the clock as they stood. -/
theorem State.startedUp_congr (hepoch : u.store.epoch = s.store.epoch) (hnow : u.now = s.now)
    (h : u.startedUp t) : s.startedUp t := by
  simpa only [State.startedUp, hepoch, hnow] using h

theorem State.completeWrite_store (s : State) (w : StoreWrite) :
    (s.completeWrite w).store = s.store.apply w := by
  unfold State.completeWrite
  simp only
  split <;> simp

/-- The save of a RESTART complete, the part starts up with cause REQUEST (R208). -/
theorem exec_restartSaveComplete_of {r : SaveRecord} {c : ShiftCarry} {o : Totals} {rest : List StoreWrite}
    (ambient : Nat) (hstate : s.power.state = .restarting)
    (hw : s.writes = .save .freshRequest r c o :: rest) :
    exec (.restartSaveComplete ambient) s =
      .next ((State.completeWrite { s with writes := rest } (.save .freshRequest r c o)).flushWrites.startUp
        .request false ambient) := by
  have hpowered : s.powered = true := by simp [State.powered, hstate]
  have hloud : s.silent (.save .freshRequest r c o) = false := by simp [State.silent, hstate]
  refine congrArg Host.Outcome.next ((State.whenPowered_of _ hpowered).trans ?_)
  rw [if_pos hstate, State.takeWrite_cons _ hw hloud rfl]

theorem exec_restartSaveComplete_startedUp {r : SaveRecord} {c : ShiftCarry} {o : Totals}
    {rest : List StoreWrite} (ambient : Nat) (hstate : s.power.state = .restarting)
    (hw : s.writes = .save .freshRequest r c o :: rest) :
    ∃ t, exec (.restartSaveComplete ambient) s = .next t ∧ s.startedUp t := by
  refine ⟨_, exec_restartSaveComplete_of ambient hstate hw, ?_⟩
  let v := State.completeWrite { s with writes := rest } (.save .freshRequest r c o)
  have hepoch : v.flushWrites.store.epoch = s.store.epoch := by
    have hstore : v.store = s.store.apply (.save .freshRequest r c o) := State.completeWrite_store _ _
    exact (Store.foldl_apply_epoch v.writes v.store).trans (by rw [hstore]; exact Store.apply_epoch _ _)
  have hnow : v.flushWrites.now = s.now := by simp [v, State.now]
  exact State.startedUp_congr hepoch hnow
    (State.startUp_startedUp (s := v.flushWrites) (State.tableFree_nil rfl) .request false ambient).1

/-! #### Pin reset -/

theorem exec_pinReset_of (ambient : Nat) (hpowered : s.powered = true) :
    exec (.pinReset ambient) s = .next (s.cutWrites.1.startUp .pin s.cutWrites.2 ambient) :=
  congrArg Host.Outcome.next (State.whenPowered_of _ hpowered)

theorem exec_pinReset_startedUp (ambient : Nat) (hpowered : s.powered = true) :
    ∃ t, exec (.pinReset ambient) s = .next t ∧ s.startedUp t :=
  ⟨_, exec_pinReset_of ambient hpowered, State.startedUp_congr (u := s.cutWrites.1)
    (Store.foldl_apply_epoch _ s.store) rfl
    (State.startUp_startedUp (s := s.cutWrites.1) (State.tableFree_nil rfl) .pin s.cutWrites.2 ambient).1⟩

/-- With no write begun nothing is cut. -/
theorem State.cutWrites_of_nil (h : s.writes = []) :
    s.cutWrites.1.store = s.store := by
  simp [State.cutWrites, h]

/-! #### Cold start -/

theorem exec_coldStart_startedUp (ambient : Nat) {sample : Nat} (hoff : s.power.state = .off)
    (hw : s.writes = []) (hrestore : s.store.tables.power.restore ≤ sample) :
    ∃ t, exec (.coldStart sample ambient) s = .next t ∧ s.startedUp t ∧ t.power.sample = sample := by
  let v : State := { s with power := { s.power with sample } }
  obtain ⟨hstarted, hsample⟩ :=
    State.startUp_startedUp (s := v) (State.tableFree_nil hw) s.store.coldCause false ambient
  exact ⟨_, congrArg Host.Outcome.next (if_pos ⟨hoff, hrestore⟩),
    State.startedUp_congr (u := v) rfl rfl hstarted, hsample⟩

/-! #### The restored trip (R211) -/

/-- What the later steps of a start-up keep of a restored trip: its state, the engine's mode, the snapshot,
and of its record the number, the fare and POWER_INTERRUPTED. -/
structure State.keepsTrip (s t : State) : Prop where
  state : t.meter.state = s.meter.state
  mode : t.engine.mode = s.engine.mode
  snapshot : t.meter.snapshot = s.meter.snapshot
  trip : ∀ r, s.meter.trip = some r → ∃ r', t.meter.trip = some r' ∧ r'.number = r.number
    ∧ r'.fare = r.fare ∧ r'.flags.powerInterrupted = r.flags.powerInterrupted

theorem State.keepsTrip_of (hengine : t.engine = s.engine) (hstate : t.meter.state = s.meter.state)
    (hsnapshot : t.meter.snapshot = s.meter.snapshot) (htrip : t.meter.trip = s.meter.trip) :
    s.keepsTrip t :=
  ⟨hstate, by rw [hengine], hsnapshot, fun r hr => ⟨r, htrip.trans hr, rfl, rfl, rfl⟩⟩

theorem State.keepsTrip_refl (s : State) : s.keepsTrip s := State.keepsTrip_of rfl rfl rfl rfl

theorem State.keepsTrip_trans (h : s.keepsTrip t) (h' : t.keepsTrip u) : s.keepsTrip u where
  state := h'.state.trans h.state
  mode := h'.mode.trans h.mode
  snapshot := h'.snapshot.trans h.snapshot
  trip r hr := by
    obtain ⟨r', ht, hnumber, hfare, hflag⟩ := h.trip r hr
    obtain ⟨r'', hu, hnumber', hfare', hflag'⟩ := h'.trip r' ht
    exact ⟨r'', hu, hnumber'.trans hnumber, hfare'.trans hfare, hflag'.trans hflag⟩

theorem State.keepsTrip_ite {p : Prop} [Decidable p] (h : s.keepsTrip t) (h' : s.keepsTrip u) :
    s.keepsTrip (if p then t else u) := by
  split
  · exact h
  · exact h'

theorem State.keepsTrip_modTrip (s : State) {f : TripRecord → TripRecord}
    (hf : ∀ r, (f r).number = r.number ∧ (f r).fare = r.fare
      ∧ (f r).flags.powerInterrupted = r.flags.powerInterrupted) : s.keepsTrip (s.modTrip f) where
  state := rfl
  mode := rfl
  snapshot := rfl
  trip r hr := ⟨f r, by simp [State.modTrip, hr], hf r⟩

theorem State.openSegment_keepsTrip (s : State) (n : Nat) (tar : Tariff) :
    s.keepsTrip (s.openSegment n tar) where
  state := rfl
  mode := rfl
  snapshot := rfl
  trip r hr := ⟨{ r with segments := r.segments ++ [.opening n s.now] },
    by simp [State.openSegment, State.modTrip, hr], rfl, rfl, rfl⟩

theorem State.followBand_keepsTrip (s : State) (b : Option Nat) : s.keepsTrip (s.followBand b).1 := by
  unfold State.followBand
  repeat' split
  · exact s.openSegment_keepsTrip _ _
  · exact s.keepsTrip_refl
  · exact s.keepsTrip_modTrip fun _ => ⟨rfl, rfl, rfl⟩
  · exact s.keepsTrip_refl
  · exact s.keepsTrip_refl

theorem State.evaluateBand_keepsTrip (s : State) : s.keepsTrip s.evaluateBand := by
  let b := s.mgmt.metrology.tariffSet.currentBand s.now
  by_cases h : s.time.backup.keptBand = b
  · rw [State.evaluateBand, if_pos h]
    exact State.keepsTrip_of rfl rfl rfl rfl
  · have hband : s.keepsTrip (s.withBand b) := State.keepsTrip_of rfl rfl rfl rfl
    have hchange : (s.withBand b).keepsTrip ((s.withBand b).bandChange b) := by
      unfold State.bandChange
      split
      · exact State.followBand_keepsTrip _ b
      · exact State.keepsTrip_refl _
    have hviews (v : State) : v.keepsTrip v.markViews := by
      have hmeter := v.markViews_meter
      exact State.keepsTrip_of (by simp) (by rw [hmeter]) (by rw [hmeter]) (by rw [hmeter])
    rw [State.evaluateBand_of_ne h]
    exact State.keepsTrip_trans hband (State.keepsTrip_trans hchange (hviews _))

theorem State.foldl_doubtTender_keeps (l : List Tender) (s : State) :
    (l.foldl State.doubtTender s).engine = s.engine ∧ (l.foldl State.doubtTender s).meter = s.meter := by
  induction l generalizing s with
  | nil => exact ⟨rfl, rfl⟩
  | cons t l ih =>
    have hone : (s.doubtTender t).engine = s.engine ∧ (s.doubtTender t).meter = s.meter := by
      unfold State.doubtTender
      split <;> simp
    obtain ⟨hengine, hmeter⟩ := ih (s.doubtTender t)
    exact ⟨hengine.trans hone.1, hmeter.trans hone.2⟩

theorem State.restoreTenders_keepsTrip (s : State) (rec_ : SaveRecord) :
    s.keepsTrip (s.restoreTenders rec_) := by
  unfold State.restoreTenders
  split
  · next t _ =>
    obtain ⟨hengine, hmeter⟩ := State.foldl_doubtTender_keeps t.record.tenders
      { s with pay := { s.pay with tenders := t.record.tenders } }
    exact State.keepsTrip_of hengine (by rw [hmeter]) (by rw [hmeter]) (by rw [hmeter])
  · exact s.keepsTrip_refl

/-- SHIFT_LIMIT leaves a meter that is not VACANT as it stands (R98). -/
theorem State.setLimit_keepsTrip (h : s.meter.state ≠ .vacant) : s.keepsTrip s.setLimit := by
  cases hr : s.acct.shift.record with
  | none =>
    simp only [State.setLimit, hr]
    exact s.keepsTrip_refl
  | some r =>
    have hmeter : (s.limitNoticed r).meter = s.meter := by simp
    have htold : (s.limitNoticed r).limitTold = s.limitNoticed r := if_neg (by rw [hmeter]; exact h)
    have hengine : (s.limitNoticed r).engine = s.engine := by simp [State.limitNoticed]
    rw [State.setLimit_eq hr, htold]
    exact State.keepsTrip_of (by simp [hengine]) (by simp) (by simp) (by simp)

theorem State.restoreShift_keepsTrip (cause : Cause) (h : s.meter.state ≠ .vacant) :
    s.keepsTrip (s.restoreShift cause) := by
  have hshift (v : State) (f : ShiftRecord → ShiftRecord) : v.keepsTrip (v.modShift f) :=
    State.keepsTrip_of rfl rfl rfl rfl
  have hlimit : s.keepsTrip (if s.limitReached then s.setLimit else s) :=
    State.keepsTrip_ite (State.setLimit_keepsTrip h) s.keepsTrip_refl
  exact State.keepsTrip_ite (State.keepsTrip_trans hlimit (hshift _ _)) hlimit

theorem State.startWrites_keepsTrip (s : State) (c : CauseRecord) : s.keepsTrip (s.startWrites c) := by
  unfold State.startWrites
  simp only
  split <;> exact State.keepsTrip_of (by simp [State.begin]) (by simp [State.begin]) (by simp [State.begin])
    (by simp [State.begin])

theorem State.startBlocks_keepsTrip (h : s.tableFree) (cause : Cause) (lost : Bool) (ambient : Nat) :
    (s.readied cause lost).keepsTrip (s.startUp cause lost ambient) := by
  obtain ⟨-, -, -, -, -, hmeter, hengine, -⟩ := (s.readied cause lost).blocksStarted_keeps ambient
  rw [State.startUp_drains h]
  exact State.keepsTrip_of (by simp [hengine]) (by simp [hmeter]) (by simp [hmeter]) (by simp [hmeter])

/-- The state in which a pin reset has restored a trip of its checkpoint. -/
def State.tripReset (s : State) (lost : Bool) (saved : SavedTrip) : State :=
  let b := s.startBase .pin lost
  b.tripRestored saved (b.restoredMeter s.store.checkpoint)

theorem State.restoredMeter_ne_vacant (s : State) (rec_ : SaveRecord) : s.restoredMeter rec_ ≠ .vacant := by
  unfold State.restoredMeter
  rcases restoredState_eq rec_.meter (rec_.timeInvalid || s.time.backup.timeInvalid)
    (outage rec_.time s.now s.mgmt.metrology.tariffSet.general.resumeLimit)
    s.mgmt.metrology.tariffSet.general.resumeLimit with h | h <;> simp [h]

/-- A pin reset keeps the trip of its checkpoint through the rest of the start-up (R211). -/
theorem State.pinReset_keepsTrip (h : s.tableFree) (lost : Bool) (ambient : Nat) {saved : SavedTrip}
    (htrip : s.store.checkpoint.trip = some saved)
    (hlog : ∀ x ∈ s.store.log, x.number ≠ saved.record.number) :
    (s.tripReset lost saved).keepsTrip (s.startUp .pin lost ambient) := by
  obtain ⟨-, -, hstore, -⟩ := s.startBase_does .pin lost
  have hsource : s.store.source .pin = s.store.checkpoint := by simp [Store.source, Store.fromSave]
  have hrestorable : (s.startBase .pin lost).store.restorable s.store.checkpoint = some saved := by
    rw [hstore]
    simpa [Store.restorable, htrip, Store.logged] using hlog
  have hrestored : ((s.startBase .pin lost).countInterrupt .pin).restoreTrip (s.store.source .pin) =
      s.tripReset lost saved := by
    have hcount : (s.startBase .pin lost).countInterrupt .pin = s.startBase .pin lost :=
      if_neg (by simp)
    rw [hcount, hsource, State.restoreTrip_some hrestorable]
    rfl
  have hband := (s.tripReset lost saved).evaluateBand_keepsTrip
  have htenders := State.keepsTrip_trans hband
    ((s.tripReset lost saved).evaluateBand.restoreTenders_keepsTrip (s.store.source .pin))
  have hshift := State.keepsTrip_trans htenders (State.restoreShift_keepsTrip .pin (by
    rw [htenders.state]
    exact State.restoredMeter_ne_vacant _ _))
  have hready : (s.tripReset lost saved).keepsTrip (s.readied .pin lost) := by
    rw [State.readied, State.restored, hrestored]
    exact State.keepsTrip_trans hshift (State.startWrites_keepsTrip _ _)
  exact State.keepsTrip_trans hready (State.startBlocks_keepsTrip h .pin lost ambient)

/-- A trip saved in HIRED with valid times is HIRED again within the resume limit (R211). -/
theorem State.restoredMeter_hired {rec_ : SaveRecord} (hhired : rec_.meter = .hired)
    (hrec : rec_.timeInvalid = false) (hvalid : s.time.backup.timeInvalid = false)
    (hbefore : rec_.time ≤ s.now)
    (hlimit : s.now ≤ rec_.time + 60 * s.mgmt.metrology.tariffSet.general.resumeLimit) :
    s.restoredMeter rec_ = .hired := by
  have houtage : outage rec_.time s.now s.mgmt.metrology.tariffSet.general.resumeLimit =
      s.now - rec_.time := if_pos hbefore
  refine if_pos ⟨hhired, by simp [hrec, hvalid], ?_⟩
  rw [houtage]
  omega

theorem State.restoredMeter_pay {rec_ : SaveRecord} (h : s.time.backup.timeInvalid = true) :
    s.restoredMeter rec_ = .pay :=
  if_neg fun hall => by simp [h] at hall

end

/-- Settles O60: RESTART by its refusal and its save, the start-ups by `startUp_startedUp`, and the restored
trip by `pinReset_keepsTrip`. -/
theorem startUpsRestore : Obligations.StartUpsRestore := by
  intro s ambient
  refine ⟨fun rq h hopen => ?_, fun rq h hopen hstate => ?_, fun r c o rest hstate hw =>
    exec_restartSaveComplete_startedUp ambient hstate hw, exec_pinReset_startedUp ambient,
    fun sample hoff hw hrestore => exec_coldStart_startedUp ambient hoff hw hrestore,
    fun sample _ hlow => ?_, fun saved hpowered hw htrip hlog => ?_⟩
  · exact answered_of_eq (congrArg Host.Outcome.next ((State.whenMgmt_of _ h).trans
      (State.decideRestart_refused h hopen))) h.1 h.2.1
  · exact ⟨_, exec_mgmt_of h rfl (State.decideRestart_begins h hopen hstate), State.restart_begins h⟩
  · exact congrArg Host.Outcome.next (if_neg fun hall => absurd hall.2 (Nat.not_le.2 hlow))
  · have hstore := State.cutWrites_of_nil hw
    let v := s.cutWrites.1
    have hkept := State.pinReset_keepsTrip (s := v) (State.tableFree_nil rfl) s.cutWrites.2 ambient
      (saved := saved) (by rw [hstore]; exact htrip) (by rw [hstore]; exact hlog)
    obtain ⟨-, -, -, hmgmt, htime, -⟩ := v.startBase_does .pin s.cutWrites.2
    obtain ⟨r, hr, hnumber, hfare, hflag⟩ := hkept.trip _ rfl
    have hclock : (v.startBase .pin s.cutWrites.2).now = s.now :=
      congrArg (·.backup.counter) htime
    have hinvalid : (v.startBase .pin s.cutWrites.2).time.backup.timeInvalid = s.time.backup.timeInvalid :=
      congrArg (·.backup.timeInvalid) htime
    have hmetrology : (v.startBase .pin s.cutWrites.2).mgmt.metrology = s.store.metrology := by
      rw [hmgmt, hstore]
    refine ⟨_, r, exec_pinReset_of ambient hpowered, hr, hnumber, hfare, hflag, fun hhired hrec hvalid
      hbefore hlimit => ?_, fun htimeInvalid => ?_⟩
    · have hstate : (v.startBase .pin s.cutWrites.2).restoredMeter v.store.checkpoint = .hired :=
        State.restoredMeter_hired (by rw [hstore, hhired]) (by rw [hstore, hrec])
          (by rw [hinvalid, hvalid]) (by rw [hstore, hclock]; exact hbefore)
          (by rw [hstore, hclock, hmetrology]; exact hlimit)
      exact ⟨hkept.state.trans hstate, hkept.mode.trans
        ((State.restoredEngine_mode _ _ _).trans (if_pos hstate))⟩
    · have hstate : (v.startBase .pin s.cutWrites.2).restoredMeter v.store.checkpoint = .pay :=
        State.restoredMeter_pay (by rw [hinvalid, htimeInvalid])
      exact ⟨hkept.state.trans hstate, hkept.mode.trans
        ((State.restoredEngine_mode _ _ _).trans (if_neg (by simp [hstate]))),
        hkept.snapshot.trans (if_pos hstate)⟩

end Sys2Proof.Machine
end
